-- ==== Sys2Proof/Word.lean ====
section
/-! DEFINITION. The words the manual treats as bits, the three colour channels, and a value per channel. -/

namespace Sys2Proof

/-- A byte of a payload or of frame memory. -/
abbrev Byte := BitVec 8

/-- A 16-bit field (checksums, event sets, serials, stock codes). -/
abbrev Word16 := BitVec 16

/-- A 32-bit field (tags, batch numbers, notes). -/
abbrev Word32 := BitVec 32

/-- A deck-bus address nibble, 0..15 (R181). -/
abbrev Addr := BitVec 4

/-- The three laser channels (0.1). -/
inductive Channel where
  | r
  | g
  | b
  deriving DecidableEq, Repr

/-- One value per channel, in the manual's order red, green, blue. -/
structure Rgb (α : Type) where
  r : α
  g : α
  b : α
  deriving DecidableEq, Repr

namespace Rgb

/-- The same value in each channel. -/
def all {α : Type} (x : α) : Rgb α := ⟨x, x, x⟩

/-- The value of one channel. -/
def get {α : Type} (v : Rgb α) : Channel → α
  | .r => v.r
  | .g => v.g
  | .b => v.b

/-- The triple with one channel's value replaced. -/
def set {α : Type} (v : Rgb α) (c : Channel) (x : α) : Rgb α :=
  match c with
  | .r => { v with r := x }
  | .g => { v with g := x }
  | .b => { v with b := x }

/-- The triple with a function applied in each channel. -/
def map {α β : Type} (f : α → β) (v : Rgb α) : Rgb β := ⟨f v.r, f v.g, f v.b⟩

/-- Two triples combined channel by channel. -/
def zip {α β γ : Type} (f : α → β → γ) (v : Rgb α) (w : Rgb β) : Rgb γ :=
  ⟨f v.r w.r, f v.g w.g, f v.b w.b⟩

/-- The triple made from a function of the channel. -/
def tabulate {α : Type} (f : Channel → α) : Rgb α := ⟨f .r, f .g, f .b⟩

end Rgb

end Sys2Proof
end

