-- ==== Sys2Proof/Config.lean ====
section
/-! DEFINITION. The constants the manual fixes for the part, and the free values it leaves open. -/

namespace Sys2Proof.Config

/-- First offset of the reel-map region, and the bound of the station region (Table 2-1). -/
abbrev mapBase : Nat := 0xFFF00000

/-- Number of bytes of the frame data port's window, 4 GiB (section 2.1). -/
abbrev windowSize : Nat := 0x100000000

/-- Bytes of one reel-map record (R171). -/
abbrev recordSize : Nat := 32

/-- The most records the reel map holds, and the greatest capacity stored (R149, R171). -/
abbrev maxRecords : Nat := 32768

/-- Entries the frame queue holds at most (R1). -/
abbrev queueCapacity : Nat := 64

/-- Line records the line FIFO holds at most (R122). -/
abbrev fifoCapacity : Nat := 4

/-- Bytes of one read action at most (R50, R61). -/
abbrev chunkSize : Nat := 4096

/-- Bytes of one strip descriptor (section 2.2). -/
abbrev descriptorSize : Nat := 16

/-- The greatest length of a strip (R33). -/
abbrev maxStrip : Nat := 134217728

/-- Good periods that give lock (R115). -/
abbrev lockCount : Nat := 64

/-- FREE VALUE. The content of a byte of frame memory that nothing has written since the hard reset
numbered by the first argument: R44 leaves it undefined. DESIGN CHOICE, log entry 2. -/
opaque undefinedByte : Nat → Nat → Byte

/-- FREE VALUE. The whole seconds left on a running timer: the model counts no time. It is read under the
bound the manual sets, the timer's own period. DESIGN CHOICE, log entry 3. -/
opaque secondsLeft : Nat → Nat

end Sys2Proof.Config
end

