-- ==== Sys2Proof/Syntax.lean ====
section
/-! DEFINITION. The commands of the KN-410: one constructor of Instr for each row of spec/opcode_table.json,
with its operands. A command is one event of the part: the complete reception of a message, an access of the
frame data port, a pulse or level on a pin, the expiry of a timer, the completion of an operation. -/

namespace Sys2Proof

/-- The payload of a message whose byte layout the manual does not give (log entry 7): either its fields, or
the mark that the payload's length does not fit the kind (R189). -/
inductive Payload (α : Type) where
  | fits (fields : α)
  | misfit
  deriving DecidableEq, Repr

/-- The payload of a message whose owner tests the submitter or the entry it names before it judges the other
arguments (R19, R20, R27). A misfit carries that name when the bytes that give it are there, since the earlier tests
are then decided by it (R189; log entry 27). -/
inductive NamedPayload (α β : Type) where
  | fits (fields : α)
  | misfit (name : Option β)
  deriving DecidableEq, Repr

/-- An enumerated field: one of the named values, or a code outside the codes given (R202). -/
inductive Coded (α : Type) where
  | named (value : α)
  | unknown
  deriving DecidableEq, Repr

/-- The scanner parameters of SET_PARAM (Table 6-6). -/
inductive ScannerParam where
  | facetCount
  | period
  | tolerance
  | spinupTimeout
  | idleTimeout
  deriving DecidableEq, Repr

/-- The laser parameters of SET_PARAM (Table 7-3). -/
inductive LaserParam where
  | refDrive
  | target
  | loopShift
  | warmCount
  | warnBand
  | faultBand
  | driveLimit
  deriving DecidableEq, Repr

/-- What LASER_RESET names (R141). -/
inductive LaserTarget where
  | one (channel : Channel)
  | all
  deriving DecidableEq, Repr

/-- The six tables of a calibration set (R94). -/
inductive TableName where
  | curve (channel : Channel)
  | drive (channel : Channel)
  deriving DecidableEq, Repr

/-- The parts of the optics table (R86). -/
inductive OpticsPart where
  | facet
  | profile
  | centre
  deriving DecidableEq, Repr

/-- Fields of SET_PARAM for a scanner parameter (R121). -/
structure ScannerParamArgs where
  param : Coded ScannerParam
  value : Nat
  deriving DecidableEq, Repr

/-- Fields of SET_PARAM for a laser parameter (R145). -/
structure LaserParamArgs where
  param : LaserParam
  channel : Coded Channel
  value : Nat
  deriving DecidableEq, Repr

/-- Fields of SUBMIT_FLAT (R5, Table 1-1). -/
structure FlatArgs where
  tag : Word32
  front : Bool
  set : Nat
  width : Nat
  height : Nat
  lights : Rgb Int
  repeats : Nat
  values : Rgb Word16
  deriving DecidableEq, Repr

/-- Fields of SUBMIT_RUNOUT (R5, Table 1-1). -/
structure RunoutArgs where
  tag : Word32
  front : Bool
  count : Nat
  deriving DecidableEq, Repr

/-- Fields of CANCEL: a tag and, optionally, a submitter (R19). -/
structure CancelArgs where
  tag : Word32
  submitter : Option Nat
  deriving DecidableEq, Repr

/-- How QUERY_ENTRY names an entry (R27). -/
inductive EntryName where
  | position (p : Nat)
  | key (submitter : Nat) (tag : Word32)
  deriving DecidableEq, Repr

/-- Fields of QUERY_STRIPS (R27). -/
structure StripsArgs where
  submitter : Nat
  tag : Word32
  first : Nat
  deriving DecidableEq, Repr

/-- Fields of BEGIN_SET (R93). -/
structure BeginSetArgs where
  id : Nat
  stock : Word16
  note : Word32
  deriving DecidableEq, Repr

/-- Fields of WRITE_TABLE (R95). -/
structure WriteTableArgs where
  id : Nat
  table : Coded TableName
  start : Nat
  values : List Word16
  deriving DecidableEq, Repr

/-- Fields of SET_TRIM; the value is a signed 16-bit field (R102). -/
structure SetTrimArgs where
  id : Nat
  channel : Coded Channel
  value : Word16
  deriving DecidableEq, Repr

/-- Fields of READ_TABLE (R105). -/
structure ReadTableArgs where
  id : Nat
  table : Coded TableName
  start : Nat
  count : Nat
  deriving DecidableEq, Repr

/-- Fields of WRITE_OPTICS (R86). -/
structure WriteOpticsArgs where
  part : Coded OpticsPart
  first : Nat
  values : List Word16
  deriving DecidableEq, Repr

/-- Fields of READ_OPTICS (R87). -/
structure ReadOpticsArgs where
  part : Coded OpticsPart
  first : Nat
  deriving DecidableEq, Repr

/-- How the reception of a frame ended (R186). -/
inductive FrameEnding where
  /-- the stop bit of the next character was read dominant -/
  | badStop
  /-- the line became idle -/
  | idle
  /-- the two CRC bytes have been received -/
  | complete
  deriving DecidableEq, Repr

/-- A frame as the DBI received it: the whole characters, and how the reception ended (R181, R186). -/
structure FrameRx where
  bytes : List Byte
  ending : FrameEnding
  deriving DecidableEq, Repr

/-- The order in which the three channels take their samples at one mark. -/
inductive ChannelOrder where
  | rgb
  | rbg
  | grb
  | gbr
  | brg
  | bgr
  deriving DecidableEq, Repr

/-- What the manual leaves open within one mark (R139, R143): the order of the three samples, and how many of
them are taken before the mark is judged for lock. Log entry 8. -/
structure MarkOrder where
  channels : ChannelOrder
  judgedAfter : Fin 4
  deriving DecidableEq, Repr

/-- What a read of the frame data port asks for: a number of bytes. records is 0 for a read served as it arrives; a
read that falls together with the next event that appends several records is served when so many of them have been
written (R176; log entry 28). -/
structure ReadRequest where
  length : Nat
  records : Nat
  deriving DecidableEq, Repr

/-- The commands. A message carries the sender's address and its payload. -/
inductive Instr where
  /-- E_STOP (R166) -/
  | eStop (sender : Addr) (payload : Payload Unit)
  /-- BROADCAST_MESSAGE (R187): a complete broadcast frame of the given kind code -/
  | broadcastMessage (sender : Addr) (kind : Byte)
  /-- RECORDER_RESET (R193) -/
  | recorderReset (sender : Addr) (payload : Payload Unit)
  /-- QUERY_STATUS (R204), payload bytes -/
  | queryStatus (sender : Addr) (payload : List Byte)
  /-- RESUME (R167) -/
  | resume (sender : Addr) (payload : Payload Unit)
  /-- WAKE (R111) -/
  | wake (sender : Addr) (payload : Payload Unit)
  /-- SET_PARAM of a scanner parameter (R121) -/
  | setParam (sender : Addr) (payload : Payload ScannerParamArgs)
  /-- SET_PARAM of a laser parameter (R145) -/
  | setParamLaser (sender : Addr) (payload : Payload LaserParamArgs)
  /-- SCANNER_RESET (R118) -/
  | scannerReset (sender : Addr) (payload : Payload Unit)
  /-- LASER_RESET (R141) -/
  | laserReset (sender : Addr) (payload : Payload (Coded LaserTarget))
  /-- QUERY_SCANNER (R130) -/
  | queryScanner (sender : Addr) (payload : Payload Unit)
  /-- QUERY_LASER (R146) -/
  | queryLaser (sender : Addr) (payload : Payload Unit)
  /-- SUBMIT_STORED (R7, Table 12-4), payload bytes -/
  | submitStored (sender : Addr) (payload : List Byte)
  /-- SUBMIT_FLAT (R7) -/
  | submitFlat (sender : Addr) (payload : Payload FlatArgs)
  /-- SUBMIT_RUNOUT (R7) -/
  | submitRunout (sender : Addr) (payload : Payload RunoutArgs)
  /-- CANCEL (R19); a misfit may still name a submitter -/
  | cancel (sender : Addr) (payload : NamedPayload CancelArgs Nat)
  /-- FLUSH (R20), naming a submitter or none; a misfit may still name one -/
  | flush (sender : Addr) (payload : NamedPayload (Option Nat) Nat)
  /-- HOLD (R17) -/
  | hold (sender : Addr) (payload : Payload Unit)
  /-- RELEASE (R18) -/
  | release (sender : Addr) (payload : Payload Unit)
  /-- QUERY_QUEUE (R26) -/
  | queryQueue (sender : Addr) (payload : Payload Unit)
  /-- QUERY_ENTRY (R27) -/
  | queryEntry (sender : Addr) (payload : Payload EntryName)
  /-- QUERY_STRIPS (R27); a misfit may still name a key, as submitter and tag -/
  | queryStrips (sender : Addr) (payload : NamedPayload StripsArgs (Nat × Word32))
  /-- QUERY_MEMORY (R43) -/
  | queryMemory (sender : Addr) (payload : Payload Unit)
  /-- QUERY_READER (R66) -/
  | queryReader (sender : Addr) (payload : Payload Unit)
  /-- BEGIN_SET (R93) -/
  | beginSet (sender : Addr) (payload : Payload BeginSetArgs)
  /-- WRITE_TABLE (R95) -/
  | writeTable (sender : Addr) (payload : Payload WriteTableArgs)
  /-- PUBLISH_SET (R97), naming an id -/
  | publishSet (sender : Addr) (payload : Payload Nat)
  /-- FREE_SET (R101), naming an id -/
  | freeSet (sender : Addr) (payload : Payload Nat)
  /-- SET_TRIM (R102) -/
  | setTrim (sender : Addr) (payload : Payload SetTrimArgs)
  /-- READ_TABLE (R105) -/
  | readTable (sender : Addr) (payload : Payload ReadTableArgs)
  /-- QUERY_SET (R106), naming an id -/
  | querySet (sender : Addr) (payload : Payload Nat)
  /-- WRITE_OPTICS (R86) -/
  | writeOptics (sender : Addr) (payload : Payload WriteOpticsArgs)
  /-- READ_OPTICS (R87) -/
  | readOptics (sender : Addr) (payload : Payload ReadOpticsArgs)
  /-- QUERY_PIPELINE (R88) -/
  | queryPipeline (sender : Addr) (payload : Payload Unit)
  /-- MAG_LOAD (R149, Table 12-7), payload bytes -/
  | magLoad (sender : Addr) (payload : List Byte)
  /-- MAG_UNLOAD (R151) -/
  | magUnload (sender : Addr) (payload : Payload Unit)
  /-- GATE_READY (R153, R154), naming a film position -/
  | gateReady (sender : Addr) (payload : Payload Nat)
  /-- GATE_FAULT (R155) -/
  | gateFault (sender : Addr) (payload : Payload Unit)
  /-- ABORT_FRAME (R164) -/
  | abortFrame (sender : Addr) (payload : Payload Unit)
  /-- READ_MAP (R179), naming a record index -/
  | readMap (sender : Addr) (payload : Payload Nat)
  /-- BIND_ATTN (R197), payload bytes -/
  | bindAttn (sender : Addr) (payload : List Byte)
  /-- UNBIND (R197), payload bytes -/
  | unbind (sender : Addr) (payload : List Byte)
  /-- SET_MASK (R198), payload bytes -/
  | setMask (sender : Addr) (payload : List Byte)
  /-- ACK_EVENTS (R198), payload bytes -/
  | ackEvents (sender : Addr) (payload : List Byte)
  /-- FORCE_EVENT (R199), payload bytes -/
  | forceEvent (sender : Addr) (payload : List Byte)
  /-- READ_EVENTS (R200), payload bytes -/
  | readEvents (sender : Addr) (payload : List Byte)
  /-- UNKNOWN_KIND_MESSAGE (R189): an addressed message of a kind code outside Table 10-6 -/
  | unknownKindMessage (sender : Addr) (kind : Byte)
  /-- FRAME_DISCARD (R186): a frame that fails a check -/
  | frameDiscard (frame : FrameRx)
  /-- FRAME_IGNORED (R186): a good frame addressed to another unit -/
  | frameIgnored (sender target : Addr)
  /-- REPLY_COLLISION (R192) -/
  | replyCollision
  /-- PORT_WRITE (R31): one memory-write request, from its offset -/
  | portWrite (offset : Word32) (bytes : List Byte)
  /-- PORT_READ (R30), from its offset -/
  | portRead (offset : Word32) (request : ReadRequest)
  /-- START_OF_SCAN_MARK (R124): the ticks since the previous mark (used when the mark has a period), the three
  monitor readings, and the order of what falls together -/
  | startOfScanMark (ticks : Nat) (samples : Rgb (BitVec 12)) (order : MarkOrder)
  /-- INDEX_PULSE (R113) -/
  | indexPulse
  /-- ESTOP_N_ASSERTED (R166) -/
  | estopNAsserted
  /-- HARD_RESET (R205): RESET_N is asserted -/
  | hardReset
  /-- HARD_RESET_END (R194): power-on or the release of RESET_N, with the levels of the address straps -/
  | hardResetEnd (s1 s0 : Bool)
  /-- SPIN_UP_TIMER_EXPIRY (R116) -/
  | spinUpTimerExpiry
  /-- MISSING_MARK_TIMER_EXPIRY (R114) -/
  | missingMarkTimerExpiry
  /-- IDLE_TIMER_EXPIRY (R119) -/
  | idleTimerExpiry
  /-- STAGING_READ (R47): completion of the staging read on the channel -/
  | stagingRead
  /-- LINE_FETCH_READ (R61): completion of the line-fetch read on the channel -/
  | lineFetchRead
  /-- WRITE_BACK_MARKING (R36): completion of the marking on the channel -/
  | writeBackMarking
  /-- LINE_COMPUTED (R69): completion of a line's computation -/
  | lineComputed
  /-- ESTOP_N_DEASSERTED (R166) -/
  | estopNDeasserted
  /-- REPLY_END (R183) -/
  | replyEnd
  /-- DECK_BUS_IDLE (R186) -/
  | deckBusIdle
  /-- PCIE_LINK_UP (R44) -/
  | pcieLinkUp
  deriving DecidableEq, Repr

end Sys2Proof
end

