-- ==== Sys2Proof/Decode.lean ====
section
/-! DEFINITION. The command a word spells by the bits of spec/opcode_table.json. The table gives bits to none of its
rows, so no word spells a command (log entry 25). -/

namespace Sys2Proof

/-- The command a word of nbits bits spells: none, for no row of the table gives bits. -/
def decodeTableWord (_nbits _w : Nat) : Option Instr := none

end Sys2Proof
end

