-- ==== Sys2Proof/Machine/State.lean ====
section
/-! DEFINITION. The state of the KN-410, block by block as Table 0-2 names them, as plain data; the reasons a
step can stop; and the state right after a hard reset. -/

namespace Sys2Proof.Machine

/-- Why a command stops: no command of the part does, so there is no reason. Safe: every command has the effect the
manual gives it. -/
inductive Fault where
  deriving DecidableEq, Repr

/-- Why a command has no meaning. -/
inductive Refusal where
  /-- Raised by exec for a command that has no meaning yet; no arm of exec raises it. Safe. -/
  | notModelled (mnemonic : String)
  deriving DecidableEq, Repr

/-- The status codes of a reply (Table 10-7). -/
inductive Status where
  | ok
  | role
  | state
  | full
  | arg
  | duplicate
  | set
  | inUse
  | busy
  | badTable
  | position
  | unknownId
  | kind
  deriving DecidableEq, Repr

/-- The roles of senders (R188). -/
inductive Role where
  | job
  | transport
  | calibration
  | observer
  deriving DecidableEq, Repr

/-! ### The frame queue (chapter 1) -/

/-- The key by which masters name an entry (R1). -/
structure Key where
  submitter : Nat
  tag : Word32
  deriving DecidableEq, Repr

/-- Reject reasons (Table 1-1, Table 3-3). -/
inductive RejectReason where
  | checksum
  | lengthShort
  | lengthLong
  | stripInvalid
  | stripRange
  | stripCount
  | stockMismatch
  deriving DecidableEq, Repr

/-- States of an entry; a REJECTED entry has its reason (Table 1-1). -/
inductive EntryState where
  | queued
  | staging
  | staged
  | exposing
  | rejected (reason : RejectReason)
  deriving DecidableEq, Repr

/-- The completion part of a leaving entry (R2). -/
inductive Completion where
  | exposed
  | rejected
  | cancelled
  deriving DecidableEq, Repr

/-- Pixel formats (Table 3-5). -/
inductive PixelFormat where
  | p16
  | p16s
  | p10
  | p10s
  deriving DecidableEq, Repr

/-- Channel orders (R58). -/
inductive ChannelSequence where
  | rgb
  | bgr
  deriving DecidableEq, Repr

/-- An item of a strip map (R56). -/
structure StripItem where
  offset : Nat
  length : Nat
  start : Nat
  deriving DecidableEq, Repr

/-- The parts a STORED and a FLAT entry share (Table 1-1). -/
structure ImagePart where
  set : Nat
  width : Nat
  height : Nat
  lights : Rgb Int
  remaining : Nat
  exposed : Nat
  deriving DecidableEq, Repr

/-- The parts of a STORED entry alone (Table 1-1). -/
structure StoredPart where
  format : PixelFormat
  sequence : ChannelSequence
  flipH : Bool
  flipV : Bool
  expected : Option Word16
  tableOffset : Nat
  stripMap : Option (List StripItem)
  stagedSum : Option Word16
  completion : Option Completion
  deriving DecidableEq, Repr

/-- The kinds of entry, each with the parts it has (Table 1-1). -/
inductive EntryBody where
  | stored (image : ImagePart) (part : StoredPart)
  | flat (image : ImagePart) (values : Rgb Word16)
  | runout (count : Nat)
  deriving DecidableEq, Repr

/-- A frame queue entry (Table 1-1). -/
structure Entry where
  serial : Word16
  key : Key
  state : EntryState
  body : EntryBody
  deriving DecidableEq, Repr

/-- The held-reason set (R16). -/
structure HeldSet where
  rejected : Bool
  spoiled : Bool
  filmEnd : Bool
  operator : Bool
  deriving DecidableEq, Repr

/-- A reason for which the queue is held (R16). -/
inductive HeldReason where
  | rejected
  | spoiled
  | filmEnd
  | operator
  deriving DecidableEq, Repr

/-- The rejection record (R15). -/
structure RejectionRecord where
  serial : Word16
  key : Key
  reason : RejectReason
  deriving DecidableEq, Repr

/-- The frame queue. -/
structure FrameQueue where
  entries : List Entry
  held : HeldSet
  rejection : Option RejectionRecord
  serial : Word16
  deriving DecidableEq, Repr

/-! ### Frame memory (chapter 2) -/

/-- A contiguous range of frame memory. -/
structure Range where
  offset : Nat
  length : Nat
  deriving DecidableEq, Repr

/-- A held pin record (Table 2-4). -/
structure PinRecord where
  serial : Word16
  key : Key
  table : Range
  strips : List Range
  deriving DecidableEq, Repr

/-- Region of a dropped write (R32); PINNED carries the serial of the pinned entry. -/
inductive DropRegion where
  | pinned (serial : Word16)
  | map
  deriving DecidableEq, Repr

/-- The last-dropped-write record (R32). -/
structure DropRecord where
  offset : Nat
  length : Nat
  region : DropRegion
  deriving DecidableEq, Repr

/-- Frame memory: a list of (address, byte) pairs, addresses rising. An unlisted address holds content that
nothing has written since the last hard reset (log entry 2). -/
abbrev Memory := List Host.Cell

/-- The frame memory controller; epoch is the model's own field, the number of hard resets, which picks the
undefined content (log entry 2). -/
structure MemoryController where
  mem : Memory
  epoch : Nat
  pinA : Option PinRecord
  pinB : Option PinRecord
  lastDrop : Option DropRecord
  deriving DecidableEq, Repr

/-- The bytes a served port read returned, from its offset (R30). -/
structure PortRead where
  offset : Nat
  bytes : List Byte
  deriving DecidableEq, Repr

/-- A port read that has arrived and falls together with an append: it is served when so many more records have been
written (R176; log entry 28). -/
structure PortRequest where
  offset : Nat
  length : Nat
  records : Nat
  deriving DecidableEq, Repr

/-- The frame data port: whether its host has brought the link up (R44), the last read it served, and the read that
is not served yet. -/
structure FramePort where
  linkUp : Bool
  lastRead : Option PortRead
  waiting : Option PortRequest
  deriving DecidableEq, Repr

/-! ### The strip reader (chapter 3) -/

/-- Where a staging walk stands: before a descriptor, or within the bytes of the strip just accepted. -/
inductive StagingPlace where
  | descriptor
  | strip (next : Nat) (left : Nat) (last : Bool)
  deriving DecidableEq, Repr

/-- The staging context (R46). -/
structure Staging where
  serial : Word16
  key : Key
  tableOffset : Nat
  k : Nat
  strips : List StripItem
  total : Nat
  bytes : Nat
  sum : Nat
  odd : Option Byte
  expectedLength : Nat
  expectedSum : Option Word16
  place : StagingPlace
  deriving DecidableEq, Repr

/-- The line fetch context (R59). pixels are the decoded pixels in source order; R62 places them when the line
is handed over. -/
structure LineFetch where
  serial : Word16
  y : Nat
  source : Nat
  item : Nat
  within : Nat
  bytesRead : Nat
  carry : List Byte
  pixels : List (Rgb Nat)
  deriving DecidableEq, Repr

/-- The action that occupies the read channel, with what it read at its grant (R64). -/
inductive ChannelAction where
  | fetch (bytes : List Byte)
  | mark (control : Byte)
  | staging (bytes : List Byte)
  deriving DecidableEq, Repr

/-- The read channel: one action in progress, one waiting action per requester (R64). -/
structure ReadChannel where
  busy : Option ChannelAction
  waitFetch : Bool
  waitMark : Bool
  waitStage : Bool
  deriving DecidableEq, Repr

/-- The strip reader (Table 3-1). -/
structure StripReader where
  staging : Option Staging
  fetch : Option LineFetch
  wbList : List Key
  wbPos : Nat
  channel : ReadChannel
  deriving DecidableEq, Repr

/-! ### The exposure pipeline and the calibration store (chapters 4, 5) -/

/-- The optics table (Table 4-7). -/
structure Optics where
  facet : List Nat
  profile : List Nat
  centre : Nat
  deriving DecidableEq, Repr

/-- Where the pixels of a line in COMPUTING come from: a handed-over line, or the flat values (R83). -/
inductive LineSource where
  | pixels (line : List (Rgb Nat))
  | flat (value : Rgb Nat)
  deriving DecidableEq, Repr

/-- Phase of the line production context (R68). -/
inductive LinePhase where
  | fetching
  | computing (source : LineSource)
  deriving DecidableEq, Repr

/-- The line production context (Table 4-2). -/
structure LineProduction where
  y : Nat
  phase : LinePhase
  clips : Rgb Nat
  deriving DecidableEq, Repr

/-- A line record of the line FIFO (R69, R122). -/
structure LineRecord where
  y : Nat
  codes : List (Rgb Nat)
  clips : Rgb Nat
  deriving DecidableEq, Repr

/-- The tables, names and trims of a set that is BUILDING or READY (Table 5-1). -/
structure SetContent where
  stock : Word16
  note : Word32
  curves : Rgb (List Nat)
  drives : Rgb (List Nat)
  trims : Rgb Int
  deriving DecidableEq, Repr

/-- State of a set with the parts present in it (Table 5-1). -/
inductive SetState where
  | free
  | building (content : SetContent)
  | ready (content : SetContent) (sum : Word16)
  deriving DecidableEq, Repr

/-- A calibration set record (R90). -/
structure SetRecord where
  state : SetState
  useCount : Nat
  deriving DecidableEq, Repr

/-! ### Scan timing (chapter 6) -/

/-- Scanner states (R109). -/
inductive ScannerState where
  | stopped
  | spinningUp
  | acquiring
  | locked
  | fault
  deriving DecidableEq, Repr

/-- A timer: stopped, or running from a full period, in the timer's unit. The time that has passed is not
counted (log entry 3). -/
inductive Timer where
  | stopped
  | running (full : Nat)
  deriving DecidableEq, Repr

/-- The scanner settings (Table 6-6). -/
structure ScannerSettings where
  facetCount : Nat
  period : Nat
  tolerance : Nat
  spinupTimeout : Nat
  idleTimeout : Nat
  deriving DecidableEq, Repr

/-- The scan timing unit's state that always exists (Table 6-1). -/
structure ScanTiming where
  scanner : ScannerState
  facet : Option Nat
  acq : Nat
  badRun : Nat
  lastPeriod : Option Nat
  spinUp : Timer
  missing : Timer
  idle : Timer
  settings : ScannerSettings
  deriving DecidableEq, Repr

/-- Kind of a line on the film (R125, R126). -/
inductive LineKind where
  | exposed
  | blanked
  deriving DecidableEq, Repr

/-- The output state: WAITING, or the line on the film with its kind (R123). -/
inductive OutputState where
  | waiting
  | onFilm (y : Nat) (kind : LineKind)
  deriving DecidableEq, Repr

/-! ### Laser channels (chapter 7) -/

/-- Laser channel states (R132). -/
inductive ChannelState where
  | off
  | warming
  | ready
  | fault
  deriving DecidableEq, Repr

/-- Laser channel settings (Table 7-3). -/
structure LaserSettings where
  refDrive : Nat
  target : Nat
  loopShift : Nat
  warmCount : Nat
  warnBand : Nat
  faultBand : Nat
  driveLimit : Nat
  deriving DecidableEq, Repr

/-- What a drive output carries in the present sweep (R144): the reference pulse when one was fired, and the
image codes in scan-position order; an empty list is drive 0 across the image. -/
structure Sweep where
  pulse : Option Nat
  image : List Nat
  deriving DecidableEq, Repr

/-- A laser channel unit (Table 7-1). -/
structure LaserUnit where
  state : ChannelState
  average : Nat
  lastSample : Option Nat
  samples : Nat
  band : Nat
  drift : Bool
  settings : LaserSettings
  sweep : Sweep
  deriving DecidableEq, Repr

/-! ### Gate, magazine, reel map (chapters 8, 9) -/

/-- Kind of an exposed entry in the exposure context (Table 8-6). -/
inductive FrameKind where
  | stored
  | flat
  deriving DecidableEq, Repr

/-- The exposure context (Table 8-6). -/
structure ExposureContext where
  serial : Word16
  key : Key
  kind : FrameKind
  set : Nat
  ordinal : Nat
  position : Nat
  checksum : Word16
  trims : Rgb Int
  lights : Rgb Int
  gains : Rgb Nat
  limits : Rgb Nat
  linesExposed : Nat
  linesBlanked : Nat
  deriving DecidableEq, Repr

/-- Everything that exists exactly while an exposure context exists: the context itself, the pipeline's
production state (Table 4-2), and the scan timing unit's line FIFO and output state (Table 6-1). -/
structure Exposure where
  ctx : ExposureContext
  nextLine : Nat
  entered : Nat
  line : Option LineProduction
  clips : Rgb Nat
  fifo : List LineRecord
  out : OutputState
  nextOut : Nat
  steps : Nat
  deriving DecidableEq, Repr

/-- The gate cycle, with the gate position and the exposure where they exist (R152). -/
inductive GateCycle where
  | noFilm
  | advancing
  | ready (position : Nat)
  | exposing (exposure : Exposure)
  | filmOut
  | fault
  deriving DecidableEq, Repr

/-- The tag fields of a magazine as stored (R149). -/
structure MagazineTag where
  stock : Word16
  batch : Word32
  capacity : Nat
  perforation : Byte
  deriving DecidableEq, Repr

/-- The magazine record (R149). -/
inductive Magazine where
  | absent
  | loaded (tag : MagazineTag)
  | unrecognized (tag : MagazineTag)
  deriving DecidableEq, Repr

/-- The gate controller (Table 8-1). -/
structure GateController where
  magazine : Magazine
  gate : GateCycle
  expected : Nat
  advance : Nat
  halted : Bool
  deriving DecidableEq, Repr

/-- Why an exposure record is SPOILED, or NONE (Table 9-2). -/
inductive SpoilReason where
  | none
  | underrun
  | lockLost
  | laserFault
  | gateFault
  | magRemoved
  | eStop
  | reset
  | aborted
  deriving DecidableEq, Repr

/-- Roll identity (Table 9-1). -/
structure RollIdentity where
  stock : Word16
  batch : Word32
  capacity : Nat
  deriving DecidableEq, Repr

/-- The reel map's own state; the records are bytes of frame memory (R171). -/
structure ReelMap where
  count : Nat
  live : Bool
  roll : Option RollIdentity
  deriving DecidableEq, Repr

/-! ### Attention lines (chapter 11) -/

/-- The sixteen attention events, in the order of their bits (Table 11-2). -/
inductive Event where
  | frameDone
  | advance
  | frameSpoiled
  | entryRejected
  | queueHeld
  | queueEmpty
  | entryRetired
  | magazine
  | gate
  | scanner
  | laser
  | calSet
  | pinnedWrite
  | halt
  | standby
  | filmEnd
  deriving DecidableEq, Repr

/-- One attention line (Table 11-1); its level is computed (R196). -/
structure AttentionLine where
  owner : Option Nat
  latched : Word16
  mask : Word16
  deriving DecidableEq, Repr

/-! ### The deck bus (chapter 10) and its replies -/

/-- Kind of a publication failure (Table 5-5). -/
inductive TableFailure where
  | order
  | join
  deriving DecidableEq, Repr

/-- QUERY_QUEUE (R26). -/
structure QueueReply where
  count : Nat
  leaving : Nat
  held : HeldSet
  serial : Word16
  first : Option (Word16 × EntryState × Bool)
  second : Option (Word16 × EntryState × Bool)
  rejection : Option RejectionRecord
  deriving DecidableEq, Repr

/-- One pin record in QUERY_MEMORY (R43). -/
structure PinReply where
  serial : Word16
  table : Range
  strips : Nat
  deriving DecidableEq, Repr

/-- The staging part of QUERY_READER (R66). -/
structure StagingReply where
  serial : Word16
  k : Nat
  strips : Nat
  total : Nat
  bytes : Nat
  sum : Nat
  odd : Bool
  deriving DecidableEq, Repr

/-- QUERY_READER (R66). -/
structure ReaderReply where
  staging : Option StagingReply
  fetch : Option (Word16 × Nat × Nat)
  writeBacks : Nat
  front : Option (Word16 × Nat)
  deriving DecidableEq, Repr

/-- The phase of a line in QUERY_PIPELINE (R88). -/
inductive PhaseReply where
  | fetching
  | computing
  deriving DecidableEq, Repr

/-- QUERY_PIPELINE during an exposure (R88). -/
structure PipelineReply where
  serial : Word16
  nextLine : Nat
  entered : Nat
  line : Option (Nat × PhaseReply)
  clips : Rgb Nat
  deriving DecidableEq, Repr

/-- The exposure part of QUERY_SCANNER (R130). -/
structure OutputReply where
  out : OutputState
  nextOut : Nat
  fifo : List Nat
  steps : Nat
  deriving DecidableEq, Repr

/-- QUERY_SCANNER (R130); a running timer carries the whole seconds left, and the last period is the 32-bit field of
R203. -/
structure ScannerReply where
  scanner : ScannerState
  motorEn : Bool
  facet : Option Nat
  acq : Nat
  badRun : Nat
  lastPeriod : Word32
  spinUp : Option Nat
  missing : Bool
  idle : Option Nat
  settings : ScannerSettings
  output : Option OutputReply
  deriving DecidableEq, Repr

/-- One channel of QUERY_LASER (R146); the last sample and the gain are 16-bit fields that can be absent (R203). -/
structure LaserReply where
  state : ChannelState
  drift : Bool
  average : Nat
  lastSample : Word16
  samples : Nat
  band : Nat
  gain : Word16
  settings : LaserSettings
  deriving DecidableEq, Repr

/-- The state of a set without its tables, as QUERY_SET reports it (R106). -/
inductive SetSummary where
  | free
  | building (stock : Word16) (note : Word32) (trims : Rgb Int)
  | ready (stock : Word16) (note : Word32) (trims : Rgb Int) (sum : Word16)
  deriving DecidableEq, Repr

/-- The data of a reply, after the status byte (R190). bytes is used where chapter 12 lays the data out byte
by byte; the other forms carry the values the owning rule names (log entry 7). -/
inductive ReplyData where
  | none
  | bytes (data : List Byte)
  | recorderReset (aborted : Option (Word16 × Nat)) (flushed : Nat)
  | scannerState (state : ScannerState)
  | storedValue (value : Nat)
  | laserStates (states : Rgb ChannelState)
  | scanner (reply : ScannerReply)
  | lasers (reply : Rgb LaserReply)
  | cancelled (count : Nat)
  | held (set : HeldSet)
  | queue (reply : QueueReply)
  | entry (position : Nat) (entry : Entry) (items : Option Nat)
  | strips (items : List StripItem) (total : Nat)
  | memory (drop : Option DropRecord) (a b : Option PinReply)
  | reader (reply : ReaderReply)
  | setId (id : Nat)
  | tableWritten (table : TableName) (start stored clamped : Nat)
  | published (id : Nat) (stock : Word16) (sum : Word16)
  | badTable (table : TableName) (node : Nat) (failure : TableFailure) (before value : Nat)
  | inUse (count : Nat)
  | trim (channel : Channel) (value : Int) (clamped : Bool)
  | nodes (table : TableName) (start count : Nat) (values : List Nat)
  | set (summary : SetSummary) (useCount : Nat)
  | opticsWritten (part : OpticsPart) (first stored : Nat)
  | optics (part : OpticsPart) (first : Nat) (values : List Nat) (facetCount : Nat)
  | pipeline (reply : Option PipelineReply)
  | aborted (serial : Word16) (position : Nat)
  | gateReady (position appended : Nat)
  | line (number : Nat)
  | mask (mask latched : Word16)
  | latched (latched : Word16)
  deriving DecidableEq, Repr

/-- The reply frame in progress: its sender is the part's unit address (R190). -/
structure Reply where
  target : Addr
  kind : Byte
  status : Status
  data : ReplyData
  deriving DecidableEq, Repr

/-- The deck bus interface (Table 10-1). waitIdle: the DBI takes no start mark before the line has been idle
(R186, R192, R194). -/
structure DeckBus where
  unitAddr : Nat
  rx : Option Instr
  reply : Option Reply
  waitIdle : Bool
  deriving DecidableEq, Repr

/-- Levels of the input pins ESTOP_N and RESET_N (LOW is asserted), and the number of pulses LSTEP has
issued, the model's own count of that output (log entry 16). -/
structure Pins where
  estopLow : Bool
  resetLow : Bool
  lstep : Nat
  deriving DecidableEq, Repr

/-- The KN-410. -/
structure State where
  dbi : DeckBus
  port : FramePort
  fmc : MemoryController
  fq : FrameQueue
  sr : StripReader
  optics : Optics
  cs : Vector SetRecord 8
  stu : ScanTiming
  lcu : Rgb LaserUnit
  gc : GateController
  rm : ReelMap
  au : Vector AttentionLine 4
  pins : Pins
  free : Nat
  pending : List Instr
  deriving DecidableEq, Repr

/-! ### Reset values -/

/-- Table 6-6, defaults. -/
def ScannerSettings.default : ScannerSettings := ⟨8, 20000, 16, 20, 600⟩

/-- Table 7-3, defaults. -/
def LaserSettings.default : LaserSettings := ⟨2048, 2000, 6, 512, 8, 32, 4095⟩

/-- Table 4-7, defaults. -/
def Optics.default : Optics := ⟨List.replicate 16 16384, List.replicate 33 16384, 4096⟩

/-- No drive in the sweep (R144). -/
def Sweep.rest : Sweep := ⟨none, []⟩

/-- R147. -/
def LaserUnit.afterReset : LaserUnit := ⟨.off, 0, none, 0, 0, false, .default, .rest⟩

/-- R131. -/
def ScanTiming.afterReset : ScanTiming :=
  ⟨.stopped, none, 0, 0, none, .stopped, .stopped, .stopped, .default⟩

/-- R64, R67: the channel is idle. -/
def ReadChannel.idle : ReadChannel := ⟨none, false, false, false⟩

/-- R67. -/
def StripReader.afterReset : StripReader := ⟨none, none, [], 0, .idle⟩

/-- The empty held-reason set. -/
def HeldSet.empty : HeldSet := ⟨false, false, false, false⟩

/-- R28. -/
def FrameQueue.afterReset : FrameQueue := ⟨[], .empty, none, 0⟩

/-- R107. -/
def SetRecord.afterReset : SetRecord := ⟨.free, 0⟩

/-- R201. -/
def AttentionLine.afterReset : AttentionLine := ⟨none, 0, 0⟩

/-- R185: the unit address the straps select. -/
def unitAddress (s1 s0 : Bool) : Nat := 12 + 2 * s1.toNat + s0.toNat

/-- The hard-reset values of every block, with the strap levels, the level of ESTOP_N and the model's own
counters given (R28, R44, R67, R89, R107, R131, R147, R169, R180, R194, R201). -/
def State.afterHardReset (s1 s0 estopLow : Bool) (epoch lstep free : Nat) (pending : List Instr) : State where
  dbi := ⟨unitAddress s1 s0, none, none, true⟩
  port := ⟨false, none, none⟩
  fmc := ⟨[], epoch, none, none, none⟩
  fq := .afterReset
  sr := .afterReset
  optics := .default
  cs := Vector.replicate 8 .afterReset
  stu := .afterReset
  lcu := .all .afterReset
  gc := ⟨.absent, .noFilm, 0, 0, estopLow⟩
  rm := ⟨0, false, none⟩
  au := Vector.replicate 4 .afterReset
  pins := ⟨estopLow, false, lstep⟩
  free := free
  pending := pending

/-- The machine right after a hard reset, with the straps tied low and ESTOP_N released (log entry 1). -/
def State.reset : State := .afterHardReset false false false 0 0 0 []

end Sys2Proof.Machine
end

