-- ==== Sys2Proof/Machine/Ops.lean ====
section
/-! DEFINITION. Named operations over the state: replacing a block, frame memory (section 2.1, R30), numbers in
big-endian bytes (chapter 12), and looking up entries, sets and the exposure. -/

namespace Sys2Proof.Machine

/-! ### Replacing one block -/

/-- The state with the deck bus interface replaced. -/
def State.withDbi (s : State) (v : DeckBus) : State := { s with dbi := v }

/-- The state with the frame data port replaced. -/
def State.withPort (s : State) (v : FramePort) : State := { s with port := v }

/-- The state with the frame memory controller replaced. -/
def State.withFmc (s : State) (v : MemoryController) : State := { s with fmc := v }

/-- The state with the frame queue replaced. -/
def State.withFq (s : State) (v : FrameQueue) : State := { s with fq := v }

/-- The state with the strip reader replaced. -/
def State.withSr (s : State) (v : StripReader) : State := { s with sr := v }

/-- The state with the optics table replaced. -/
def State.withOptics (s : State) (v : Optics) : State := { s with optics := v }

/-- The state with the calibration store replaced. -/
def State.withCs (s : State) (v : Vector SetRecord 8) : State := { s with cs := v }

/-- The state with the scan timing unit replaced. -/
def State.withStu (s : State) (v : ScanTiming) : State := { s with stu := v }

/-- The state with the laser channel units replaced. -/
def State.withLcu (s : State) (v : Rgb LaserUnit) : State := { s with lcu := v }

/-- The state with the gate controller replaced. -/
def State.withGc (s : State) (v : GateController) : State := { s with gc := v }

/-- The state with the reel map replaced. -/
def State.withRm (s : State) (v : ReelMap) : State := { s with rm := v }

/-- The state with the attention unit replaced. -/
def State.withAu (s : State) (v : Vector AttentionLine 4) : State := { s with au := v }

/-- The state with the pins replaced. -/
def State.withPins (s : State) (v : Pins) : State := { s with pins := v }

/-- The state with the model's free-value counter replaced. -/
def State.withFree (s : State) (v : Nat) : State := { s with free := v }

/-- The state with the queue of commands replaced. -/
def State.withPending (s : State) (v : List Instr) : State := { s with pending := v }

/-! ### Numbers and bytes: every multi-byte field is big-endian (chapter 12) -/

/-- The k bytes of a number, high byte first. -/
def beBytes : Nat → Nat → List Byte
  | 0, _ => []
  | k + 1, n => BitVec.ofNat 8 (n / 256 ^ k) :: beBytes k n

/-- The number whose bytes, high byte first, follow the digits already read. -/
def beNatFrom : Nat → List Byte → Nat
  | n, [] => n
  | n, b :: bs => beNatFrom (256 * n + b.toNat) bs

/-- The number whose bytes are given, high byte first. -/
def beNat (bs : List Byte) : Nat := beNatFrom 0 bs

/-- The number in the n bytes of a list from a place on. -/
def beField (bs : List Byte) (place n : Nat) : Nat := beNat ((bs.drop place).take n)

/-- One byte of a list, 0 past its end. -/
def byteField (bs : List Byte) (place : Nat) : Byte := bs.getD place 0

/-- A signed field of 16 bits (chapter 12: two's complement). -/
def signedField (bs : List Byte) (place : Nat) : Int := (BitVec.ofNat 16 (beField bs place 2)).toInt

/-- A signed number as 16 bits, two's complement. -/
def signedWord (n : Int) : Nat := (BitVec.ofInt 16 n).toNat

/-! ### Frame memory -/

/-- What a listed address holds; none for an address nothing has written (log entry 2). -/
def Memory.find : Memory → Nat → Option Byte
  | [], _ => none
  | c :: m, a => if c.1 = a then some c.2 else Memory.find m a

/-- The memory with one byte put at its place in the rising order. -/
def Memory.insert : Memory → Nat → Byte → Memory
  | [], a, b => [(a, b)]
  | c :: m, a, b =>
    if a < c.1 then (a, b) :: c :: m
    else if a = c.1 then (a, b) :: m
    else c :: Memory.insert m a b

/-- One byte written; the window ends at 0xFFFF_FFFF and nothing lies beyond it (section 2.1). -/
def Memory.put (m : Memory) (a : Nat) (b : Byte) : Memory :=
  if a < Config.windowSize then m.insert a b else m

/-- Bytes written at consecutive addresses. -/
def Memory.write : Memory → Nat → List Byte → Memory
  | m, _, [] => m
  | m, a, b :: bs => Memory.write (m.put a b) (a + 1) bs

/-- The canonical form: addresses strictly rising and inside the window. -/
def Memory.wf : Memory → Bool
  | [] => true
  | [c] => decide (c.1 < Config.windowSize)
  | c :: d :: m => decide (c.1 < d.1) && Memory.wf (d :: m)

/-- One byte of frame memory as it stands (R30). An address nothing has written since the hard reset reads the
free value of log entry 2. -/
def State.readByte (s : State) (a : Nat) : Byte :=
  (s.fmc.mem.find a).getD (Config.undefinedByte s.fmc.epoch a)

/-- The bytes of frame memory at n consecutive addresses. -/
def State.readBytes (s : State) : Nat → Nat → List Byte
  | _, 0 => []
  | a, n + 1 => s.readByte a :: s.readBytes (a + 1) n

/-- Bytes written to frame memory as one memory action (R30). -/
def State.writeBytes (s : State) (a : Nat) (bs : List Byte) : State :=
  s.withFmc { s.fmc with mem := s.fmc.mem.write a bs }

/-! ### Reads of the frame data port -/

/-- R30: a port read is served: it returns the bytes as they stand. -/
def State.serveRead (s : State) (offset length : Nat) : State :=
  s.withPort { s.port with lastRead := some ⟨offset, s.readBytes offset length⟩ }

/-- The read in flight is served (log entry 28). -/
def State.serveWaiting (s : State) : State :=
  match s.port.waiting with
  | some r => (s.withPort { s.port with waiting := none }).serveRead r.offset r.length
  | none => s

/-- R176: one record of the several that an event appends has been written: the read in flight is served when it
waited for this one. -/
def State.recordWritten (s : State) : State :=
  match s.port.waiting with
  | some r =>
    if r.records ≤ 1 then s.serveWaiting
    else s.withPort { s.port with waiting := some { r with records := r.records - 1 } }
  | none => s

/-- R176: the last record of an event has been written: a read in flight that waits for more of them than the event
appended is served; the first state is the one before the event. -/
def State.recordsEnd (before s : State) : State :=
  if s.port.waiting = before.port.waiting then s else s.serveWaiting

/-! ### Entries of the frame queue -/

/-- The image part of a STORED or FLAT entry. -/
def Entry.image? (e : Entry) : Option ImagePart :=
  match e.body with
  | .stored i _ => some i
  | .flat i _ => some i
  | .runout _ => none

/-- The parts of a STORED entry. -/
def Entry.stored? (e : Entry) : Option StoredPart :=
  match e.body with
  | .stored _ p => some p
  | .flat _ _ => none
  | .runout _ => none

/-- An entry of kind STORED or FLAT. -/
def Entry.isImage (e : Entry) : Bool := e.image?.isSome

/-- An entry of kind STORED. -/
def Entry.isStored (e : Entry) : Bool := e.stored?.isSome

/-- An entry of kind RUNOUT. -/
def Entry.isRunout (e : Entry) : Bool := !e.isImage

/-- R2: an entry that is leaving carries the completion part. -/
def Entry.leaving (e : Entry) : Bool :=
  match e.stored? with
  | some p => p.completion.isSome
  | none => false

/-- The reject reason of a REJECTED entry. -/
def Entry.rejected? (e : Entry) : Option RejectReason :=
  match e.state with
  | .rejected r => some r
  | _ => none

/-- The entry with another state. -/
def Entry.withState (e : Entry) (st : EntryState) : Entry := { e with state := st }

/-- The entry with its STORED parts changed. -/
def Entry.mapStored (e : Entry) (f : StoredPart → StoredPart) : Entry :=
  match e.body with
  | .stored i p => { e with body := .stored i (f p) }
  | .flat _ _ => e
  | .runout _ => e

/-- The entry with its image part changed. -/
def Entry.mapImage (e : Entry) (f : ImagePart → ImagePart) : Entry :=
  match e.body with
  | .stored i p => { e with body := .stored (f i) p }
  | .flat i v => { e with body := .flat (f i) v }
  | .runout _ => e

/-- The first entry with a key; by R1 there is at most one. -/
def findEntry (es : List Entry) (k : Key) : Option Entry := es.find? (fun e => e.key == k)

/-- The entries with the one of a key changed. -/
def changeEntry : List Entry → Key → (Entry → Entry) → List Entry
  | [], _, _ => []
  | e :: es, k, f => if e.key = k then f e :: es else e :: changeEntry es k f

/-- The entries with the one at a position changed. -/
def changeAt : List Entry → Nat → (Entry → Entry) → List Entry
  | [], _, _ => []
  | e :: es, 0, f => f e :: es
  | e :: es, n + 1, f => e :: changeAt es n f

/-- The position of the entry with a key. -/
def positionOf : List Entry → Key → Option Nat
  | [], _ => none
  | e :: es, k => if e.key = k then some 0 else (positionOf es k).map (· + 1)

/-- The head, position 0 (R1). -/
def State.head? (s : State) : Option Entry := s.fq.entries.head?

/-- The state with the list of entries replaced. -/
def State.withEntries (s : State) (es : List Entry) : State := s.withFq { s.fq with entries := es }

/-- The list holds an entry of kind STORED or FLAT, leaving or not (R110, R119). -/
def State.hasImageEntry (s : State) : Bool := s.fq.entries.any Entry.isImage

/-! ### Sets -/

/-- The record of a set; ids above 7 name none (R90). -/
def State.setAt (s : State) (id : Nat) : SetRecord := (s.cs[id]?).getD .afterReset

/-- The state with a set's record replaced. -/
def State.withSet (s : State) (id : Nat) (r : SetRecord) : State := s.withCs (s.cs.setIfInBounds id r)

/-- The content of a READY set. -/
def SetRecord.ready? (r : SetRecord) : Option SetContent :=
  match r.state with
  | .ready c _ => some c
  | .building _ => none
  | .free => none

/-- R100: one reference to a set more. -/
def State.addReference (s : State) (id : Nat) : State :=
  s.withSet id { s.setAt id with useCount := (s.setAt id).useCount + 1 }

/-- R100: one reference to a set fewer. -/
def State.dropReference (s : State) (id : Nat) : State :=
  s.withSet id { s.setAt id with useCount := (s.setAt id).useCount - 1 }

/-! ### The exposure -/

/-- The exposure in progress. -/
def State.exposure? (s : State) : Option Exposure :=
  match s.gc.gate with
  | .exposing x => some x
  | .noFilm => none
  | .advancing => none
  | .ready _ => none
  | .filmOut => none
  | .fault => none

/-- The state with the gate cycle replaced. -/
def State.withGate (s : State) (g : GateCycle) : State := s.withGc { s.gc with gate := g }

/-- The state with the exposure changed, when there is one. -/
def State.mapExposure (s : State) (f : Exposure → Exposure) : State :=
  match s.gc.gate with
  | .exposing x => s.withGate (.exposing (f x))
  | .noFilm => s
  | .advancing => s
  | .ready _ => s
  | .filmOut => s
  | .fault => s

/-- The gate cycle is EXPOSING (R152). -/
def State.isExposing (s : State) : Bool := s.exposure?.isSome

/-- The gate position (Table 8-3). -/
def State.gatePosition? (s : State) : Option Nat :=
  match s.gc.gate with
  | .ready q => some q
  | .exposing x => some x.ctx.position
  | .noFilm => none
  | .advancing => none
  | .filmOut => none
  | .fault => none

/-- The tag of a LOADED magazine. -/
def State.loadedTag? (s : State) : Option MagazineTag :=
  match s.gc.magazine with
  | .loaded t => some t
  | .absent => none
  | .unrecognized _ => none

/-- The capacity of the LOADED magazine, 0 when none is LOADED. -/
def State.capacity (s : State) : Nat :=
  match s.loadedTag? with
  | some t => t.capacity
  | none => 0

/-- Film remaining: capacity minus record count while a magazine is LOADED (R150). -/
def State.filmRemaining? (s : State) : Option Nat :=
  s.loadedTag?.map (fun t => t.capacity - s.rm.count)

/-! ### Pins of the part -/

/-- MOTOR_EN follows the scanner state (Table 6-2) and is deasserted while RESET_N is asserted (R205). -/
def State.motorEn (s : State) : Bool :=
  !s.pins.resetLow &&
    match s.stu.scanner with
    | .spinningUp => true
    | .acquiring => true
    | .locked => true
    | .stopped => false
    | .fault => false

/-- The scanner is turning: ACQUIRING or LOCKED (7.1). -/
def State.turning (s : State) : Bool :=
  match s.stu.scanner with
  | .acquiring => true
  | .locked => true
  | .stopped => false
  | .spinningUp => false
  | .fault => false

/-- The state with one laser channel unit changed. -/
def State.mapLaser (s : State) (c : Channel) (f : LaserUnit → LaserUnit) : State :=
  s.withLcu (s.lcu.set c (f (s.lcu.get c)))

/-- The state with every laser channel unit changed. -/
def State.mapLasers (s : State) (f : LaserUnit → LaserUnit) : State := s.withLcu (s.lcu.map f)

/-- All three drive outputs drop to 0 at once (R129, R139, R144). -/
def State.dropDrives (s : State) : State := s.mapLasers (fun u => { u with sweep := .rest })

end Sys2Proof.Machine
end

