-- ==== Sys2Proof/Machine/Flags.lean ====
section
/-! DEFINITION. The attention unit's event sets: numbering, latching into every line, and the level of a line
(chapter 11, R195, R196). -/

namespace Sys2Proof.Machine

/-- The number Table 11-2 gives an event, its bit in every event set (R195). -/
def Event.bit : Event → Nat
  | .frameDone => 0
  | .advance => 1
  | .frameSpoiled => 2
  | .entryRejected => 3
  | .queueHeld => 4
  | .queueEmpty => 5
  | .entryRetired => 6
  | .magazine => 7
  | .gate => 8
  | .scanner => 9
  | .laser => 10
  | .calSet => 11
  | .pinnedWrite => 12
  | .halt => 13
  | .standby => 14
  | .filmEnd => 15

/-- The event set with one member. -/
def Event.set (e : Event) : Word16 := BitVec.ofNat 16 (2 ^ e.bit)

/-- A line with the events of a set latched beside those it holds (R195, R199). -/
def AttentionLine.latch (l : AttentionLine) (events : Word16) : AttentionLine :=
  { l with latched := l.latched ||| events }

/-- A line with the events of a set removed from its latched set (R198). -/
def AttentionLine.acknowledge (l : AttentionLine) (events : Word16) : AttentionLine :=
  { l with latched := l.latched &&& ~~~events }

/-- A function applied to each of the four lines. -/
def mapLines (f : AttentionLine → AttentionLine) (v : Vector AttentionLine 4) : Vector AttentionLine 4 :=
  #v[f v[0], f v[1], f v[2], f v[3]]

/-- R195: a block raises an event; the attention unit latches it into all four lines. -/
def State.raise (s : State) (e : Event) : State := s.withAu (mapLines (·.latch e.set) s.au)

/-- R195: several events raised at one event. -/
def State.raiseAll : State → List Event → State
  | s, [] => s
  | s, e :: es => State.raiseAll (s.raise e) es

/-- R196: the line shares an event between its latched set and its mask. -/
def AttentionLine.asserted (l : AttentionLine) : Bool := l.latched &&& l.mask != 0

/-- The level of ATNn_N: driven LOW under R196, released while RESET_N is asserted. -/
def State.attentionLow (s : State) (n : Nat) : Bool :=
  !s.pins.resetLow && ((s.au[n]?).elim false AttentionLine.asserted)

end Sys2Proof.Machine
end

