-- ==== Sys2Proof/Machine/Operands.lean ====
section
/-! DEFINITION. The forms in which operands and results cross the deck bus and the descriptors: roles, kind codes,
status codes, the CRC, the checks of a frame, the payload layouts of chapter 12, and the byte layouts of replies,
strip descriptors and reel-map records. -/

namespace Sys2Proof.Machine

/-! ### Senders, kinds, status codes -/

/-- R186: a sender address 0 or 12..15 belongs to no sender of messages. -/
def senderValid (a : Addr) : Bool := 1 ≤ a.toNat && a.toNat ≤ 11

/-- R188: the role of a sender address. -/
def roleOf (a : Addr) : Role :=
  if a.toNat ≤ 3 then .job
  else if a.toNat = 4 then .transport
  else if a.toNat = 5 then .calibration
  else .observer

/-- The kind codes of Table 10-6, in its order. -/
def kindCodes : List Byte :=
  [0x01, 0x02, 0x03, 0x04, 0x05, 0x06, 0x07, 0x08, 0x09, 0x0A] ++
  [0x10, 0x11, 0x12, 0x13, 0x14, 0x15, 0x16, 0x17, 0x18, 0x19, 0x1A, 0x1B] ++
  [0x20, 0x21, 0x22, 0x23, 0x24, 0x25, 0x26, 0x27, 0x28, 0x29] ++
  [0x30, 0x31, 0x32, 0x33, 0x34, 0x35] ++
  [0x40, 0x41, 0x42, 0x43, 0x44, 0x45]

/-- The kind code of E_STOP (Table 10-6). -/
abbrev eStopCode : Byte := 0x01

/-- The status byte of a code (Table 10-7). -/
def Status.byte : Status → Byte
  | .ok => 0x00
  | .role => 0x01
  | .state => 0x02
  | .full => 0x03
  | .arg => 0x04
  | .duplicate => 0x05
  | .set => 0x06
  | .inUse => 0x07
  | .busy => 0x08
  | .badTable => 0x09
  | .position => 0x0A
  | .unknownId => 0x0B
  | .kind => 0x0C

/-! ### The CRC and the checks of a frame (R184, R186) -/

/-- One bit enters the CRC register, most significant bit first (R184). -/
def crcBit (register : Word16) (bit : Bool) : Word16 :=
  if register.msb != bit then (register <<< 1) ^^^ 0x1021 else register <<< 1

/-- One byte enters the CRC register (R184). -/
def crcByte (register : Word16) (b : Byte) : Word16 :=
  [7, 6, 5, 4, 3, 2, 1, 0].foldl (fun r i => crcBit r (b.getLsbD i)) register

/-- The CRC of a run of bytes: generator x^16 + x^12 + x^5 + 1, start 0xFFFF, nothing reflected or inverted
(R184). -/
def crc16 (bs : List Byte) : Word16 := bs.foldl crcByte 0xFFFF

/-- The checks of Table 10-4. -/
inductive FrameCheck where
  | framing
  | length
  | sender
  | completeness
  | crc
  deriving DecidableEq, Repr

/-- The first failing check of a received frame (R186), none for a good frame. The checks that a byte decides
stand before the check that ended the reception. -/
def FrameRx.failure (f : FrameRx) : Option FrameCheck :=
  let header := byteField f.bytes 0
  let n := (byteField f.bytes 2).toNat
  if 1 ≤ f.bytes.length ∧ ¬ senderValid (header.extractLsb' 4 4) then some .sender
  else if 3 ≤ f.bytes.length ∧ 48 < n then some .length
  else if f.ending = .badStop then some .framing
  else if f.bytes.length ≠ 5 + n ∨ f.ending = .idle then some .completeness
  else if beField f.bytes (3 + n) 2 ≠ (crc16 (f.bytes.take (3 + n))).toNat then some .crc
  else none

/-! ### Payload layouts (chapter 12) -/

/-- Fields of SUBMIT_STORED as laid out in Table 12-4. Enumerated fields outside their codes read as none. -/
structure StoredArgs where
  tag : Word32
  front : Bool
  flipH : Bool
  flipV : Bool
  set : Nat
  format : Option PixelFormat
  sequence : Option ChannelSequence
  repeats : Nat
  width : Nat
  height : Nat
  lights : Rgb Int
  expected : Option Word16
  tableOffset : Nat
  deriving DecidableEq, Repr

/-- Format codes of Table 12-4. -/
def formatOf (b : Byte) : Option PixelFormat :=
  if b = 0 then some .p16
  else if b = 1 then some .p16s
  else if b = 2 then some .p10
  else if b = 3 then some .p10s
  else none

/-- Channel-order codes of Table 12-4. -/
def sequenceOf (b : Byte) : Option ChannelSequence :=
  if b = 0 then some .rgb
  else if b = 1 then some .bgr
  else none

/-- A SUBMIT_STORED payload: exactly 26 bytes, reserved bits and bytes ignored (R202, Table 12-4). -/
def parseStored (bs : List Byte) : Option StoredArgs :=
  if bs.length = 26 then
    let options := byteField bs 4
    some {
      tag := BitVec.ofNat 32 (beField bs 0 4)
      front := options.getLsbD 0
      flipH := options.getLsbD 2
      flipV := options.getLsbD 3
      set := (byteField bs 5).toNat
      format := formatOf (byteField bs 6)
      sequence := sequenceOf (byteField bs 7)
      repeats := (byteField bs 8).toNat
      width := beField bs 10 2
      height := beField bs 12 2
      lights := ⟨signedField bs 14, signedField bs 16, signedField bs 18⟩
      expected := if options.getLsbD 1 then some (BitVec.ofNat 16 (beField bs 20 2)) else none
      tableOffset := beField bs 22 4 }
  else none

/-- A MAG_LOAD tag as received, capacity not yet clamped (Table 12-7). -/
structure TagArgs where
  stock : Word16
  batch : Word32
  capacity : Nat
  perforation : Byte
  deriving DecidableEq, Repr

/-- A MAG_LOAD payload: exactly 11 bytes (R202, Table 12-7). -/
def parseTag (bs : List Byte) : Option TagArgs :=
  if bs.length = 11 then
    some ⟨BitVec.ofNat 16 (beField bs 0 2), BitVec.ofNat 32 (beField bs 2 4), beField bs 6 4, byteField bs 10⟩
  else none

/-- A payload that is one line number 0..3 (section 12.7, R197, R200). -/
def parseLine (bs : List Byte) : Option Nat :=
  if bs.length = 1 ∧ (byteField bs 0).toNat ≤ 3 then some (byteField bs 0).toNat else none

/-- A payload of a line number 0..3 and an event set (section 12.7, R198). -/
def parseLineSet (bs : List Byte) : Option (Nat × Word16) :=
  if bs.length = 3 ∧ (byteField bs 0).toNat ≤ 3 then
    some ((byteField bs 0).toNat, BitVec.ofNat 16 (beField bs 1 2))
  else none

/-- The page QUERY_STATUS asks for: an empty payload or 0x00 is page 0, 0x01 page 1 (R204). -/
def parsePage : List Byte → Option Bool
  | [] => some false
  | [b] => if b = 0 then some false else if b = 1 then some true else none
  | _ :: _ :: _ => none

/-! ### Strip descriptors (Table 12-5) -/

/-- A strip descriptor as read: flags, length, offset (R33). -/
structure Descriptor where
  valid : Bool
  last : Bool
  length : Nat
  offset : Nat
  deriving DecidableEq, Repr

/-- VALID is bit 0 of the control byte. -/
def controlValid (control : Byte) : Bool := control.getLsbD 0

/-- LAST is bit 1 of the control byte. -/
def controlLast (control : Byte) : Bool := control.getLsbD 1

/-- The descriptor in 16 bytes (Table 12-5); DONE and the reserved parts are ignored (R33, R202). -/
def parseDescriptor (bs : List Byte) : Descriptor :=
  ⟨controlValid (byteField bs 0), controlLast (byteField bs 0), beField bs 4 4, beField bs 8 4⟩

/-- The control byte after marking: VALID clear, DONE set, LAST and the reserved bits as read (R36, R203). -/
def markedControl (control : Byte) : Byte := (control &&& 0xFE) ||| 0x04

/-- The outcome byte of the completion word (Table 12-5). -/
def Completion.byte : Completion → Byte
  | .exposed => 1
  | .rejected => 2
  | .cancelled => 3

/-- The completion word of descriptor 0 (R34, Table 12-5). -/
def completionWord (c : Completion) (exposed : Nat) : List Byte := [c.byte, BitVec.ofNat 8 exposed, 0, 0]

/-! ### Reel-map records (Table 12-6) -/

/-- Outcomes of a reel-map record (Table 9-2). -/
inductive RecordOutcome where
  | exposed
  | spoiled
  | blank
  | unknown
  deriving DecidableEq, Repr

/-- Outcome codes of Table 12-6. -/
def RecordOutcome.code : RecordOutcome → Nat
  | .exposed => 0
  | .spoiled => 1
  | .blank => 2
  | .unknown => 3

/-- Spoil reason codes of Table 12-6. -/
def SpoilReason.code : SpoilReason → Nat
  | .none => 0
  | .underrun => 1
  | .lockLost => 2
  | .laserFault => 3
  | .gateFault => 4
  | .magRemoved => 5
  | .eStop => 6
  | .reset => 7
  | .aborted => 8

/-- Kind codes of Table 12-6 and Table 12-3. -/
def FrameKind.code : FrameKind → Nat
  | .stored => 1
  | .flat => 2

/-- A reel-map record (Table 9-2); kind is the code of Table 12-6. -/
structure MapRecord where
  position : Nat
  outcome : RecordOutcome
  reason : SpoilReason
  kind : Nat
  submitter : Nat
  set : Nat
  ordinal : Nat
  tag : Word32
  serial : Word16
  checksum : Word16
  linesExposed : Nat
  linesBlanked : Nat
  clips : Rgb Nat
  deriving DecidableEq, Repr

/-- The 32 bytes of a record (Table 12-6); reserved bytes are written 0 (R203). -/
def MapRecord.bytes (r : MapRecord) : List Byte :=
  beBytes 2 r.position ++ beBytes 1 r.outcome.code ++ beBytes 1 r.reason.code ++ beBytes 1 r.kind ++
  beBytes 1 r.submitter ++ beBytes 1 r.set ++ beBytes 1 r.ordinal ++ beBytes 4 r.tag.toNat ++
  beBytes 2 r.serial.toNat ++ beBytes 2 r.checksum.toNat ++ beBytes 2 r.linesExposed ++
  beBytes 2 r.linesBlanked ++ beBytes 2 r.clips.r ++ beBytes 2 r.clips.g ++ beBytes 2 r.clips.b ++
  beBytes 6 0

/-- R173: the record of an exposure that ended, from the context and the frame clip counters. -/
def exposureRecord (x : ExposureContext) (clips : Rgb Nat) (outcome : RecordOutcome) (reason : SpoilReason) :
    MapRecord :=
  ⟨x.position, outcome, reason, x.kind.code, x.key.submitter, x.set, x.ordinal, x.key.tag, x.serial, x.checksum,
    x.linesExposed, x.linesBlanked, clips⟩

/-- R174: a BLANK record of a runout entry. -/
def blankRecord (position : Nat) (e : Entry) : MapRecord :=
  ⟨position, .blank, .none, 3, e.key.submitter, 0, 0, e.key.tag, e.serial, 0, 0, 0, .all 0⟩

/-- R175: an UNKNOWN record. -/
def unknownRecord (position : Nat) : MapRecord :=
  ⟨position, .unknown, .none, 0, 0, 0, 0, 0, 0, 0, 0, 0, .all 0⟩

/-- Offset of slot i of the reel-map region (R171). -/
def slotOffset (i : Nat) : Nat := Config.mapBase + Config.recordSize * i

/-! ### Reply layouts (chapter 12) -/

/-- A 16-bit field that is 0xFFFF when absent (R203). -/
def absentWord16 (v : Option Nat) : Word16 := BitVec.ofNat 16 (v.getD 0xFFFF)

/-- The 32-bit field that is 0xFFFF_FFFF when absent: the last period (R203). -/
def absentWord32 (v : Option Nat) : Word32 := BitVec.ofNat 32 (v.getD 0xFFFFFFFF)

/-- The two bytes of a 16-bit field that can be absent (R203). -/
def absentable16 (v : Option Nat) : List Byte := beBytes 2 (v.getD 0xFFFF)

/-- Magazine state codes (Table 12-2). -/
def Magazine.code : Magazine → Nat
  | .absent => 0
  | .loaded _ => 1
  | .unrecognized _ => 2

/-- The tag fields a magazine record holds, when it holds any. -/
def Magazine.tag? : Magazine → Option MagazineTag
  | .absent => none
  | .loaded t => some t
  | .unrecognized t => some t

/-- Gate state codes (Table 12-2). -/
def GateCycle.code : GateCycle → Nat
  | .noFilm => 0
  | .advancing => 1
  | .ready _ => 2
  | .exposing _ => 3
  | .filmOut => 4
  | .fault => 5

/-- The four tag fields as laid out in Table 12-2, 0 when there are none (R203). -/
def tagBytes (t : Option MagazineTag) : List Byte :=
  match t with
  | some t => beBytes 2 t.stock.toNat ++ beBytes 4 t.batch.toNat ++ beBytes 2 t.capacity ++ [t.perforation]
  | none => List.replicate 9 0

/-- The reply data of READ_MAP after the record: count, map state and roll identity (section 12.6). -/
def mapBytes (m : ReelMap) : List Byte :=
  beBytes 2 m.count ++ beBytes 1 m.live.toNat

/-- The roll identity in READ_MAP, 0 when absent (section 12.6). -/
def rollBytes (r : Option RollIdentity) : List Byte :=
  match r with
  | some r => beBytes 2 r.stock.toNat ++ beBytes 4 r.batch.toNat ++ beBytes 2 r.capacity
  | none => List.replicate 8 0

/-- QUERY_STATUS page 1 (Table 12-3). -/
def exposureBytes (x : Option ExposureContext) : List Byte :=
  [0x01] ++
  match x with
  | none => List.replicate 43 0
  | some x =>
    beBytes 1 1 ++ beBytes 2 x.serial.toNat ++ beBytes 1 x.key.submitter ++ beBytes 1 x.kind.code ++
    beBytes 1 x.set ++ beBytes 1 x.ordinal ++ beBytes 4 x.key.tag.toNat ++ beBytes 2 x.position ++
    beBytes 2 x.checksum.toNat ++
    beBytes 2 (signedWord x.trims.r) ++ beBytes 2 (signedWord x.trims.g) ++ beBytes 2 (signedWord x.trims.b) ++
    beBytes 2 (signedWord x.lights.r) ++ beBytes 2 (signedWord x.lights.g) ++ beBytes 2 (signedWord x.lights.b) ++
    beBytes 2 x.gains.r ++ beBytes 2 x.gains.g ++ beBytes 2 x.gains.b ++
    beBytes 2 x.limits.r ++ beBytes 2 x.limits.g ++ beBytes 2 x.limits.b ++
    beBytes 2 x.linesExposed ++ beBytes 2 x.linesBlanked

/-- The reply data in bytes, where chapter 12 lays them out (log entry 7). -/
def ReplyData.bytes? : ReplyData → Option (List Byte)
  | .none => some []
  | .bytes d => some d
  | _ => Option.none

/-- The whole reply frame in bytes: header, kind, length, status byte, data, CRC (R181, R190), where chapter 12
lays the data out. -/
def Reply.frame (unit : Nat) (r : Reply) : Option (List Byte) :=
  r.data.bytes?.map fun d =>
    let body := [BitVec.ofNat 8 (16 * unit + r.target.toNat), r.kind, BitVec.ofNat 8 (1 + d.length), r.status.byte] ++ d
    body ++ beBytes 2 (crc16 body).toNat

end Sys2Proof.Machine
end

