-- ==== Sys2Proof/Machine/BusLine.lean ====
section
/-! DEFINITION. The deck bus as levels on its line (R181): how a frame is sent, how a receiver reads it back, when the
line is idle, and what the part drives while it replies (R190). -/

namespace Sys2Proof.Machine

/-- The two levels of the line (R181). -/
inductive LineLevel where
  | dominant
  | recessive
  deriving DecidableEq, Repr

/-- A 0 bit is dominant and a 1 bit recessive (R181). -/
def bitLevel (bit : Bool) : LineLevel := if bit then .recessive else .dominant

/-- The line under the levels its units drive: one dominant level overrides all the others, and a line that nobody
drives is recessive (R181). -/
def lineUnder (driven : List LineLevel) : LineLevel := if driven.contains .dominant then .dominant else .recessive

/-- A character: a dominant start bit, the eight bits of the byte with the most significant first, a recessive stop
bit (R181). -/
def characterLevels (b : Byte) : List LineLevel :=
  .dominant :: [7, 6, 5, 4, 3, 2, 1, 0].map (fun i => bitLevel (b.getLsbD i)) ++ [.recessive]

/-- The characters of a run of bytes, in order. -/
def charactersLevels (bytes : List Byte) : List LineLevel := bytes.flatMap characterLevels

/-- A frame on the line, one level a bit time: the start mark, then the characters of its bytes (R181). -/
def frameLevels (bytes : List Byte) : List LineLevel := .dominant :: charactersLevels bytes

/-- The recessive bit times after which the line is idle (R181). -/
def idleBits : Nat := 20

/-- The line, as its levels up to now show it, is idle: the last 20 bit times were recessive (R181). -/
def lineIdle (levels : List LineLevel) : Bool :=
  decide (idleBits ≤ (levels.reverse.takeWhile fun l => l == .recessive).length)

/-- The byte that the eight levels between a start bit and a stop bit spell, the most significant first (R181). -/
def levelsByte (levels : List LineLevel) : Byte :=
  BitVec.ofNat 8 (levels.foldl (fun n l => 2 * n + (if l = .recessive then 1 else 0)) 0)

/-- The bytes received are a whole frame: as many as the length byte among them calls for (Table 12-1). -/
def frameWhole (bytes : List Byte) : Bool :=
  decide (3 ≤ bytes.length ∧ bytes.length = 5 + (byteField bytes 2).toNat)

/-- The characters of a frame read from the line behind the bytes already received, until the frame is whole, a stop
bit is read dominant, or the line stays recessive where a start bit is due (R181, R186; log entry 6). -/
def receiveCharacters : List Byte → List LineLevel → FrameRx
  | got, start :: a :: b :: c :: d :: e :: f :: g :: h :: stop :: rest =>
    if frameWhole got then ⟨got, .complete⟩
    else if start = .recessive then ⟨got, .idle⟩
    else if stop = .dominant then ⟨got, .badStop⟩
    else receiveCharacters (got ++ [levelsByte [a, b, c, d, e, f, g, h]]) rest
  | got, _ => ⟨got, if frameWhole got then .complete else .idle⟩

/-- A frame read from the line, from the start mark on (R181, R186). -/
def receiveFrame : List LineLevel → FrameRx
  | .dominant :: levels => receiveCharacters [] levels
  | _ => ⟨[], .idle⟩

/-- What the part drives onto the line for the reply in progress, where chapter 12 lays its data out (R181, R190; log
entry 7); none while it sends no reply, when the line is left to the others (R194). -/
def State.replyLevels (s : State) : Option (List LineLevel) :=
  (s.dbi.reply.bind fun r => r.frame s.dbi.unitAddr).map frameLevels

end Sys2Proof.Machine
end

