-- ==== Sys2Proof/Machine/Bus.lean ====
section
/-! DEFINITION. How every message meets the deck bus interface: when the DBI takes a frame, what it does with the
owning block's decision, and the refusals that all blocks share (chapter 10, R183, R186, R189, R190). -/

namespace Sys2Proof.Machine

/-- The outcome the owning block hands back: the state after the decision, the status code and the reply data
(R189). -/
structure Decision where
  state : State
  status : Status
  data : ReplyData
  deriving DecidableEq, Repr

/-- A refusal with no reply data: the state concerned is unchanged (R191). -/
def refuse (s : State) (status : Status) : Decision := ⟨s, status, .none⟩

/-- A message taken, with its reply data. -/
def accept (s : State) (data : ReplyData) : Decision := ⟨s, .ok, data⟩

/-- The DBI takes a frame: RESET_N is released, no tenure is in progress, and the DBI is not waiting for the line
to be idle (R183, R186, R192, R194). -/
def State.receives (s : State) : Bool :=
  !s.pins.resetLow && s.dbi.rx.isNone && s.dbi.reply.isNone && !s.dbi.waitIdle

/-- The DBI waits for the line to be idle before it takes the next start mark (R186). -/
def State.awaitIdle (s : State) : State := s.withDbi { s.dbi with waitIdle := true }

/-- The tenure of a decided message: the receive buffer holds the message and the reply is in progress (Table
10-1, R190). -/
def Decision.replied (d : Decision) (c : Instr) (sender : Addr) (kind : Byte) : State :=
  d.state.withDbi { d.state.dbi with rx := some c, reply := some ⟨sender, kind, d.status, d.data⟩ }

/-- R186, R189: a complete frame addressed to the part. A frame from an address that is no sender's is discarded;
otherwise the owning block decides and the reply begins. A frame that meets a tenure in progress, an asserted
RESET_N or a line not yet idle is not received (log entry 6). -/
def onMessage (c : Instr) (sender : Addr) (kind : Byte) (decide : State → Decision) (s : State) :
    Host.Outcome State Fault Refusal :=
  if s.receives then
    if senderValid sender then .next ((decide s).replied c sender kind) else .next s.awaitIdle
  else .next s

/-- A query in form: it changes nothing, and its payload is empty (R189: a misfit is ARG). -/
def query (payload : Payload Unit) (answer : State → ReplyData) (s : State) : Decision :=
  match payload with
  | .fits _ => accept s (answer s)
  | .misfit => refuse s .arg

/-- An event other than a pin level while RESET_N is asserted has no effect: every operation has ended (R205). -/
def whenRunning (f : State → State) (s : State) : Host.Outcome State Fault Refusal :=
  if s.pins.resetLow then .next s else .next (f s)

/-- Roles JOB, TRANSPORT and CALIBRATION: all but OBSERVER. -/
def Role.isMaster (r : Role) : Bool := decide (r ≠ .observer)

end Sys2Proof.Machine
end

