-- ==== Sys2Proof/Machine/Attention.lean ====
section
/-! DEFINITION. The meanings of the messages to the attention unit (R197 to R200). -/

namespace Sys2Proof.Machine

/-- The record of an attention line; a number above 3 names none. -/
def State.lineAt (s : State) (n : Nat) : AttentionLine := (s.au[n]?).getD .afterReset

/-- The state with one attention line replaced. -/
def State.withLine (s : State) (n : Nat) (l : AttentionLine) : State := s.withAu (s.au.setIfInBounds n l)

/-- The line is owned by an address other than the sender's (R197). -/
def AttentionLine.ownedByOther (l : AttentionLine) (sender : Addr) : Bool :=
  match l.owner with
  | some a => decide (a ≠ sender.toNat)
  | none => false

/-! ### BIND_ATTN and UNBIND -/

/-- R197. -/
def decideBindAttn (sender : Addr) (payload : List Byte) (s : State) : Decision :=
  match parseLine payload with
  | none => refuse s .arg
  | some n =>
    if (s.lineAt n).ownedByOther sender then refuse s .state
    else accept (s.withLine n ⟨some sender.toNat, 0, 0⟩) (.line n)

/-- BIND_ATTN. -/
def execBindAttn (sender : Addr) (payload : List Byte) (s : State) : Host.Outcome State Fault Refusal :=
  onMessage (.bindAttn sender payload) sender 0x40 (decideBindAttn sender payload) s

/-- R197. -/
def decideUnbind (sender : Addr) (payload : List Byte) (s : State) : Decision :=
  match parseLine payload with
  | none => refuse s .arg
  | some n =>
    if (s.lineAt n).ownedByOther sender then refuse s .role
    else accept (s.withLine n { s.lineAt n with owner := none }) .none

/-- UNBIND. -/
def execUnbind (sender : Addr) (payload : List Byte) (s : State) : Host.Outcome State Fault Refusal :=
  onMessage (.unbind sender payload) sender 0x41 (decideUnbind sender payload) s

/-! ### The owner's messages -/

/-- R198, Table 11-3: an owner's message tested; when it is taken, the line changed and the reply formed from the
line after it. -/
def decideOwner (change : AttentionLine → Word16 → AttentionLine) (answer : AttentionLine → ReplyData) (sender : Addr)
    (payload : List Byte) (s : State) : Decision :=
  match parseLineSet payload with
  | none => refuse s .arg
  | some (n, events) =>
    let l := s.lineAt n
    if l.owner ≠ some sender.toNat then refuse s .role
    else accept (s.withLine n (change l events)) (answer (change l events))

/-- R198: the mask replaced. -/
def AttentionLine.setMask (l : AttentionLine) (events : Word16) : AttentionLine := { l with mask := events }

/-- SET_MASK (R198). -/
def execSetMask (sender : Addr) (payload : List Byte) (s : State) : Host.Outcome State Fault Refusal :=
  onMessage (.setMask sender payload) sender 0x42
    (decideOwner .setMask (fun l => .mask l.mask l.latched) sender payload) s

/-- ACK_EVENTS (R198). -/
def execAckEvents (sender : Addr) (payload : List Byte) (s : State) : Host.Outcome State Fault Refusal :=
  onMessage (.ackEvents sender payload) sender 0x43
    (decideOwner .acknowledge (fun l => .latched l.latched) sender payload) s

/-- FORCE_EVENT (R199). -/
def execForceEvent (sender : Addr) (payload : List Byte) (s : State) : Host.Outcome State Fault Refusal :=
  onMessage (.forceEvent sender payload) sender 0x44
    (decideOwner .latch (fun l => .latched l.latched) sender payload) s

/-! ### READ_EVENTS -/

/-- Section 12.7: the reply data of READ_EVENTS. -/
def AttentionLine.bytes (l : AttentionLine) : List Byte :=
  beBytes 1 (l.owner.getD 0) ++ beBytes 2 l.latched.toNat ++ beBytes 2 l.mask.toNat ++ beBytes 1 l.asserted.toNat

/-- R200. -/
def decideReadEvents (payload : List Byte) (s : State) : Decision :=
  match parseLine payload with
  | none => refuse s .arg
  | some n => accept s (.bytes (s.lineAt n).bytes)

/-- READ_EVENTS. -/
def execReadEvents (sender : Addr) (payload : List Byte) (s : State) : Host.Outcome State Fault Refusal :=
  onMessage (.readEvents sender payload) sender 0x45 (decideReadEvents payload) s

end Sys2Proof.Machine
end

