-- ==== Sys2Proof/Machine/Arithmetic.lean ====
section
/-! DEFINITION. The whole-number arithmetic of the part: the exposure chain from code value to drive code (chapter
4), the ones' complement sums (R54, R99), pixel decoding (R57, R58), and the power gain and bands of a laser
channel (R135, R136, R142). -/

namespace Sys2Proof.Machine

/-! ### The exposure chain -/

/-- R72: node interpolation between a and b at the fraction f8. The division rounds toward minus infinity. -/
def interpolate (a b f8 : Nat) : Nat := ((a : Int) + (((b : Int) - a) * f8 + 128) / 256).toNat

/-- R74, stage 1: the print curve of a channel at a widened code value. -/
def printCurve (curve : List Nat) (v16 : Nat) : Nat :=
  interpolate (curve.getD (v16 / 256) 0) (curve.getD (v16 / 256 + 1) 0) (v16 % 256)

/-- R75, stage 2: the offset by trim and lights, with whether a clip is counted. -/
def offsetExposure (e : Nat) (trim lights : Int) : Nat × Bool :=
  let s := (e : Int) + trim + lights
  if s < 0 then (0, true) else if 65535 < s then (65535, true) else (s.toNat, false)

/-- R76 in whole numbers: n is at most 2^24 × 10^(−d/16384) + 1/2. Both sides of
2n − 1 ≤ 2^25 × 10^(−d/16384) are raised to the power 16384. -/
def antilogFits (d n : Nat) : Bool := decide ((2 * n - 1) ^ 16384 * 10 ^ d ≤ 2 ^ (25 * 16384))

/-- The greatest fitting number, sought from the most significant of the bits left. -/
def antilogSearch (d : Nat) : Nat → Nat → Nat
  | 0, acc => acc
  | k + 1, acc => if antilogFits d (acc + 2 ^ k) then antilogSearch d k (acc + 2 ^ k) else antilogSearch d k acc

/-- R76, stage 3: 2^24 × 10^((E2 − 65536)/16384), rounded half up. -/
def antilog (e2 : Nat) : Nat := antilogSearch (65536 - e2) 24 0

/-- R77, one multiplication of stage 4, with whether a clip is counted. -/
def applyGain (intensity gain : Nat) : Nat × Bool :=
  let q := (intensity * gain + 8192) / 16384
  if 16777215 < q then (16777215, true) else (q, false)

/-- R78: the profile position of scan position x; C lies in 2048..6144 and W is at most 4096. -/
def profilePosition (centre width x : Nat) : Nat := centre - width / 2 + x

/-- R78: the profile gain at a profile position. -/
def profileGain (profile : List Nat) (position : Nat) : Nat :=
  interpolate (profile.getD (position / 256) 0) (profile.getD (position / 256 + 1) 0) (position % 256)

/-- R79, stage 5: the drive table. Coarse node C[j] stands at node index j + 241 (R94). -/
def driveTable (drive : List Nat) (intensity : Nat) : Nat :=
  if intensity < 1048576 then
    interpolate (drive.getD (intensity / 4096) 0) (drive.getD (intensity / 4096 + 1) 0) (intensity / 16 % 256)
  else
    interpolate (drive.getD (intensity / 65536 + 241) 0) (drive.getD (intensity / 65536 + 242) 0)
      (intensity / 256 % 256)

/-- R80: the drive code limited to the channel's drive limit, with whether a clip is counted. -/
def limitDrive (code limit : Nat) : Nat × Bool := if limit < code then (limit, true) else (code, false)

/-- The operands of the chain for one channel (R73, Table 4-4). -/
structure ChainOperands where
  curve : List Nat
  drive : List Nat
  trim : Int
  lights : Int
  gain : Nat
  limit : Nat
  deriving DecidableEq, Repr

/-- R74 to R80: the drive code of one channel of one pixel, and whether the pixel is clipped in the channel
(R82). -/
def driveCode (o : ChainOperands) (facetGain profGain v16 : Nat) : Nat × Bool :=
  let e2 := offsetExposure (printCurve o.curve v16) o.trim o.lights
  let i1 := applyGain (antilog e2.1) facetGain
  let i2 := applyGain i1.1 profGain
  let i3 := applyGain i2.1 o.gain
  let d := limitDrive (driveTable o.drive i3.1) o.limit
  (d.1, e2.2 || i1.2 || i2.2 || i3.2 || d.2)

/-- The code value triple of a scan position: of a handed-over line, or the flat values (R83). -/
def LineSource.at (src : LineSource) (x : Nat) : Rgb Nat :=
  match src with
  | .pixels line => line.getD x (.all 0)
  | .flat v => v

/-- The chain's operands for a channel, from the set's tables and the exposure context (R73). -/
def chainOperands (content : SetContent) (x : ExposureContext) (c : Channel) : ChainOperands :=
  ⟨content.curves.get c, content.drives.get c, x.trims.get c, x.lights.get c, x.gains.get c, x.limits.get c⟩

/-- R69, R77, R78: the codes and clips of scan position x of line y. -/
def computePixel (content : SetContent) (ctx : ExposureContext) (optics : Optics) (facets width y : Nat)
    (src : LineSource) (x : Nat) : Rgb (Nat × Bool) :=
  let facetGain := optics.facet.getD (y % facets) 0
  let profGain := profileGain optics.profile (profilePosition optics.centre width x)
  Rgb.tabulate fun c => driveCode (chainOperands content ctx c) facetGain profGain ((src.at x).get c)

/-- R69: the drive codes and clips of every scan position of a line. -/
def computeLine (content : SetContent) (ctx : ExposureContext) (optics : Optics) (facets width y : Nat)
    (src : LineSource) : List (Rgb (Nat × Bool)) :=
  (List.range width).map (computePixel content ctx optics facets width y src)

/-- R82: the scan positions of a line clipped in each channel. -/
def clipCounts (line : List (Rgb (Nat × Bool))) : Rgb Nat :=
  Rgb.tabulate fun c => line.countP fun p => (p.get c).2

/-- R69: the line record of a computed line; the line's clip counts start from those of its context. -/
def lineRecord (y : Nat) (clips : Rgb Nat) (line : List (Rgb (Nat × Bool))) : LineRecord :=
  ⟨y, line.map (Rgb.map Prod.fst), clips.zip (· + ·) (clipCounts line)⟩

/-- R82: a frame clip counter raised by a line's count stays at 65535. -/
def addClips (frame line : Rgb Nat) : Rgb Nat := frame.zip (fun a b => min (a + b) 65535) line

/-! ### Ones' complement sums (R54, R99) -/

/-- One word added with end-around carry. -/
def addWord (sum word : Nat) : Nat :=
  let t := sum + word
  if t ≤ 0xFFFF then t else t - 0x10000 + 1

/-- R54, R55: the running checksum and the byte still awaiting its partner, after more stream bytes. -/
def sumBytes : Nat → Option Byte → List Byte → Nat × Option Byte
  | sum, odd, [] => (sum, odd)
  | sum, none, b :: bs => sumBytes sum (some b) bs
  | sum, some h, b :: bs => sumBytes (addWord sum (256 * h.toNat + b.toNat)) none bs

/-- R99: the table sum of a set, over the six tables in order. -/
def tableSum (c : SetContent) : Nat :=
  (c.curves.r ++ c.curves.g ++ c.curves.b ++ c.drives.r ++ c.drives.g ++ c.drives.b).foldl addWord 0

/-! ### Pixels (R57, R58) -/

/-- Bytes of a pixel (Table 3-5). -/
def PixelFormat.bytes : PixelFormat → Nat
  | .p16 => 6
  | .p16s => 6
  | .p10 => 4
  | .p10s => 4

/-- The three stored values of a pixel, in stored order (R57), widened to 16 bits (R58). -/
def storedValues (f : PixelFormat) (bs : List Byte) : Nat × Nat × Nat :=
  let b := fun n => (byteField bs n).toNat
  match f with
  | .p16 => (256 * b 0 + b 1, 256 * b 2 + b 3, 256 * b 4 + b 5)
  | .p16s => (b 0 + 256 * b 1, b 2 + 256 * b 3, b 4 + 256 * b 5)
  | .p10 =>
    let w := b 0 * 2 ^ 24 + b 1 * 2 ^ 16 + b 2 * 2 ^ 8 + b 3
    (w / 2 ^ 22 * 64, w / 2 ^ 12 % 1024 * 64, w / 4 % 1024 * 64)
  | .p10s =>
    let w := b 0 + b 1 * 2 ^ 8 + b 2 * 2 ^ 16 + b 3 * 2 ^ 24
    (w / 2 ^ 22 * 64, w / 2 ^ 12 % 1024 * 64, w / 4 % 1024 * 64)

/-- R58: the v16 triple of a pixel in the order red, green, blue. -/
def decodePixel (f : PixelFormat) (q : ChannelSequence) (bs : List Byte) : Rgb Nat :=
  let v := storedValues f bs
  match q with
  | .rgb => ⟨v.1, v.2.1, v.2.2⟩
  | .bgr => ⟨v.2.2, v.2.1, v.1⟩

/-- R61: bytes gathered into pixels. The carry holds the bytes of an unfinished pixel; a pixel is decoded when
its last byte arrives. -/
def gatherPixels (f : PixelFormat) (q : ChannelSequence) :
    List Byte → List (Rgb Nat) → List Byte → List Byte × List (Rgb Nat)
  | carry, done, [] => (carry, done)
  | carry, done, b :: bs =>
    if carry.length + 1 = f.bytes then
      gatherPixels f q [] (done ++ [decodePixel f q (carry ++ [b])]) bs
    else
      gatherPixels f q (carry ++ [b]) done bs

/-- R62: the handed-over line, in scan-position order. -/
def scanLine (flipH : Bool) (pixels : List (Rgb Nat)) : List (Rgb Nat) :=
  if flipH then pixels.reverse else pixels

/-- R60: the source line of scan line y. -/
def sourceLine (flipV : Bool) (height y : Nat) : Nat := if flipV then height - 1 - y else y

/-- R56: the item of a strip map that holds a stream offset, with the offset within it. -/
def locate : List StripItem → Nat → Nat → Option (Nat × Nat)
  | [], _, _ => none
  | it :: its, n, o =>
    if it.start ≤ o ∧ o < it.start + it.length then some (n, o - it.start) else locate its (n + 1) o

/-! ### Laser channels -/

/-- R135: the tracked average after a sample. -/
def trackAverage (average sample shift : Nat) : Nat :=
  ((average : Int) + (16 * (sample : Int) - average) / (2 ^ shift : Nat)).toNat

/-- The distance of an average from 16 × T. -/
def deviation (average target : Nat) : Nat := ((average : Int) - 16 * target).natAbs

/-- R136: the average lies inside the warn band. -/
def insideWarn (u : LaserSettings) (average : Nat) : Bool :=
  decide (deviation average u.target * 256 ≤ 16 * u.target * u.warnBand)

/-- R136: the average lies beyond the fault band. -/
def beyondFault (u : LaserSettings) (average : Nat) : Bool :=
  decide (16 * u.target * u.faultBand < deviation average u.target * 256)

/-- R142: the power gain of an average. -/
def powerGain (average target : Nat) : Nat :=
  if average = 0 then 32767 else max 8192 (min 32767 ((262144 * target + average / 2) / average))

end Sys2Proof.Machine
end

