-- ==== Sys2Proof/Machine/Pinning.lean ====
section
/-! DEFINITION. The pin table (section 2.4): taking, growing and releasing pin records, and which record a port
write touches (R31, R32, R39 to R42). -/

namespace Sys2Proof.Machine

/-- Put a record into a free place of the pin table, the first one first (R40; log entry 11). -/
def State.takePin (s : State) (r : PinRecord) : State :=
  match s.fmc.pinA, s.fmc.pinB with
  | none, _ => s.withFmc { s.fmc with pinA := some r }
  | some _, none => s.withFmc { s.fmc with pinB := some r }
  | some _, some _ => s

/-- A pin record, unless it is held by the entry of a key. -/
def unlessKey (k : Key) (r : Option PinRecord) : Option PinRecord := r.filter (fun p => p.key != k)

/-- R42: the record held by an entry becomes free, all its ranges at once. -/
def State.releasePin (s : State) (k : Key) : State :=
  s.withFmc { s.fmc with pinA := unlessKey k s.fmc.pinA, pinB := unlessKey k s.fmc.pinB }

/-- R29, R42: every pin record becomes free. -/
def State.releaseAllPins (s : State) : State := s.withFmc { s.fmc with pinA := none, pinB := none }

/-- The record of a key changed. -/
def changePin (k : Key) (f : PinRecord → PinRecord) (r : Option PinRecord) : Option PinRecord :=
  r.map fun p => if p.key = k then f p else p

/-- The state with the pin record of a key changed. -/
def State.mapPin (s : State) (k : Key) (f : PinRecord → PinRecord) : State :=
  s.withFmc { s.fmc with pinA := changePin k f s.fmc.pinA, pinB := changePin k f s.fmc.pinB }

/-- R40: the table range extended to a length. -/
def PinRecord.extendTable (p : PinRecord) (length : Nat) : PinRecord := { p with table := ⟨p.table.offset, length⟩ }

/-- R40: an accepted strip's range appended. -/
def PinRecord.addStrip (p : PinRecord) (r : Range) : PinRecord := { p with strips := p.strips ++ [r] }

/-- R40: the record taken for a QUEUED STORED entry that enters the staging window. -/
def freshPin (e : Entry) (p : StoredPart) : PinRecord := ⟨e.serial, e.key, ⟨p.tableOffset, 0⟩, []⟩

/-- R41: the record taken for a REJECTED entry that re-enters the staging window. -/
def rejectedPin (e : Entry) (p : StoredPart) : PinRecord :=
  ⟨e.serial, e.key, ⟨p.tableOffset, min 256 (Config.mapBase - p.tableOffset)⟩, []⟩

/-- The lowest address that a range and the bytes of an access share. -/
def Range.firstTouched (r : Range) (offset length : Nat) : Option Nat :=
  if max r.offset offset < min (r.offset + r.length) (offset + length) then some (max r.offset offset) else none

/-- The lower of two addresses that may be absent. -/
def lowest : Option Nat → Option Nat → Option Nat
  | none, b => b
  | some a, none => some a
  | some a, some b => some (min a b)

/-- The lowest pinned address of a record that an access touches (R39). -/
def PinRecord.firstTouched (p : PinRecord) (offset length : Nat) : Option Nat :=
  p.strips.foldl (fun a r => lowest a (r.firstTouched offset length)) (p.table.firstTouched offset length)

/-- A record of the pin table with the lowest address an access touches in it. -/
def touchedRecord (r : Option PinRecord) (offset length : Nat) : Option (PinRecord × Nat) :=
  match r with
  | none => none
  | some p => (p.firstTouched offset length).map fun a => (p, a)

/-- The record whose entry stands nearer the head. -/
def State.nearerHead (s : State) (p q : PinRecord) : PinRecord :=
  match positionOf s.fq.entries p.key, positionOf s.fq.entries q.key with
  | some i, some j => if j < i then q else p
  | some _, none => p
  | none, some _ => q
  | none, none => p

/-- R32: the record whose range an access touches first in address order; the one nearer the head when the first
byte lies in both. -/
def State.touchedPin (s : State) (offset length : Nat) : Option PinRecord :=
  match touchedRecord s.fmc.pinA offset length, touchedRecord s.fmc.pinB offset length with
  | none, none => none
  | some a, none => some a.1
  | none, some b => some b.1
  | some a, some b => if a.2 < b.2 then some a.1 else if b.2 < a.2 then some b.1 else some (s.nearerHead a.1 b.1)

/-- R31: why a port write of some bytes is dropped, none when it is applied. -/
def State.dropReason (s : State) (offset length : Nat) : Option DropRegion :=
  match s.touchedPin offset length with
  | some p => some (.pinned p.serial)
  | none => if 0 < length ∧ Config.mapBase < offset + length then some .map else none

end Sys2Proof.Machine
end

