-- ==== Sys2Proof/Machine/Channel.lean ====
section
/-! DEFINITION. The strip reader's read channel (section 3.6), and the contexts that use it: what is done at a
grant, and how a context is given up (R53, R63, R64, R65). -/

namespace Sys2Proof.Machine

/-- The state with the read channel replaced. -/
def State.withChannel (s : State) (c : ReadChannel) : State := s.withSr { s.sr with channel := c }

/-- The entry on the film: the head, while an exposure exists (R21). -/
def State.exposingEntry? (s : State) : Option Entry := if s.isExposing then s.head? else none

/-- R61: the place and length of the next line-fetch read: within the current strip, within the line, at most
4096 bytes. -/
def fetchSpan (f : LineFetch) (e : Entry) : Option Range :=
  match e.body with
  | .stored i p =>
    match (p.stripMap.getD [])[f.item]? with
    | some it =>
      some ⟨it.offset + f.within,
        min Config.chunkSize (min (it.length - f.within) (i.width * p.format.bytes - f.bytesRead))⟩
    | none => none
  | .flat _ _ => none
  | .runout _ => none

/-- Grant of a line-fetch read: the bytes are read now and the action occupies the channel (R64). -/
def State.grantFetch (s : State) : State :=
  match s.sr.fetch, s.exposingEntry? with
  | some f, some e =>
    match fetchSpan f e with
    | some r =>
      s.withChannel { s.sr.channel with busy := some (.fetch (s.readBytes r.offset r.length)), waitFetch := false }
    | none => s.withChannel { s.sr.channel with waitFetch := false }
  | _, _ => s.withChannel { s.sr.channel with waitFetch := false }

/-- The bytes that marking writes (R36, R203): the control byte and, in descriptor 0, the completion word. -/
def State.writeMark (s : State) (address : Nat) (control : Byte) (word : Option (List Byte)) : State :=
  let t := s.writeBytes address [markedControl control]
  match word with
  | some w => t.writeBytes (address + 12) w
  | none => t

/-- Grant of a write-back marking: the descriptor is read and marked now (R36, R64), the descriptor position
rises by 1, and the action occupies the channel. No descriptor is written in the reel-map region (R33). -/
def State.grantMark (s : State) : State :=
  match s.sr.wbList.head?.bind (findEntry s.fq.entries) with
  | some e =>
    match e.body with
    | .stored i p =>
      let address := p.tableOffset + Config.descriptorSize * s.sr.wbPos
      if address + Config.descriptorSize ≤ Config.mapBase then
        let control := s.readByte address
        let word := if s.sr.wbPos = 0 then p.completion.map (fun c => completionWord c i.exposed) else none
        let t := s.writeMark address control word
        t.withSr { t.sr with
          wbPos := s.sr.wbPos + 1, channel := { s.sr.channel with busy := some (.mark control), waitMark := false } }
      else s.withChannel { s.sr.channel with waitMark := false }
    | .flat _ _ => s.withChannel { s.sr.channel with waitMark := false }
    | .runout _ => s.withChannel { s.sr.channel with waitMark := false }
  | none => s.withChannel { s.sr.channel with waitMark := false }

/-- The place and length of the next staging read (R47, R50). -/
def stagingSpan (g : Staging) : Range :=
  match g.place with
  | .descriptor => ⟨g.tableOffset + Config.descriptorSize * g.k, Config.descriptorSize⟩
  | .strip next left _ => ⟨next, min Config.chunkSize left⟩

/-- Grant of a staging read: the bytes are read now and the action occupies the channel (R64). -/
def State.grantStage (s : State) : State :=
  match s.sr.staging with
  | some g =>
    let r := stagingSpan g
    s.withChannel { s.sr.channel with busy := some (.staging (s.readBytes r.offset r.length)), waitStage := false }
  | none => s.withChannel { s.sr.channel with waitStage := false }

/-- R65: a free channel grants one waiting action: line fetch, otherwise write-back, otherwise staging. -/
def State.grant (s : State) : State :=
  match s.sr.channel.busy with
  | some _ => s
  | none =>
    if s.sr.channel.waitFetch then s.grantFetch
    else if s.sr.channel.waitMark then s.grantMark
    else if s.sr.channel.waitStage then s.grantStage
    else s

/-- The channel becomes free and grants among what waits (R65; log entry 9). -/
def State.freeChannel (s : State) : State := (s.withChannel { s.sr.channel with busy := none }).grant

/-- A staging read occupies the channel. -/
def ReadChannel.staging? (c : ReadChannel) : Option (List Byte) :=
  match c.busy with
  | some (.staging bs) => some bs
  | some (.fetch _) => none
  | some (.mark _) => none
  | none => none

/-- A line-fetch read occupies the channel. -/
def ReadChannel.fetch? (c : ReadChannel) : Option (List Byte) :=
  match c.busy with
  | some (.fetch bs) => some bs
  | some (.staging _) => none
  | some (.mark _) => none
  | none => none

/-- A marking occupies the channel, with the control byte it read. -/
def ReadChannel.mark? (c : ReadChannel) : Option Byte :=
  match c.busy with
  | some (.mark b) => some b
  | some (.staging _) => none
  | some (.fetch _) => none
  | none => none

/-- R53: the staging context is discarded. A waiting read is withdrawn; one that occupies the channel is lost and
the channel becomes free (R64), and grants among what already waits (log entry 29). -/
def State.discardStaging (s : State) : State :=
  let t := s.withSr { s.sr with staging := none, channel := { s.sr.channel with waitStage := false } }
  if t.sr.channel.staging?.isSome then t.freeChannel else t

/-- R53: the walk stops if it walks the entry of a key. -/
def State.stopWalk (s : State) (k : Key) : State :=
  match s.sr.staging with
  | some g => if g.key = k then s.discardStaging else s
  | none => s

/-- R63: the line fetch context is discarded. A waiting read is withdrawn; one that occupies the channel is lost
and the channel becomes free (R64), and grants among what already waits, before anything else that is requested at the
same event (the model's choice, log entry 29). -/
def State.withdrawFetch (s : State) : State :=
  let t := s.withSr { s.sr with fetch := none, channel := { s.sr.channel with waitFetch := false } }
  if t.sr.channel.fetch?.isSome then t.freeChannel else t

/-- R2, R35: a write-back request joins the tail of the write-back list; the first one begins at position 0. -/
def State.requestWriteBack (s : State) (k : Key) : State :=
  s.withSr { s.sr with
    wbList := s.sr.wbList ++ [k], wbPos := if s.sr.wbList.isEmpty then 0 else s.sr.wbPos }

/-- The write-back in progress issues its next marking when it has none waiting or in progress (R64). -/
def State.requestMarking (s : State) : State :=
  if s.sr.wbList.isEmpty ∨ s.sr.channel.mark?.isSome then s
  else s.withChannel { s.sr.channel with waitMark := true }

end Sys2Proof.Machine
end

