-- ==== Sys2Proof/Machine/QueueOps.lean ====
section
/-! DEFINITION. What the frame queue does to its entries (chapter 1): window entry, push-out, leaving, removal,
rejection at the head, holding, retiring, and the staging walk's reports and steps (chapter 3). -/

namespace Sys2Proof.Machine

/-! ### Holding (R16) -/

/-- A reason is in the held-reason set. -/
def HeldSet.has (h : HeldSet) : HeldReason → Bool
  | .rejected => h.rejected
  | .spoiled => h.spoiled
  | .filmEnd => h.filmEnd
  | .operator => h.operator

/-- The held-reason set with a reason added. -/
def HeldSet.add (h : HeldSet) : HeldReason → HeldSet
  | .rejected => { h with rejected := true }
  | .spoiled => { h with spoiled := true }
  | .filmEnd => { h with filmEnd := true }
  | .operator => { h with operator := true }

/-- The queue is HELD while the set is not empty. -/
def HeldSet.any (h : HeldSet) : Bool := h.rejected || h.spoiled || h.filmEnd || h.operator

/-- R16: a reason is added; QUEUE_HELD is raised when the set did not contain it. -/
def State.addHeld (s : State) (r : HeldReason) : State :=
  if s.fq.held.has r then s
  else (s.withFq { s.fq with held := s.fq.held.add r }).raise .queueHeld

/-! ### Leaving, window entry, removal -/

/-- R2: a STORED entry begins leaving: a staging walk of it stops, STAGING becomes QUEUED, the completion part is
given, and its write-back is requested. -/
def State.beginLeaving (s : State) (k : Key) (c : Completion) : State :=
  let t := s.stopWalk k
  let leave := fun (e : Entry) =>
    (if e.state = .staging then e.withState .queued else e).mapStored fun p => { p with completion := some c }
  (t.withEntries (changeEntry t.fq.entries k leave)).requestWriteBack k

/-- R10: what the entry now at a position of the staging window undergoes on entering it. -/
def State.enterWindow (s : State) (pos : Nat) : State :=
  match s.fq.entries[pos]? with
  | none => s
  | some e =>
    if e.leaving then s
    else
      match e.state, e.stored? with
      | .queued, some p =>
        (s.takePin (freshPin e p)).withEntries (changeAt s.fq.entries pos (·.withState .staging))
      | .queued, none => s.withEntries (changeAt s.fq.entries pos (·.withState .staged))
      | .rejected _, some p => s.takePin (rejectedPin e p)
      | .rejected _, none => s
      | .staging, _ => s
      | .staged, _ => s
      | .exposing, _ => s

/-- R14, steps 1 to 5: the entry at a position leaves the list. -/
def State.removeAt (s : State) (pos : Nat) : State :=
  match s.fq.entries[pos]? with
  | none => s
  | some e =>
    let s1 := match e.image? with
      | some i => s.dropReference i.set
      | none => s
    let s2 := if e.isStored then s1.releasePin e.key else s1
    let s3 := s2.withEntries (s2.fq.entries.eraseIdx pos)
    let s4 := if pos ≤ 1 then s3.enterWindow 1 else s3
    if s4.fq.entries.isEmpty then s4.raise .queueEmpty else s4

/-- R15: completing a rejection. -/
def State.completeRejection (s : State) (e : Entry) (r : RejectReason) : State :=
  ((s.withFq { s.fq with rejection := some ⟨e.serial, e.key, r⟩ }).addHeld .rejected).raise .entryRejected

/-- R15: a REJECTED entry at the head that is not leaving is taken for removal. A removal brings the next entry to
the head, so the step repeats; the first argument bounds the repetition by the entries there are. -/
def State.takeRejectedHead : Nat → State → State
  | 0, s => s
  | n + 1, s =>
    match s.head? with
    | none => s
    | some e =>
      match e.rejected? with
      | none => s
      | some r =>
        if e.leaving then s
        else if e.isStored then s.beginLeaving e.key .rejected
        else State.takeRejectedHead n ((s.removeAt 0).completeRejection e r)

/-- R15, with as many repetitions as there are entries. -/
def State.settleHead (s : State) : State := s.takeRejectedHead s.fq.entries.length

/-- R14: the entry of a key is removed, and the head that this may bring forward is treated under R15. -/
def State.removeEntry (s : State) (k : Key) : State :=
  match positionOf s.fq.entries k with
  | some pos => (s.removeAt pos).settleHead
  | none => s

/-- R19: one entry that is neither EXPOSING nor leaving is cancelled. -/
def State.cancelEntry (s : State) (e : Entry) : State :=
  if e.isStored then s.beginLeaving e.key .cancelled else s.removeEntry e.key

/-- R19: what may be cancelled. -/
def Entry.cancellable (e : Entry) : Bool := decide (e.state ≠ .exposing) && !e.leaving

/-- R20: the entries of the keys listed are cancelled in order, each if it may still be; the second number is how
many were (log entry 13). -/
def State.cancelAll : State → List Key → State × Nat
  | s, [] => (s, 0)
  | s, k :: ks =>
    match findEntry s.fq.entries k with
    | some e =>
      if e.cancellable then
        let r := State.cancelAll (s.cancelEntry e) ks
        (r.1, r.2 + 1)
      else State.cancelAll s ks
    | none => State.cancelAll s ks

/-! ### FRONT insertion (section 1.3) -/

/-- R9: an entry after it has been pushed out of the staging window. -/
def Entry.pushedOut (e : Entry) : Entry :=
  match e.state with
  | .queued => e
  | .staging => e.withState .queued
  | .staged => (e.withState .queued).mapStored fun p => { p with stripMap := none, stagedSum := none }
  | .exposing => e
  | .rejected _ => e

/-- R9: the entry at position 1 is pushed out: its walk stops, its pins are released, and its state changes. -/
def State.pushOut (s : State) : State :=
  match s.fq.entries[1]? with
  | none => s
  | some e =>
    let t := (s.stopWalk e.key).releasePin e.key
    t.withEntries (changeAt t.fq.entries 1 Entry.pushedOut)

/-- R8: where an entry submitted with FRONT is placed. -/
def State.frontPlace (s : State) : Nat :=
  match s.head? with
  | some e => if e.state = .exposing then 1 else 0
  | none => 0

/-- R6, test 7: a leaving entry stands at a place or just behind it. -/
def State.leavingNear (s : State) (pos : Nat) : Bool :=
  ((s.fq.entries[pos]?).elim false Entry.leaving) || ((s.fq.entries[pos + 1]?).elim false Entry.leaving)

/-! ### Repeats, retirement, runouts (section 1.8) -/

/-- R22: an exposed frame of the head: repeats counted, and the head STAGED again or retired. -/
def State.headExposed (s : State) : State :=
  match s.head? with
  | none => s
  | some e =>
    match e.image? with
    | none => s
    | some i =>
      let count := fun (j : ImagePart) => { j with remaining := j.remaining - 1, exposed := j.exposed + 1 }
      let t := s.withEntries (changeAt s.fq.entries 0 fun e => (e.withState .staged).mapImage count)
      if 1 < i.remaining then t
      else if e.isStored then t.beginLeaving e.key .exposed
      else (t.removeEntry e.key).raise .entryRetired

/-- R23: the exposure of the head has ended SPOILED. -/
def State.headSpoiled (s : State) : State :=
  (s.withEntries (changeAt s.fq.entries 0 (·.withState .staged))).addHeld .spoiled

/-- R24: a RUNOUT entry with its count lowered. -/
def Entry.lowerCount (n : Nat) (e : Entry) : Entry :=
  match e.body with
  | .runout c => { e with body := .runout (c - n) }
  | .stored _ _ => e
  | .flat _ _ => e

/-- R24: a number of BLANK records was appended for the RUNOUT head. -/
def State.headRunOut (s : State) (n : Nat) : State :=
  match s.head? with
  | none => s
  | some e =>
    match e.body with
    | .runout c =>
      let t := s.withEntries (changeAt s.fq.entries 0 (Entry.lowerCount n))
      if c - n = 0 then (t.removeEntry e.key).raise .entryRetired else t
    | .stored _ _ => s
    | .flat _ _ => s

/-- R38, R22, R15: the write-back at the front of the list ends: it leaves the list, its pins are released, the
entry is removed, and its retirement or rejection is completed. -/
def State.endWriteBack (s : State) : State :=
  match s.sr.wbList with
  | [] => s
  | k :: ks =>
    let t := s.withSr { s.sr with wbList := ks, wbPos := 0 }
    match findEntry t.fq.entries k, positionOf t.fq.entries k with
    | some e, some pos =>
      let u := (t.releasePin k).removeAt pos
      match e.stored?.bind StoredPart.completion, e.rejected? with
      | some .exposed, _ => (u.raise .entryRetired).settleHead
      | some .rejected, some r => (u.completeRejection e r).settleHead
      | some .rejected, none => u.settleHead
      | some .cancelled, _ => u.settleHead
      | none, _ => u.settleHead
    | _, _ => t

/-- R29: every entry is removed without write-back and every reference dropped; walks, pins, write-backs and the
held-reason set go with them. The rejection record and the serial counter are kept. -/
def State.flushQueue (s : State) : State :=
  let t := s.fq.entries.foldl (fun t e => match e.image? with
    | some i => t.dropReference i.set
    | none => t) s
  (t.releaseAllPins).withFq { t.fq with entries := [], held := .empty }

/-! ### The staging walk (section 3.1) -/

/-- R13, R52: the walk ended with a reason; the context is discarded and the entry becomes REJECTED. -/
def State.stagingFailed (s : State) (g : Staging) (r : RejectReason) : State :=
  let t := s.withSr { s.sr with staging := none, channel := { s.sr.channel with waitStage := false } }
  (t.withEntries (changeEntry t.fq.entries g.key (·.withState (.rejected r)))).settleHead

/-- R12, R51: the walk succeeded; the entry becomes STAGED with the strip map and the staged checksum. -/
def State.stagingComplete (s : State) (g : Staging) : State :=
  let t := s.withSr { s.sr with staging := none, channel := { s.sr.channel with waitStage := false } }
  let take := fun (e : Entry) => (e.withState .staged).mapStored fun p =>
    { p with stripMap := some g.strips, stagedSum := some (BitVec.ofNat 16 g.sum) }
  t.withEntries (changeEntry t.fq.entries g.key take)

/-- The walk goes on with a context and asks for its next read (R46, R64). -/
def State.stagingContinue (s : State) (g : Staging) : State :=
  s.withSr { s.sr with staging := some g, channel := { s.sr.channel with waitStage := true } }

/-- R47, tests 1 and 2: the walk stands before the descriptor at position k: it ends with STRIP_RANGE, or the table
range grows over the descriptor and its read is asked for. -/
def State.walkToDescriptor (s : State) (g : Staging) : State :=
  if Config.mapBase ≤ g.tableOffset + Config.descriptorSize * g.k then s.stagingFailed g .stripRange
  else
    (s.mapPin g.key (·.extendTable (Config.descriptorSize * (g.k + 1)))).stagingContinue
      { g with place := .descriptor }

/-- R48, Table 3-2: the first check a descriptor fails. -/
def Descriptor.failure (d : Descriptor) : Option RejectReason :=
  if ¬ d.valid then some .stripInvalid
  else if ¬ (1 ≤ d.length ∧ d.length ≤ Config.maxStrip) then some .stripInvalid
  else if Config.mapBase < d.offset + d.length then some .stripRange
  else none

/-- R47 test 3, R48, R49: a descriptor has been read. -/
def State.onDescriptor (s : State) (g : Staging) (bs : List Byte) : State :=
  let d := parseDescriptor bs
  if g.k = 16 then s.stagingFailed g .stripCount
  else
    match d.failure with
    | some r => s.stagingFailed g r
    | none =>
      let t := s.mapPin g.key (·.addStrip ⟨d.offset, d.length⟩)
      let h := { g with
        strips := g.strips ++ [⟨d.offset, d.length, g.total⟩]
        total := g.total + d.length
        place := .strip d.offset d.length d.last }
      if d.last ∧ h.total < h.expectedLength then t.stagingFailed h .lengthShort
      else if d.last ∧ h.expectedLength < h.total then t.stagingFailed h .lengthLong
      else t.stagingContinue h

/-- R51: the last byte of the LAST strip has been read. -/
def State.compareChecksum (s : State) (g : Staging) : State :=
  match g.expectedSum with
  | some e => if e.toNat ≠ g.sum then s.stagingFailed g .checksum else s.stagingComplete g
  | none => s.stagingComplete g

/-- R50, R54, R55: bytes of the current strip have been read. -/
def State.onStripBytes (s : State) (g : Staging) (bs : List Byte) (next left : Nat) (last : Bool) : State :=
  let r := sumBytes g.sum g.odd bs
  let h := { g with sum := r.1, odd := r.2, bytes := g.bytes + bs.length }
  if bs.length < left then
    s.stagingContinue { h with place := .strip (next + bs.length) (left - bs.length) last }
  else if last then s.compareChecksum h
  else s.walkToDescriptor { h with k := h.k + 1 }

/-- R46: the context of a walk that begins. -/
def newStaging (e : Entry) (i : ImagePart) (p : StoredPart) : Staging :=
  ⟨e.serial, e.key, p.tableOffset, 0, [], 0, 0, 0, none, i.width * i.height * p.format.bytes, p.expected,
    .descriptor⟩

/-- R11, R46: the STAGING entry nearest the head that is not leaving is offered to an idle strip reader. -/
def State.offerStaging (s : State) : State :=
  match s.sr.staging with
  | some _ => s
  | none =>
    match s.fq.entries.find? (fun e => decide (e.state = .staging) && !e.leaving) with
    | some e =>
      match e.body with
      | .stored i p => s.walkToDescriptor (newStaging e i p)
      | .flat _ _ => s
      | .runout _ => s
    | none => s

end Sys2Proof.Machine
end

