-- ==== Sys2Proof/Machine/GateOps.lean ====
section
/-! DEFINITION. What the gate controller does at the events of an exposure: appending records (R176), film end
(R161), frame start (R156, R157), runout start (R159), frame end (R160) and abort (R162, R163). -/

namespace Sys2Proof.Machine

/-! ### Appending records -/

/-- R176: a record is written into its slot as one memory action, the record count rises by 1, and the expected
position with it. -/
def State.appendRecord (s : State) (r : MapRecord) : State :=
  let t := s.writeBytes (slotOffset s.rm.count) r.bytes
  (t.withRm { t.rm with count := t.rm.count + 1 }).withGc { t.gc with expected := t.gc.expected + 1 }

/-- R175, R176: UNKNOWN records, a number of them, from the expected position on, one after another; a port read in
flight may fall between two of them (log entry 28). -/
def State.appendUnknown : Nat → State → State
  | 0, s => s
  | n + 1, s => State.appendUnknown n (s.appendRecord (unknownRecord s.gc.expected)).recordWritten

/-- R174, R176: BLANK records of a runout entry, a number of them, from a position on, one after another; a port read
in flight may fall between two of them (log entry 28). -/
def State.appendBlank (e : Entry) : Nat → Nat → State → State
  | 0, _, s => s
  | n + 1, position, s =>
    State.appendBlank e n (position + 1) (s.appendRecord (blankRecord position e)).recordWritten

/-- R161: the record count has reached the capacity of the LOADED magazine. -/
def State.filmExhausted (s : State) : Bool :=
  match s.loadedTag? with
  | some t => decide (t.capacity ≤ s.rm.count)
  | none => false

/-- R161: when the film is exhausted and the list holds an entry, FILM_END is added to the held-reason set and
raised. -/
def State.filmEnd (s : State) : State :=
  if s.filmExhausted && !s.fq.entries.isEmpty then (s.addHeld .filmEnd).raise .filmEnd else s

/-- The gate ADVANCING, or FILM_OUT when the record count has reached the capacity, with an advance order (R159,
R160, R163). -/
def State.advanceFilm (s : State) (order : Nat) : State :=
  s.withGc { s.gc with gate := if s.filmExhausted then .filmOut else .advancing, advance := order }

/-! ### Aborts -/

/-- R163, Table 8-8: the gate state and advance order an abort leaves. -/
def State.gateAfterAbort (s : State) (r : SpoilReason) : State :=
  match r with
  | .gateFault => s.withGc { s.gc with gate := .fault, advance := 1 }
  | .magRemoved => s.withGc { s.gc with gate := .noFilm, advance := 0 }
  | _ => s.advanceFilm 1

/-- R162, step 7: the events an abort raises. -/
def abortEvents (r : SpoilReason) : List Event :=
  if r = .magRemoved then [.frameDone, .frameSpoiled] else [.frameDone, .frameSpoiled, .advance]

/-- R162: an abort of the exposure in progress; without one, nothing is aborted. -/
def State.abort (s : State) (r : SpoilReason) : State :=
  match s.exposure? with
  | none => s
  | some x =>
    let cut := s.dropDrives.withdrawFetch
    let recorded := cut.appendRecord (exposureRecord x.ctx x.clips .spoiled r)
    let gate := recorded.gateAfterAbort r
    let reported := if r = .reset then gate else gate.headSpoiled
    let ended := if r = .magRemoved then reported else reported.filmEnd
    ended.raiseAll (abortEvents r)

/-! ### Frame end -/

/-- R160: the outcome of a completed frame. -/
def frameOutcome (x : ExposureContext) : RecordOutcome × SpoilReason :=
  if x.linesBlanked = 0 then (.exposed, .none) else (.spoiled, .underrun)

/-- R160, step 5: the events a frame end raises. -/
def frameEndEvents (x : ExposureContext) : List Event :=
  if x.linesBlanked = 0 then [.frameDone, .advance] else [.frameDone, .advance, .frameSpoiled]

/-- R160: all lines of the frame have been completed. -/
def State.frameEnd (s : State) : State :=
  match s.exposure? with
  | none => s
  | some x =>
    let o := frameOutcome x.ctx
    let recorded := s.withdrawFetch.appendRecord (exposureRecord x.ctx x.clips o.1 o.2)
    let gate := recorded.advanceFilm 1
    let reported := if x.ctx.linesBlanked = 0 then gate.headExposed else gate.headSpoiled
    (reported.raiseAll (frameEndEvents x.ctx)).filmEnd

/-! ### Starts -/

/-- The gate is READY (R152). -/
def State.gateReady (s : State) : Bool :=
  match s.gc.gate with
  | .ready _ => true
  | .noFilm => false
  | .advancing => false
  | .exposing _ => false
  | .filmOut => false
  | .fault => false

/-- R21: the head is offered for a frame start. -/
def State.headIsFrame (s : State) : Bool :=
  match s.head? with
  | some e => decide (e.state = .staged) && e.isImage && !e.leaving
  | none => false

/-- R21: the head is offered for a runout start. -/
def State.headIsRunout (s : State) : Bool :=
  match s.head? with
  | some e => decide (e.state = .staged) && e.isRunout && !e.leaving
  | none => false

/-- The scanner is LOCKED. -/
def State.isLocked (s : State) : Bool := decide (s.stu.scanner = .locked)

/-- All three laser channels are READY. -/
def State.lasersReady (s : State) : Bool :=
  decide (s.lcu.r.state = .ready) && decide (s.lcu.g.state = .ready) && decide (s.lcu.b.state = .ready)

/-- The six conditions of R156, in the order of Table 8-5a. -/
def State.startConditions (s : State) : List Bool :=
  [s.gateReady, !s.gc.halted, !s.fq.held.any, s.headIsFrame, s.isLocked, s.lasersReady]

/-- R156: every frame start condition holds. -/
def State.frameReady (s : State) : Bool := s.startConditions.all id

/-- R159: every runout start condition holds. -/
def State.runoutReady (s : State) : Bool := s.gateReady && !s.gc.halted && !s.fq.held.any && s.headIsRunout

/-- Table 8-6: the exposure context of a frame start. -/
def newContext (e : Entry) (i : ImagePart) (content : SetContent) (position : Nat) (lcu : Rgb LaserUnit) :
    ExposureContext where
  serial := e.serial
  key := e.key
  kind := if e.isStored then .stored else .flat
  set := i.set
  ordinal := i.exposed + 1
  position := position
  checksum := (e.stored?.bind StoredPart.stagedSum).getD 0
  trims := content.trims
  lights := i.lights
  gains := lcu.map fun u => powerGain u.average u.settings.target
  limits := lcu.map fun u => u.settings.driveLimit
  linesExposed := 0
  linesBlanked := 0

/-- R68, R122, R123: the production and output state of an exposure that begins. -/
def newExposure (ctx : ExposureContext) : Exposure := ⟨ctx, 0, 0, none, .all 0, [], .waiting, 0, 0⟩

/-- R157, codes differ: the head becomes REJECTED with STOCK_MISMATCH, and R15 applies at once. -/
def State.rejectStock (s : State) : State :=
  (s.withEntries (changeAt s.fq.entries 0 (·.withState (.rejected .stockMismatch)))).settleHead

/-- R157, codes match: the exposure context is created, and the head and the gate become EXPOSING. -/
def State.beginExposure (s : State) (e : Entry) (i : ImagePart) (content : SetContent) (position : Nat) : State :=
  (s.withEntries (changeAt s.fq.entries 0 (·.withState .exposing))).withGate
    (.exposing (newExposure (newContext e i content position s.lcu)))

/-- R157: a frame start. A head whose set is not READY, or a magazine that is not LOADED, is met by no start that
can be reached (R99, R152); it is treated as a stock that differs (log entry 19). -/
def State.frameStart (s : State) : State :=
  match s.head?, s.gc.gate with
  | some e, .ready position =>
    match e.image? with
    | some i =>
      match (s.setAt i.set).ready?, s.loadedTag? with
      | some content, some tag =>
        if content.stock = tag.stock then s.beginExposure e i content position else s.rejectStock
      | _, _ => s.rejectStock
    | none => s
  | _, _ => s

/-- R159: a runout start. -/
def State.runoutStart (s : State) : State :=
  match s.head?, s.gc.gate with
  | some e, .ready position =>
    match e.body with
    | .runout count =>
      let n := min count (s.filmRemaining?.getD 0)
      let recorded := State.appendBlank e n position s
      ((recorded.headRunOut n).advanceFilm n |>.raise .advance).filmEnd
    | .stored _ _ => s
    | .flat _ _ => s
  | _, _ => s

/-- R156, R159: a start is taken at the event that makes the last of its conditions true; the first state is the
one before the event (log entry 12). -/
def State.startIfDue (before s : State) : State :=
  if s.frameReady && !before.frameReady then s.frameStart
  else if s.runoutReady && !before.runoutReady then s.runoutStart
  else s

end Sys2Proof.Machine
end

