-- ==== Sys2Proof/Machine/ScanOps.lean ====
section
/-! DEFINITION. What the scan timing unit and the laser channel units do at their events: waking, stopping, lock and
lock loss (chapter 6); warming, sampling and faults of a laser channel (chapter 7); halting (R166). -/

namespace Sys2Proof.Machine

/-! ### Laser channels (chapter 7) -/

/-- R133: entry to WARMING, with A at 16 × T. -/
def LaserUnit.warm (u : LaserUnit) : LaserUnit :=
  { u with state := .warming, average := 16 * u.settings.target, samples := 0, band := 0, drift := false }

/-- R140: the channel becomes OFF, its average and last sample kept. -/
def LaserUnit.off (u : LaserUnit) : LaserUnit :=
  { u with state := .off, samples := 0, band := 0, drift := false, sweep := .rest }

/-- R133: a channel in OFF enters WARMING; the others are not changed. -/
def LaserUnit.warmIfOff (u : LaserUnit) : LaserUnit := if u.state = .off then u.warm else u

/-- R140: every channel becomes OFF. -/
def State.channelsOff (s : State) : State := s.mapLasers LaserUnit.off

/-- A channel in WARMING or READY fires at a mark of a turning scanner (R134). -/
def LaserUnit.fires (u : LaserUnit) : Bool := decide (u.state = .warming ∨ u.state = .ready)

/-- R134, R135: the pulse of a channel, its sample, the tracked average and the sample count. -/
def LaserUnit.take (u : LaserUnit) (m : BitVec 12) : LaserUnit :=
  { u with
    average := trackAverage u.average m.toNat u.settings.loopShift
    lastSample := some m.toNat
    samples := min (u.samples + 1) 65535
    sweep := { u.sweep with pulse := some u.settings.refDrive } }

/-- What a sample decides for its channel. -/
inductive Verdict where
  | keep
  | fault
  | drift
  deriving DecidableEq, Repr

/-- R137: a WARMING channel after a sample. -/
def LaserUnit.judgeWarming (u : LaserUnit) : LaserUnit × Verdict :=
  let band := if insideWarn u.settings u.average then u.band + 1 else 0
  if u.settings.warmCount ≤ band then ({ u with band := band, state := .ready, drift := false }, .keep)
  else if 4 * u.settings.warmCount ≤ u.samples then ({ u with band := band }, .fault)
  else ({ u with band := band }, .keep)

/-- R138: a READY channel after a sample. -/
def LaserUnit.judgeReady (u : LaserUnit) : LaserUnit × Verdict :=
  if beyondFault u.settings u.average then (u, .fault)
  else if !u.drift && !insideWarn u.settings u.average then ({ u with drift := true }, .drift)
  else if u.drift && insideWarn u.settings u.average then ({ u with drift := false }, .drift)
  else (u, .keep)

/-- R137, R138: a firing channel after a sample. -/
def LaserUnit.judge (u : LaserUnit) : LaserUnit × Verdict :=
  match u.state with
  | .warming => u.judgeWarming
  | .ready => u.judgeReady
  | .off => (u, .keep)
  | .fault => (u, .keep)

/-- R139: a channel enters FAULT: its flag is cleared, all drive outputs drop, any exposure is aborted with
LASER_FAULT, and LASER is raised. -/
def State.faultChannel (s : State) (c : Channel) : State :=
  ((s.mapLaser c fun u => { u with state := .fault, drift := false }).dropDrives.abort .laserFault).raise .laser

/-- R134 to R138: one channel's reference pulse and sample at a mark. -/
def State.sampleChannel (s : State) (c : Channel) (m : BitVec 12) : State :=
  if (s.lcu.get c).fires then
    let r := ((s.lcu.get c).take m).judge
    let t := s.mapLaser c fun _ => r.1
    match r.2 with
    | .keep => t
    | .fault => t.faultChannel c
    | .drift => t.raise .laser
  else s

/-- R144: a new sweep begins; the outputs carry nothing yet. -/
def State.newSweep (s : State) : State := s.dropDrives

/-! ### The scanner (chapter 6) -/

/-- R110: a wake moves the scanner to SPINNING_UP. -/
def State.wake (s : State) : State :=
  s.withStu { s.stu with
    scanner := .spinningUp, spinUp := .running s.stu.settings.spinupTimeout, missing := .stopped
    acq := 0, badRun := 0, lastPeriod := none, facet := none }

/-- R110: the wake tested at a submission, a RESUME or a SCANNER_RESET. -/
def State.wakeIfDue (s : State) : State :=
  if s.stu.scanner = .stopped ∧ ¬ s.gc.halted ∧ s.hasImageEntry then s.wake else s

/-- R119, R120: the scanner becomes STOPPED, its timers stopped, and every channel OFF (R140). -/
def State.stopScanner (s : State) : State :=
  (s.withStu { s.stu with
    scanner := .stopped, spinUp := .stopped, missing := .stopped, idle := .stopped
    facet := none, acq := 0, badRun := 0 }).channelsOff

/-- R119: the idle timer runs exactly while the scanner is LOCKED, the gate is not EXPOSING, the list holds no
STORED or FLAT entry, and the timeout is not 0; it starts from the full timeout and is left running otherwise. -/
def State.updateIdle (s : State) : State :=
  if s.isLocked && !s.isExposing && !s.hasImageEntry && decide (s.stu.settings.idleTimeout ≠ 0) then
    match s.stu.idle with
    | .running _ => s
    | .stopped => s.withStu { s.stu with idle := .running s.stu.settings.idleTimeout }
  else s.withStu { s.stu with idle := .stopped }

/-- R117: lock is lost; any exposure is aborted with LOCK_LOST. -/
def State.loseLock (s : State) : State :=
  ((s.withStu { s.stu with
    scanner := .acquiring, acq := 0, badRun := 0, facet := none, idle := .stopped
    spinUp := .running s.stu.settings.spinupTimeout }).raise .scanner).abort .lockLost

/-- R115, R133: the scanner becomes LOCKED; the channels that are OFF enter WARMING unless the part is halted. -/
def State.lock (s : State) : State :=
  let t := (s.withStu { s.stu with scanner := .locked, spinUp := .stopped, badRun := 0 }).raise .scanner
  if t.gc.halted then t else t.mapLasers LaserUnit.warmIfOff

/-- R116: the scanner enters FAULT; every channel becomes OFF (R140). -/
def State.scannerFault (s : State) : State :=
  ((s.withStu { s.stu with
    scanner := .fault, spinUp := .stopped, missing := .stopped, idle := .stopped
    facet := none, acq := 0 }).raise .scanner).channelsOff

/-- R114: a period is good. -/
def goodPeriod (c : ScannerSettings) (p : Nat) : Bool :=
  decide (((p : Int) - c.period).natAbs * 4096 ≤ c.period * c.tolerance)

/-- R113: the counter after a mark: from F − 1 back to 0. -/
def nextFacet (facets : Nat) (counter : Option Nat) : Option Nat :=
  counter.map fun f => if f + 1 < facets then f + 1 else 0

/-- R114: the period of a mark, when it has one: when the missing-mark timer runs. -/
def ScanTiming.period? (u : ScanTiming) (ticks : Nat) : Option Nat :=
  match u.missing with
  | .running _ => some ticks
  | .stopped => none

/-- R112 to R114: what every mark in ACQUIRING or LOCKED does to the counter, the last period and the missing-mark
timer. -/
def State.countMark (s : State) (p : Option Nat) : State :=
  s.withStu { s.stu with
    facet := nextFacet s.stu.settings.facetCount s.stu.facet
    lastPeriod := p.orElse fun _ => s.stu.lastPeriod
    missing := .running (2 * s.stu.settings.period) }

/-- R115, Table 6-5: a mark in ACQUIRING, already counted; known says whether the mark found the counter known. -/
def State.judgeAcquiring (s : State) (p : Option Nat) (known : Bool) : State :=
  match p with
  | none => s
  | some p =>
    if !goodPeriod s.stu.settings p then s.withStu { s.stu with acq := 0 }
    else if known then
      let t := s.withStu { s.stu with acq := s.stu.acq + 1 }
      if Config.lockCount ≤ t.stu.acq then t.lock else t
    else s

/-- R117: a mark in LOCKED, already counted. -/
def State.judgeLocked (s : State) (p : Option Nat) : State :=
  match p with
  | none => s
  | some p =>
    if goodPeriod s.stu.settings p then s.withStu { s.stu with badRun := 0 }
    else if 3 ≤ s.stu.badRun + 1 then s.loseLock
    else s.withStu { s.stu with badRun := s.stu.badRun + 1 }

/-- R112: the first mark moves the scanner to ACQUIRING and starts the missing-mark timer. -/
def State.firstMark (s : State) : State :=
  s.withStu { s.stu with scanner := .acquiring, missing := .running (2 * s.stu.settings.period) }

/-- R112, R115, R117: the judgement of a mark for lock. -/
def State.judgeMark (s : State) (p : Option Nat) : State :=
  match s.stu.scanner with
  | .acquiring => (s.countMark p).judgeAcquiring p s.stu.facet.isSome
  | .locked => (s.countMark p).judgeLocked p
  | .spinningUp => s.firstMark
  | .stopped => s
  | .fault => s

/-- R113: an index pulse in ACQUIRING or LOCKED. -/
def State.takeIndex (s : State) : State :=
  let t := s.withStu { s.stu with facet := some 0 }
  if s.stu.facet = none ∨ s.stu.facet = some 0 then t
  else
    match s.stu.scanner with
    | .acquiring => t.withStu { t.stu with acq := 0 }
    | .locked => t.loseLock
    | .stopped => s
    | .spinningUp => s
    | .fault => s

/-- R114, R115, R117: the expiry of the missing-mark timer. -/
def State.missMark (s : State) : State :=
  let t := s.withStu { s.stu with facet := none, missing := .stopped }
  match s.stu.scanner with
  | .acquiring => t.withStu { t.stu with acq := 0 }
  | .locked => t.loseLock
  | .stopped => t
  | .spinningUp => t
  | .fault => t

/-! ### Halting (R166) -/

/-- R120: what a halt does to the scanner and, with it, to the channels (R140). -/
def State.haltScanner (s : State) : State :=
  match s.stu.scanner with
  | .spinningUp => s.stopScanner
  | .acquiring => s.stopScanner
  | .locked => s.stopScanner
  | .stopped => s.channelsOff
  | .fault => s.channelsOff

/-- R166: halting, when the flag is clear. -/
def State.halt (s : State) : State :=
  if s.gc.halted then s
  else
    let aborted := s.abort .eStop
    ((aborted.withGc { aborted.gc with halted := true }).haltScanner).raise .halt

end Sys2Proof.Machine
end

