-- ==== Sys2Proof/Machine/LineOps.lean ====
section
/-! DEFINITION. Lines of the frame on the film: their production (R68 to R70), their output at the marks (R123 to
R128), and what an event leaves the part ready to do at the same event. -/

namespace Sys2Proof.Machine

/-- The height of the frame on the film. -/
def State.frameHeight (s : State) : Nat := ((s.exposingEntry?.bind Entry.image?).map ImagePart.height).getD 0

/-! ### Production (section 4.1) -/

/-- R59, R60: the line fetch context of a requested line. -/
def newFetch (e : Entry) (i : ImagePart) (p : StoredPart) (y : Nat) : LineFetch :=
  let source := sourceLine p.flipV i.height y
  let place := (locate (p.stripMap.getD []) 0 (source * i.width * p.format.bytes)).getD (0, 0)
  ⟨e.serial, y, source, place.1, place.2, 0, [], []⟩

/-- R59, R64: the strip reader takes a line request and asks for its first read. -/
def State.requestLine (s : State) (f : LineFetch) : State :=
  s.withSr { s.sr with fetch := some f, channel := { s.sr.channel with waitFetch := true } }

/-- R68: a line can begin. -/
def State.lineDue (s : State) (x : Exposure) : Bool :=
  x.line.isNone && decide (x.nextLine < s.frameHeight) && decide (x.fifo.length < Config.fifoCapacity)

/-- The exposure after line y has begun in a phase (R68). -/
def Exposure.begin (x : Exposure) (phase : LinePhase) : Exposure :=
  { x with line := some ⟨x.nextLine, phase, .all 0⟩, nextLine := x.nextLine + 1 }

/-- A FLAT entry's values as a line source (R83). -/
def flatSource (v : Rgb Word16) : LineSource := .flat (v.map BitVec.toNat)

/-- R68: the next line begins when every condition holds. -/
def State.beginLine (s : State) : State :=
  match s.exposure?, s.exposingEntry? with
  | some x, some e =>
    if s.lineDue x then
      match e.body with
      | .stored i p => (s.mapExposure (·.begin .fetching)).requestLine (newFetch e i p x.nextLine)
      | .flat _ v => s.mapExposure (·.begin (.computing (flatSource v)))
      | .runout _ => s
    else s
  | _, _ => s

/-- R70: line y is dropped from production. -/
def State.dropLine (s : State) (y : Nat) : State :=
  match s.exposure? with
  | none => s
  | some x =>
    let raised := fun (x : Exposure) => { x with nextLine := max x.nextLine (y + 1) }
    match x.line with
    | none => s.mapExposure raised
    | some l =>
      if l.y = y then
        let t := s.mapExposure fun x => { raised x with line := none }
        match l.phase with
        | .fetching => t.withdrawFetch
        | .computing _ => t
      else s.mapExposure raised

/-! ### Output (section 6.6) -/

/-- R125, R71: a line record is taken from the front of the FIFO; its clip counts are added and its codes handed to
the channels. -/
def State.takeLine (s : State) (r : LineRecord) : State :=
  let t := s.mapExposure fun x => { x with
    fifo := x.fifo.tail, clips := addClips x.clips r.clips, out := .onFilm r.y .exposed, nextOut := r.y + 1 }
  t.withLcu (Rgb.tabulate fun c =>
    let u := t.lcu.get c
    { u with sweep := { u.sweep with image := r.codes.map (Rgb.get · c) } })

/-- R126: the next line is absent, and is put out BLANKED and dropped from production. -/
def State.blankLine (s : State) (y : Nat) : State :=
  (s.mapExposure fun x => { x with out := .onFilm y .blanked, nextOut := y + 1 }).dropLine y

/-- R125, R126: the mark takes the next line. -/
def State.putLine (s : State) (x : Exposure) : State :=
  match x.fifo.head? with
  | some r => if r.y = x.nextOut then s.takeLine r else s.blankLine x.nextOut
  | none => s.blankLine x.nextOut

/-- R158: a line end report counted by its kind. -/
def ExposureContext.countLine (c : ExposureContext) : LineKind → ExposureContext
  | .exposed => { c with linesExposed := c.linesExposed + 1 }
  | .blanked => { c with linesBlanked := c.linesBlanked + 1 }

/-- R127: the line on the film ends with one line step and one report. -/
def State.endLine (s : State) (kind : LineKind) : State :=
  (s.mapExposure fun x => { x with steps := x.steps + 1, ctx := x.ctx.countLine kind }).withPins
    { s.pins with lstep := s.pins.lstep + 1 }

/-- R123, R124: what a mark in LOCKED that keeps lock does for the frame; facet is the one the mark was assigned. -/
def State.lineOut (s : State) (facet : Option Nat) : State :=
  match s.exposure? with
  | none => s
  | some x =>
    match x.out with
    | .waiting =>
      match x.fifo.head? with
      | some r => if facet = some 0 ∧ r.y = 0 then s.takeLine r else s
      | none => s
    | .onFilm y kind =>
      let t := s.endLine kind
      if y + 1 = s.frameHeight then t.frameEnd else t.putLine x

/-- The line on the film is the frame's last. -/
def State.lastLineOnFilm (s : State) : Bool :=
  match s.exposure? with
  | some x =>
    match x.out with
    | .onFilm y _ => decide (y + 1 = s.frameHeight)
    | .waiting => false
  | none => false

/-! ### The same event -/

/-- What the part does at the end of an event with what it finds: the next line begins (R68), a staging walk is
offered (R11), the write-back asks for its marking (R64), a free channel grants (R65), the idle timer follows its
conditions (R119). That all that is requested at one event meets one grant, at its end, is the model's choice (log
entry 29). -/
def State.quiesce (s : State) : State :=
  s.beginLine.offerStaging.requestMarking.grant.updateIdle

/-- An event is completed: a start that it made due is taken (R156, R159), its records are all written (R176), and
the rest of the part goes on; the first state is the one before the event. -/
def State.settle (before s : State) : State := (State.recordsEnd before (State.startIfDue before s)).quiesce

end Sys2Proof.Machine
end

