-- ==== Sys2Proof/Machine/Calibration.lean ====
section
/-! DEFINITION. The meanings of the messages to the calibration store and the exposure pipeline (R86 to R88, R92 to
R106). -/

namespace Sys2Proof.Machine

/-! ### Tables of a set -/

/-- R94: the number of nodes of a table. -/
def nodeCount : TableName → Nat
  | .curve _ => 257
  | .drive _ => 498

/-- The nodes of a table. -/
def SetContent.table (c : SetContent) : TableName → List Nat
  | .curve ch => c.curves.get ch
  | .drive ch => c.drives.get ch

/-- The content with one table replaced. -/
def SetContent.withTable (c : SetContent) (t : TableName) (nodes : List Nat) : SetContent :=
  match t with
  | .curve ch => { c with curves := c.curves.set ch nodes }
  | .drive ch => { c with drives := c.drives.set ch nodes }

/-- R93: the content of a set that begins. -/
def newContent (stock : Word16) (note : Word32) : SetContent :=
  ⟨stock, note, .all (List.replicate 257 0), .all (List.replicate 498 0), .all 0⟩

/-- The content of a BUILDING set. -/
def SetRecord.building? (r : SetRecord) : Option SetContent :=
  match r.state with
  | .building c => some c
  | .ready _ _ => none
  | .free => none

/-- The content of a set that is BUILDING or READY. -/
def SetRecord.content? (r : SetRecord) : Option SetContent :=
  match r.state with
  | .building c => some c
  | .ready c _ => some c
  | .free => none

/-- The state of a set with its content changed. -/
def SetState.map (f : SetContent → SetContent) : SetState → SetState
  | .building c => .building (f c)
  | .ready c sum => .ready (f c) sum
  | .free => .free

/-- The record of a set changed to a state. -/
def State.setState (s : State) (id : Nat) (st : SetState) : State := s.withSet id { s.setAt id with state := st }

/-- An id names a set (R90). -/
def setId (id : Nat) : Bool := decide (id ≤ 7)

/-- Values stored into consecutive places of a list. -/
def storeRun : List Nat → Nat → List Nat → List Nat
  | nodes, _, [] => nodes
  | nodes, place, v :: vs => storeRun (nodes.set place v) (place + 1) vs

/-! ### BEGIN_SET -/

/-- R92, R93. -/
def decideBeginSet (role : Role) (payload : Payload BeginSetArgs) (s : State) : Decision :=
  if role ≠ .calibration then refuse s .role
  else
    match payload with
    | .misfit => refuse s .arg
    | .fits a =>
      if !setId a.id || decide (a.stock = 0 ∨ a.stock = 65535) then refuse s .arg
      else
        match (s.setAt a.id).state with
        | .free => accept (s.withSet a.id ⟨.building (newContent a.stock a.note), 0⟩) (.setId a.id)
        | .building _ => refuse s .state
        | .ready _ _ => refuse s .state

/-- BEGIN_SET. -/
def execBeginSet (sender : Addr) (payload : Payload BeginSetArgs) (s : State) : Host.Outcome State Fault Refusal :=
  onMessage (.beginSet sender payload) sender 0x20 (decideBeginSet (roleOf sender) payload) s

/-! ### WRITE_TABLE -/

/-- R96: a value as stored in a table. -/
def storedNode : TableName → Nat → Nat
  | .curve _, v => v
  | .drive _, v => min v 4095

/-- R96: how many values of a message are clamped. -/
def clampCount : TableName → List Nat → Nat
  | .curve _, _ => 0
  | .drive _, vs => vs.countP fun v => decide (4096 ≤ v)

/-- R95: a run of nodes stored. -/
def SetContent.storeNodes (c : SetContent) (t : TableName) (start : Nat) (vs : List Nat) : SetContent :=
  c.withTable t (storeRun (c.table t) start (vs.map (storedNode t)))

/-- R92, R95, R96. -/
def decideWriteTable (role : Role) (payload : Payload WriteTableArgs) (s : State) : Decision :=
  if role ≠ .calibration then refuse s .role
  else
    match payload with
    | .misfit => refuse s .arg
    | .fits a =>
      match a.table with
      | .unknown => refuse s .arg
      | .named t =>
        let vs := a.values.map BitVec.toNat
        if !setId a.id || decide (vs.length < 1 ∨ 22 < vs.length ∨ nodeCount t < a.start + vs.length) then
          refuse s .arg
        else
          match (s.setAt a.id).building? with
          | none => refuse s .state
          | some c =>
            accept (s.setState a.id (.building (c.storeNodes t a.start vs)))
              (.tableWritten t a.start vs.length (clampCount t vs))

/-- WRITE_TABLE. -/
def execWriteTable (sender : Addr) (payload : Payload WriteTableArgs) (s : State) :
    Host.Outcome State Fault Refusal :=
  onMessage (.writeTable sender payload) sender 0x21 (decideWriteTable (roleOf sender) payload) s

/-! ### PUBLISH_SET -/

/-- R97, Table 5-5: how the check of a node fails, from the node before it. -/
def checkNode (t : TableName) (j before value : Nat) : Option TableFailure :=
  match t with
  | .curve _ => if value < before then some .order else none
  | .drive _ =>
    if j = 257 then (if value ≠ before then some .join else none)
    else if value < before then some .order else none

/-- A node that fails its check (R98). -/
structure NodeFailure where
  table : TableName
  node : Nat
  failure : TableFailure
  before : Nat
  value : Nat
  deriving DecidableEq, Repr

/-- R97: the first failing node index of a table from node j on, after a node of the value given. -/
def firstFailure (t : TableName) : Nat → Nat → List Nat → Option NodeFailure
  | _, _, [] => none
  | j, before, v :: vs =>
    match checkNode t j before v with
    | some f => some ⟨t, j, f, before, v⟩
    | none => firstFailure t (j + 1) v vs

/-- R97: the first failure of one table, walked from index 1. -/
def tableFailure (c : SetContent) (t : TableName) : Option NodeFailure :=
  match c.table t with
  | [] => none
  | v :: vs => firstFailure t 1 v vs

/-- R97: the order in which the tables are validated. -/
def tableOrder : List TableName := [.curve .r, .curve .g, .curve .b, .drive .r, .drive .g, .drive .b]

/-- R97: the first failure of a set. -/
def publicationFailure (c : SetContent) : Option NodeFailure := tableOrder.findSome? (tableFailure c)

/-- R99: the set becomes READY with its table sum, and CAL_SET is raised. -/
def State.publish (s : State) (id : Nat) (c : SetContent) : State :=
  (s.setState id (.ready c (BitVec.ofNat 16 (tableSum c)))).raise .calSet

/-- R92, R97 to R99. -/
def decidePublishSet (role : Role) (payload : Payload Nat) (s : State) : Decision :=
  if role ≠ .calibration then refuse s .role
  else
    match payload with
    | .misfit => refuse s .arg
    | .fits id =>
      if !setId id then refuse s .arg
      else
        match (s.setAt id).building? with
        | none => refuse s .state
        | some c =>
          match publicationFailure c with
          | some f => ⟨s, .badTable, .badTable f.table f.node f.failure f.before f.value⟩
          | none => accept (s.publish id c) (.published id c.stock (BitVec.ofNat 16 (tableSum c)))

/-- PUBLISH_SET. -/
def execPublishSet (sender : Addr) (payload : Payload Nat) (s : State) : Host.Outcome State Fault Refusal :=
  onMessage (.publishSet sender payload) sender 0x22 (decidePublishSet (roleOf sender) payload) s

/-! ### FREE_SET -/

/-- R92, R101, Table 5-6. -/
def decideFreeSet (role : Role) (payload : Payload Nat) (s : State) : Decision :=
  if role ≠ .calibration then refuse s .role
  else
    match payload with
    | .misfit => refuse s .arg
    | .fits id =>
      if !setId id then refuse s .arg
      else
        match (s.setAt id).state with
        | .free => refuse s .state
        | .building _ => accept (s.setState id .free) .none
        | .ready _ _ =>
          if 0 < (s.setAt id).useCount then ⟨s, .inUse, .inUse (s.setAt id).useCount⟩
          else accept (s.setState id .free) .none

/-- FREE_SET. -/
def execFreeSet (sender : Addr) (payload : Payload Nat) (s : State) : Host.Outcome State Fault Refusal :=
  onMessage (.freeSet sender payload) sender 0x23 (decideFreeSet (roleOf sender) payload) s

/-! ### SET_TRIM -/

/-- R102: a trim clamped to −4096..+4095. -/
def clampTrim (v : Int) : Int := max (-4096) (min 4095 v)

/-- The content with one channel's trim replaced. -/
def SetContent.withTrim (c : SetContent) (ch : Channel) (v : Int) : SetContent := { c with trims := c.trims.set ch v }

/-- R92, R102. -/
def decideSetTrim (role : Role) (payload : Payload SetTrimArgs) (s : State) : Decision :=
  if role ≠ .calibration then refuse s .role
  else
    match payload with
    | .misfit => refuse s .arg
    | .fits a =>
      match a.channel with
      | .unknown => refuse s .arg
      | .named ch =>
        if !setId a.id then refuse s .arg
        else
          match (s.setAt a.id).content? with
          | none => refuse s .state
          | some _ =>
            let v := clampTrim a.value.toInt
            accept (s.setState a.id ((s.setAt a.id).state.map (·.withTrim ch v)))
              (.trim ch v (decide (v ≠ a.value.toInt)))

/-- SET_TRIM. -/
def execSetTrim (sender : Addr) (payload : Payload SetTrimArgs) (s : State) : Host.Outcome State Fault Refusal :=
  onMessage (.setTrim sender payload) sender 0x24 (decideSetTrim (roleOf sender) payload) s

/-! ### READ_TABLE and QUERY_SET -/

/-- R105. -/
def decideReadTable (payload : Payload ReadTableArgs) (s : State) : Decision :=
  match payload with
  | .misfit => refuse s .arg
  | .fits a =>
    match a.table with
    | .unknown => refuse s .arg
    | .named t =>
      if !setId a.id || decide (a.count < 1 ∨ 22 < a.count ∨ nodeCount t < a.start + a.count) then refuse s .arg
      else
        match (s.setAt a.id).content? with
        | none => refuse s .state
        | some c => accept s (.nodes t a.start a.count (((c.table t).drop a.start).take a.count))

/-- READ_TABLE. -/
def execReadTable (sender : Addr) (payload : Payload ReadTableArgs) (s : State) :
    Host.Outcome State Fault Refusal :=
  onMessage (.readTable sender payload) sender 0x25 (decideReadTable payload) s

/-- R106: what QUERY_SET reports of a set's state. -/
def SetState.summary : SetState → SetSummary
  | .free => .free
  | .building c => .building c.stock c.note c.trims
  | .ready c sum => .ready c.stock c.note c.trims sum

/-- R106. -/
def decideQuerySet (payload : Payload Nat) (s : State) : Decision :=
  match payload with
  | .misfit => refuse s .arg
  | .fits id =>
    if !setId id then refuse s .arg
    else accept s (.set (s.setAt id).state.summary (s.setAt id).useCount)

/-- QUERY_SET. -/
def execQuerySet (sender : Addr) (payload : Payload Nat) (s : State) : Host.Outcome State Fault Refusal :=
  onMessage (.querySet sender payload) sender 0x26 (decideQuerySet payload) s

/-! ### WRITE_OPTICS, READ_OPTICS, QUERY_PIPELINE -/

/-- R85: the entries of a part. -/
def Optics.part (o : Optics) : OpticsPart → List Nat
  | .facet => o.facet
  | .profile => o.profile
  | .centre => [o.centre]

/-- Table 4-8: the number of entries of a part. -/
def partSize : OpticsPart → Nat
  | .facet => 16
  | .profile => 33
  | .centre => 1

/-- R86: values stored into consecutive entries of a part. -/
def Optics.store (o : Optics) (part : OpticsPart) (first : Nat) (vs : List Nat) : Optics :=
  match part with
  | .facet => { o with facet := storeRun o.facet first vs }
  | .profile => { o with profile := storeRun o.profile first vs }
  | .centre => { o with centre := vs.headD o.centre }

/-- R86, test 2: the arguments are in range. -/
def opticsValid (part : OpticsPart) (first : Nat) (vs : List Nat) : Bool :=
  decide (1 ≤ vs.length ∧ vs.length ≤ 16 ∧ first + vs.length ≤ partSize part) &&
    (decide (part ≠ .centre) || vs.all fun v => decide (2048 ≤ v ∧ v ≤ 6144))

/-- R86, Table 4-8. -/
def decideWriteOptics (role : Role) (payload : Payload WriteOpticsArgs) (s : State) : Decision :=
  if role ≠ .calibration then refuse s .role
  else
    match payload with
    | .misfit => refuse s .arg
    | .fits a =>
      match a.part with
      | .unknown => refuse s .arg
      | .named part =>
        let vs := a.values.map BitVec.toNat
        if !opticsValid part a.first vs then refuse s .arg
        else if s.isExposing then refuse s .busy
        else accept (s.withOptics (s.optics.store part a.first vs)) (.opticsWritten part a.first vs.length)

/-- WRITE_OPTICS. -/
def execWriteOptics (sender : Addr) (payload : Payload WriteOpticsArgs) (s : State) :
    Host.Outcome State Fault Refusal :=
  onMessage (.writeOptics sender payload) sender 0x27 (decideWriteOptics (roleOf sender) payload) s

/-- R87. That the reply carries the part and the first index besides the entries and F is the model's choice (log
entry 7). -/
def decideReadOptics (payload : Payload ReadOpticsArgs) (s : State) : Decision :=
  match payload with
  | .misfit => refuse s .arg
  | .fits a =>
    match a.part with
    | .unknown => refuse s .arg
    | .named part =>
      if partSize part ≤ a.first then refuse s .arg
      else accept s (.optics part a.first (((s.optics.part part).drop a.first).take 16) s.stu.settings.facetCount)

/-- READ_OPTICS. -/
def execReadOptics (sender : Addr) (payload : Payload ReadOpticsArgs) (s : State) :
    Host.Outcome State Fault Refusal :=
  onMessage (.readOptics sender payload) sender 0x28 (decideReadOptics payload) s

/-- R88: the phase of a line production context. -/
def LinePhase.report : LinePhase → PhaseReply
  | .fetching => .fetching
  | .computing _ => .computing

/-- R88. -/
def State.pipelineReply (s : State) : Option PipelineReply :=
  s.exposure?.map fun x =>
    ⟨x.ctx.serial, x.nextLine, x.entered, x.line.map fun l => (l.y, l.phase.report), x.clips⟩

/-- QUERY_PIPELINE (R88). -/
def execQueryPipeline (sender : Addr) (payload : Payload Unit) (s : State) : Host.Outcome State Fault Refusal :=
  onMessage (.queryPipeline sender payload) sender 0x29 (query payload fun s => .pipeline s.pipelineReply) s

end Sys2Proof.Machine
end

