-- ==== Sys2Proof/Machine/Completions.lean ====
section
/-! DEFINITION. The meanings of the completions: a staging read, a line-fetch read, a write-back marking, a line's
computation (R36, R47 to R51, R61, R62, R69). A completion of something that is not in progress cannot be, and has
no effect (log entry 4). -/

namespace Sys2Proof.Machine

/-! ### STAGING_READ -/

/-- What a staging read brings to the walk (R47 to R51). -/
def State.walk (s : State) (g : Staging) (bytes : List Byte) : State :=
  match g.place with
  | .descriptor => s.onDescriptor g bytes
  | .strip next left last => s.onStripBytes g bytes next left last

/-- R64, R65: the read completes, the channel becomes free, and the walk goes on. -/
def State.stagingReadDone (s : State) : State :=
  match s.sr.channel.staging?, s.sr.staging with
  | some bytes, some g => State.settle s (s.freeChannel.walk g bytes)
  | _, _ => s

/-- STAGING_READ. -/
def execStagingRead (s : State) : Host.Outcome State Fault Refusal := whenRunning State.stagingReadDone s

/-! ### LINE_FETCH_READ -/

/-- R61: the fetch context after the bytes of one action, counted at the completion of the action (the model's choice,
log entry 30). -/
def LineFetch.gather (f : LineFetch) (p : StoredPart) (bytes : List Byte) : LineFetch :=
  let r := gatherPixels p.format p.sequence f.carry f.pixels bytes
  let within := f.within + bytes.length
  let full := (((p.stripMap.getD [])[f.item]?).map StripItem.length).getD 0 ≤ within
  { f with
    carry := r.1, pixels := r.2, bytesRead := f.bytesRead + bytes.length
    item := if full then f.item + 1 else f.item
    within := if full then 0 else within }

/-- R62, R68: the filled line buffer is handed over and the line moves to COMPUTING. -/
def State.handOver (s : State) (flipH : Bool) (f : LineFetch) : State :=
  (s.withSr { s.sr with fetch := none }).mapExposure fun x =>
    { x with line := x.line.map fun l => { l with phase := .computing (.pixels (scanLine flipH f.pixels)) } }

/-- R61, R62: the bytes of a line-fetch read have come for the frame on the film. -/
def State.fetchBytes (s : State) (e : Entry) (f : LineFetch) (bytes : List Byte) : State :=
  match e.body with
  | .stored i p =>
    let g := f.gather p bytes
    if i.width ≤ g.pixels.length then s.handOver p.flipH g
    else s.withSr { s.sr with fetch := some g, channel := { s.sr.channel with waitFetch := true } }
  | .flat _ _ => s
  | .runout _ => s

/-- R64, R65: the read completes, the channel becomes free, and the fetch goes on. -/
def State.fetchReadDone (s : State) : State :=
  match s.sr.channel.fetch?, s.sr.fetch, s.exposingEntry? with
  | some bytes, some f, some e => State.settle s (s.freeChannel.fetchBytes e f bytes)
  | _, _, _ => s

/-- LINE_FETCH_READ. -/
def execLineFetchRead (s : State) : Host.Outcome State Fault Refusal := whenRunning State.fetchReadDone s

/-! ### WRITE_BACK_MARKING -/

/-- R36: the marking just done is the walk's last: LAST set, VALID clear, position 15, or the next position lies at
or above the reel-map region. The descriptor position has already moved on (log entry 10). -/
def writeBackStops (control : Byte) (tableOffset position : Nat) : Bool :=
  controlLast control || !controlValid control || decide (16 ≤ position) ||
    decide (Config.mapBase ≤ tableOffset + Config.descriptorSize * position)

/-- The strip table offset of the write-back in progress. -/
def State.writeBackTable (s : State) : Nat :=
  (((s.sr.wbList.head?.bind (findEntry s.fq.entries)).bind Entry.stored?).map StoredPart.tableOffset).getD 0

/-- R36, R38, R64: the marking completes, the channel becomes free, and the write-back goes on or ends. -/
def State.markingDone (s : State) : State :=
  match s.sr.channel.mark? with
  | some control =>
    let stops := writeBackStops control s.writeBackTable s.sr.wbPos
    let t := s.freeChannel
    State.settle s (if stops then t.endWriteBack else t)
  | none => s

/-- WRITE_BACK_MARKING. -/
def execWriteBackMarking (s : State) : Host.Outcome State Fault Refusal := whenRunning State.markingDone s

/-! ### LINE_COMPUTED -/

/-- R69: the drive codes of a line in COMPUTING, from the set the context names. -/
def State.lineCodes (s : State) (content : SetContent) (x : Exposure) (width y : Nat) (src : LineSource) :
    List (Rgb (Nat × Bool)) :=
  computeLine content x.ctx s.optics s.stu.settings.facetCount width y src

/-- R69, steps 1 and 2: the record enters the FIFO and the context is discarded. -/
def Exposure.enter (x : Exposure) (r : LineRecord) : Exposure :=
  { x with fifo := x.fifo ++ [r], entered := x.entered + 1, line := none }

/-- R69: the computation of the line in COMPUTING ends. -/
def State.lineDone (s : State) : State :=
  match s.exposure? with
  | none => s
  | some x =>
    match x.line, s.exposingEntry?.bind Entry.image?, (s.setAt x.ctx.set).ready? with
    | some l, some i, some content =>
      match l.phase with
      | .computing src =>
        State.settle s (s.mapExposure (·.enter (lineRecord l.y l.clips (s.lineCodes content x i.width l.y src))))
      | .fetching => s
    | _, _, _ => s

/-- LINE_COMPUTED. -/
def execLineComputed (s : State) : Host.Outcome State Fault Refusal := whenRunning State.lineDone s

end Sys2Proof.Machine
end

