-- ==== Sys2Proof/Machine/Gate.lean ====
section
/-! DEFINITION. The meanings of the messages to the gate controller about film: MAG_LOAD, MAG_UNLOAD, GATE_READY,
GATE_FAULT, ABORT_FRAME and READ_MAP (R149 to R155, R164, R177 to R179). -/

namespace Sys2Proof.Machine

/-! ### MAG_LOAD -/

/-- R149: the tag as stored, its capacity clamped. -/
def TagArgs.stored (a : TagArgs) : MagazineTag := ⟨a.stock, a.batch, min a.capacity Config.maxRecords, a.perforation⟩

/-- R149: the tag is recognized. -/
def MagazineTag.recognized (t : MagazineTag) : Bool :=
  decide (t.stock ≠ 0 ∧ t.stock ≠ 65535 ∧ t.capacity ≠ 0 ∧ (t.perforation = 2 ∨ t.perforation = 3 ∨ t.perforation = 4))

/-- R150, R177: a magazine becomes LOADED. -/
def State.loadMagazine (s : State) (t : MagazineTag) : State :=
  (s.withGc { s.gc with magazine := .loaded t, gate := .advancing, expected := 0, advance := 0 }).withRm
    ⟨0, true, some ⟨t.stock, t.batch, t.capacity⟩⟩

/-- R149: a magazine becomes UNRECOGNIZED; the gate, the map, the expected position and the advance order stay. -/
def State.holdMagazine (s : State) (t : MagazineTag) : State :=
  s.withGc { s.gc with magazine := .unrecognized t }

/-- R149: the tag interrogated. -/
def State.takeMagazine (s : State) (t : MagazineTag) : State :=
  (if t.recognized then s.loadMagazine t else s.holdMagazine t).raise .magazine

/-- Section 12.7: the reply data of a MAG_LOAD. -/
def magLoadBytes (m : Magazine) (a : TagArgs) : List Byte :=
  beBytes 1 m.code ++ beBytes 2 a.stored.capacity ++ beBytes 1 (decide (Config.maxRecords < a.capacity)).toNat

/-- R149. -/
def decideMagLoad (role : Role) (payload : List Byte) (s : State) : Decision :=
  if role ≠ .transport then refuse s .role
  else
    match parseTag payload with
    | none => refuse s .arg
    | some a =>
      match s.gc.magazine with
      | .absent =>
        let t := s.takeMagazine a.stored
        accept t (.bytes (magLoadBytes t.gc.magazine a))
      | .loaded _ => refuse s .state
      | .unrecognized _ => refuse s .state

/-- MAG_LOAD. -/
def execMagLoad (sender : Addr) (payload : List Byte) (s : State) : Host.Outcome State Fault Refusal :=
  onMessage (.magLoad sender payload) sender 0x30 (decideMagLoad (roleOf sender) payload) s

/-! ### MAG_UNLOAD -/

/-- R151, R178: the unload by the magazine record. -/
def State.unloadMagazine (s : State) : State :=
  match s.gc.magazine with
  | .absent => s
  | .unrecognized _ => (s.withGc { s.gc with magazine := .absent }).raise .magazine
  | .loaded _ =>
    let t := s.abort .magRemoved
    ((t.withGc { t.gc with magazine := .absent, gate := .noFilm, advance := 0 }).withRm
      { t.rm with live := false }).raise .magazine

/-- R151. -/
def decideMagUnload (role : Role) (payload : Payload Unit) (s : State) : Decision :=
  if role ≠ .transport then refuse s .role
  else
    match payload with
    | .misfit => refuse s .arg
    | .fits _ => accept s.unloadMagazine .none

/-- MAG_UNLOAD. -/
def execMagUnload (sender : Addr) (payload : Payload Unit) (s : State) : Host.Outcome State Fault Refusal :=
  onMessage (.magUnload sender payload) sender 0x31 (decideMagUnload (roleOf sender) payload) s

/-! ### GATE_READY -/

/-- R154: a GATE_READY that passes its tests. -/
def State.registerFilm (s : State) (q : Nat) : State :=
  let t := State.appendUnknown (q - s.gc.expected) s
  State.settle s (t.withGc { t.gc with gate := .ready q, advance := 0 })

/-- R153, R154: the tests of Table 8-5 after those of the gate state. -/
def decidePosition (q : Nat) (s : State) : Decision :=
  if q < s.gc.expected then ⟨s.raise .gate, .position, .none⟩
  else if s.capacity ≤ q then refuse s .position
  else accept (s.registerFilm q) (.gateReady q (q - s.gc.expected))

/-- R153, Table 8-5. -/
def decideGateReady (role : Role) (payload : Payload Nat) (s : State) : Decision :=
  if role ≠ .transport then refuse s .role
  else
    match payload with
    | .misfit => refuse s .arg
    | .fits q =>
      match s.gc.gate with
      | .noFilm => refuse s .state
      | .exposing _ => refuse s .state
      | .filmOut => refuse s .position
      | .advancing => decidePosition q s
      | .ready _ => decidePosition q s
      | .fault => decidePosition q s

/-- GATE_READY. -/
def execGateReady (sender : Addr) (payload : Payload Nat) (s : State) : Host.Outcome State Fault Refusal :=
  onMessage (.gateReady sender payload) sender 0x32 (decideGateReady (roleOf sender) payload) s

/-! ### GATE_FAULT and ABORT_FRAME -/

/-- R155. -/
def decideGateFault (role : Role) (payload : Payload Unit) (s : State) : Decision :=
  if role ≠ .transport then refuse s .role
  else
    match payload with
    | .misfit => refuse s .arg
    | .fits _ =>
      match s.gc.gate with
      | .noFilm => refuse s .state
      | .fault => accept s .none
      | .exposing _ => accept ((s.abort .gateFault).raise .gate) .none
      | .advancing => accept ((s.withGate .fault).raise .gate) .none
      | .ready _ => accept ((s.withGate .fault).raise .gate) .none
      | .filmOut => accept ((s.withGate .fault).raise .gate) .none

/-- GATE_FAULT. -/
def execGateFault (sender : Addr) (payload : Payload Unit) (s : State) : Host.Outcome State Fault Refusal :=
  onMessage (.gateFault sender payload) sender 0x33 (decideGateFault (roleOf sender) payload) s

/-- R164. -/
def decideAbortFrame (role : Role) (payload : Payload Unit) (s : State) : Decision :=
  if role ≠ .job then refuse s .role
  else
    match payload with
    | .misfit => refuse s .arg
    | .fits _ =>
      match s.exposure? with
      | none => refuse s .state
      | some x => accept (s.abort .aborted) (.aborted x.ctx.serial x.ctx.position)

/-- ABORT_FRAME. -/
def execAbortFrame (sender : Addr) (payload : Payload Unit) (s : State) : Host.Outcome State Fault Refusal :=
  onMessage (.abortFrame sender payload) sender 0x34 (decideAbortFrame (roleOf sender) payload) s

/-! ### READ_MAP -/

/-- The reply data of a refused READ_MAP: record count and map state (section 12.6). -/
def refuseMap (s : State) : Decision := ⟨s, .arg, .bytes (mapBytes s.rm)⟩

/-- R179. A payload that does not fit is refused as an index beyond the map is, count and state with it. -/
def decideReadMap (payload : Payload Nat) (s : State) : Decision :=
  match payload with
  | .misfit => refuseMap s
  | .fits i =>
    if s.rm.count ≤ i then refuseMap s
    else accept s (.bytes (s.readBytes (slotOffset i) Config.recordSize ++ mapBytes s.rm ++ rollBytes s.rm.roll))

/-- READ_MAP. -/
def execReadMap (sender : Addr) (payload : Payload Nat) (s : State) : Host.Outcome State Fault Refusal :=
  onMessage (.readMap sender payload) sender 0x35 (decideReadMap payload) s

end Sys2Proof.Machine
end

