-- ==== Sys2Proof/Machine/Marks.lean ====
section
/-! DEFINITION. The meanings of the events on the discrete inputs and of the timers: marks, index pulses, ESTOP_N,
RESET_N, and the three expiries (R112 to R119, R123 to R128, R134, R166, R194, R205). -/

namespace Sys2Proof.Machine

/-! ### START_OF_SCAN_MARK -/

/-- The channels in the order of their samples (log entry 8). -/
def channelsInOrder : ChannelOrder → List Channel
  | .rgb => [.r, .g, .b]
  | .rbg => [.r, .b, .g]
  | .grb => [.g, .r, .b]
  | .gbr => [.g, .b, .r]
  | .brg => [.b, .r, .g]
  | .bgr => [.b, .g, .r]

/-- What falls together at one mark: the samples and the judgement for lock. -/
inductive MarkPart where
  | sample (channel : Channel)
  | judge
  deriving DecidableEq, Repr

/-- The parts of a mark in the order taken (log entry 8). -/
def markParts (o : MarkOrder) : List MarkPart :=
  let samples := (channelsInOrder o.channels).map MarkPart.sample
  samples.take o.judgedAfter.val ++ [.judge] ++ samples.drop o.judgedAfter.val

/-- What a mark finds when it is taken: its period, the facet it is assigned, whether the scanner is LOCKED, which
channels fire, and the readings. -/
structure MarkInput where
  period : Option Nat
  facet : Option Nat
  locked : Bool
  firing : Rgb Bool
  samples : Rgb (BitVec 12)
  deriving DecidableEq, Repr

/-- The mark as the state finds it. -/
def State.markInput (s : State) (ticks : Nat) (samples : Rgb (BitVec 12)) : MarkInput :=
  ⟨s.stu.period? ticks, s.stu.facet, s.isLocked, s.lcu.map LaserUnit.fires, samples⟩

/-- R124: a mark in LOCKED that kept lock acts on the frame. -/
def State.markLine (s : State) (m : MarkInput) : State :=
  if m.locked && s.isLocked then s.lineOut m.facet else s

/-- R124: the judgement, and with it the end of the frame when the line on the film is its last (R128, R139). -/
def State.markJudge (s : State) (m : MarkInput) : State :=
  let t := State.startIfDue s (s.judgeMark m.period)
  if t.lastLineOnFilm then t.markLine m else t

/-- One part of a mark. -/
def State.markPart (m : MarkInput) (s : State) : MarkPart → State
  | .sample c => if m.firing.get c then State.startIfDue s (s.sampleChannel c (m.samples.get c)) else s
  | .judge => s.markJudge m

/-- R112, R124, R134: a mark taken by a scanner that its motor drives. -/
def State.takeMark (s : State) (ticks : Nat) (samples : Rgb (BitVec 12)) (order : MarkOrder) : State :=
  let m := s.markInput ticks samples
  (((markParts order).foldl (State.markPart m) s.newSweep).markLine m).quiesce

/-- R114: a mark that has a period comes 1..2 × P0 ticks after the last one; later the missing-mark timer has
expired (log entry 22). -/
def State.markPossible (s : State) (ticks : Nat) : Bool :=
  match s.stu.missing with
  | .running full => decide (1 ≤ ticks ∧ ticks ≤ full)
  | .stopped => true

/-- START_OF_SCAN_MARK: ignored in STOPPED and FAULT (R109). -/
def execStartOfScanMark (ticks : Nat) (samples : Rgb (BitVec 12)) (order : MarkOrder) (s : State) :
    Host.Outcome State Fault Refusal :=
  whenRunning (fun s => if s.motorEn && s.markPossible ticks then s.takeMark ticks samples order else s) s

/-! ### INDEX_PULSE -/

/-- INDEX_PULSE: ignored outside ACQUIRING and LOCKED (R109, R112, R113). -/
def execIndexPulse (s : State) : Host.Outcome State Fault Refusal :=
  whenRunning (fun s => if s.turning then s.takeIndex else s) s

/-! ### Timers -/

/-- The timer runs. -/
def Timer.runs : Timer → Bool
  | .running _ => true
  | .stopped => false

/-- The scanner is SPINNING_UP or ACQUIRING (R116). -/
def State.seekingLock (s : State) : Bool := decide (s.stu.scanner = .spinningUp ∨ s.stu.scanner = .acquiring)

/-- SPIN_UP_TIMER_EXPIRY (R116). -/
def execSpinUpTimerExpiry (s : State) : Host.Outcome State Fault Refusal :=
  whenRunning (fun s => if s.stu.spinUp.runs && s.seekingLock then s.scannerFault else s) s

/-- MISSING_MARK_TIMER_EXPIRY (R114). -/
def execMissingMarkTimerExpiry (s : State) : Host.Outcome State Fault Refusal :=
  whenRunning (fun s => if s.stu.missing.runs then s.missMark else s) s

/-- R119: standby. -/
def State.standby (s : State) : State := s.stopScanner.raise .standby

/-- IDLE_TIMER_EXPIRY (R119). -/
def execIdleTimerExpiry (s : State) : Host.Outcome State Fault Refusal :=
  whenRunning (fun s => if s.stu.idle.runs && s.isLocked then s.standby else s) s

/-! ### ESTOP_N -/

/-- The level of ESTOP_N. -/
def State.withEstop (s : State) (low : Bool) : State := s.withPins { s.pins with estopLow := low }

/-- ESTOP_N_ASSERTED (R166); while RESET_N is asserted only the level changes (R169). -/
def execEstopNAsserted (s : State) : Host.Outcome State Fault Refusal :=
  if s.pins.resetLow then .next (s.withEstop true) else .next (s.withEstop true).halt

/-- ESTOP_N_DEASSERTED (R166): the flag stays. -/
def execEstopNDeasserted (s : State) : Host.Outcome State Fault Refusal := .next (s.withEstop false)

/-! ### RESET_N -/

/-- R205: the operations in progress end where they stand: the read channel, the staging walk, the line fetch, a port
read not yet served, and the line in production. -/
def State.endOperations (s : State) : State :=
  ((s.withSr { s.sr with staging := none, fetch := none, channel := .idle }).withPort
    { s.port with waiting := none }).mapExposure fun x => { x with line := none }

/-- R194, R205: the DBI loses the frame in reception and the reply in progress. -/
def State.silenceBus (s : State) : State := s.withDbi { s.dbi with rx := none, reply := none, waitIdle := true }

/-- HARD_RESET (R205): the drives carry 0, the motor enable, the line steps and the attention lines are released
while the level is asserted, the port and the bus are silent; nothing is recorded and nothing raised (log
entry 17). -/
def execHardReset (s : State) : Host.Outcome State Fault Refusal :=
  .next ((s.dropDrives.endOperations.silenceBus).withPins { s.pins with resetLow := true })

/-- HARD_RESET_END (R194, R205): every block takes its hard-reset values and the straps are sampled. -/
def execHardResetEnd (s1 s0 : Bool) (s : State) : Host.Outcome State Fault Refusal :=
  .next (State.afterHardReset s1 s0 s.pins.estopLow (s.fmc.epoch + 1) s.pins.lstep s.free s.pending)

end Sys2Proof.Machine
end

