-- ==== Sys2Proof/Machine/Port.lean ====
section
/-! DEFINITION. The meanings of the accesses of the frame data port and of its link (R30 to R32, R44). -/

namespace Sys2Proof.Machine

/-- R44: the port serves reads and writes once RESET_N is released and its host has brought the link up. -/
def State.portServes (s : State) : Bool := !s.pins.resetLow && s.port.linkUp

/-- R31, R32: a write dropped whole; the last-dropped-write record is overwritten and PINNED_WRITE raised. -/
def State.dropWrite (s : State) (offset length : Nat) (region : DropRegion) : State :=
  (s.withFmc { s.fmc with lastDrop := some ⟨offset, length, region⟩ }).raise .pinnedWrite

/-- R31: a write applied whole or dropped whole. -/
def State.takeWrite (s : State) (offset : Nat) (bytes : List Byte) : State :=
  match s.dropReason offset bytes.length with
  | some region => s.dropWrite offset bytes.length region
  | none => s.writeBytes offset bytes

/-- PORT_WRITE (R31). A write that runs past the end of the window has touched the last byte of the reel-map region,
and is dropped (log entry 21). -/
def execPortWrite (offset : Word32) (bytes : List Byte) (s : State) : Host.Outcome State Fault Refusal :=
  if s.portServes then .next (s.takeWrite offset.toNat bytes) else .next s

/-- PORT_READ (R30): the bytes as they stand when the read is served, whatever the offset; those past the end of the
window are free values (log entry 21). A read still in flight is served before the next one (log entry 28). -/
def State.takeRead (s : State) (offset length records : Nat) : State :=
  let t := s.serveWaiting
  if records = 0 then t.serveRead offset length
  else t.withPort { t.port with waiting := some ⟨offset, length, records⟩ }

/-- PORT_READ. -/
def execPortRead (offset : Word32) (request : ReadRequest) (s : State) : Host.Outcome State Fault Refusal :=
  if s.portServes then .next (s.takeRead offset.toNat request.length request.records) else .next s

/-- PCIE_LINK_UP (R44). -/
def execPcieLinkUp (s : State) : Host.Outcome State Fault Refusal :=
  if s.pins.resetLow then .next s else .next (s.withPort { s.port with linkUp := true })

end Sys2Proof.Machine
end

