-- ==== Sys2Proof/Machine/Queue.lean ====
section
/-! DEFINITION. The meanings of the messages to the frame queue, the frame memory controller and the strip reader
(R4 to R9, R16 to R20, R26, R27, R43, R66). -/

namespace Sys2Proof.Machine

/-! ### Submission -/

/-- A submission as read from its message: whether every field is in range (R5), the set named by a STORED or FLAT
kind, and the body of the entry it would create. -/
structure Submission where
  tag : Word32
  front : Bool
  valid : Bool
  set : Option Nat
  body : EntryBody
  deriving DecidableEq, Repr

/-- The fields of Table 1-1 that STORED and FLAT share are in range (R5). -/
def imageValid (set width height repeats : Nat) (lights : Rgb Int) : Bool :=
  decide (set ≤ 7) && decide (width % 2 = 0 ∧ 256 ≤ width ∧ width ≤ 4096) && decide (128 ≤ height ∧ height ≤ 3520) &&
  decide (1 ≤ repeats ∧ repeats ≤ 250) &&
  decide (-2048 ≤ lights.r ∧ lights.r ≤ 2047) && decide (-2048 ≤ lights.g ∧ lights.g ≤ 2047) &&
  decide (-2048 ≤ lights.b ∧ lights.b ≤ 2047)

/-- R5, R7: SUBMIT_STORED. -/
def storedSubmission (a : StoredArgs) : Submission where
  tag := a.tag
  front := a.front
  valid := imageValid a.set a.width a.height a.repeats a.lights && a.format.isSome && a.sequence.isSome &&
    decide (a.tableOffset % 16 = 0 ∧ a.tableOffset < Config.mapBase)
  set := some a.set
  body := .stored ⟨a.set, a.width, a.height, a.lights, a.repeats, 0⟩
    ⟨a.format.getD .p16, a.sequence.getD .rgb, a.flipH, a.flipV, a.expected, a.tableOffset, none, none, none⟩

/-- R5, R7: SUBMIT_FLAT. -/
def flatSubmission (a : FlatArgs) : Submission where
  tag := a.tag
  front := a.front
  valid := imageValid a.set a.width a.height a.repeats a.lights
  set := some a.set
  body := .flat ⟨a.set, a.width, a.height, a.lights, a.repeats, 0⟩ a.values

/-- R5, R7: SUBMIT_RUNOUT. -/
def runoutSubmission (a : RunoutArgs) : Submission where
  tag := a.tag
  front := a.front
  valid := decide (1 ≤ a.count ∧ a.count ≤ 4096)
  set := none
  body := .runout a.count

/-- R6, test 5: the named set, if any, is READY. -/
def State.setReady (s : State) : Option Nat → Bool
  | none => true
  | some id => (s.setAt id).ready?.isSome

/-- R7, R8: the place of a new entry. -/
def State.placeOf (s : State) (front : Bool) : Nat := if front then s.frontPlace else s.fq.entries.length

/-- R7: the entry an accepted submission creates. -/
def newEntry (serial : Word16) (sender : Addr) (a : Submission) : Entry :=
  ⟨serial, ⟨sender.toNat, a.tag⟩, .queued, a.body⟩

/-- R7 to R10: the new entry joins the list; with FRONT the entry at position 1 is pushed out first; the serial
counter moves on, the reference is counted, and the entry enters the window at position 0 or 1. -/
def State.joinQueue (s : State) (sender : Addr) (a : Submission) : State :=
  let place := s.placeOf a.front
  let made := if a.front then s.pushOut else s
  let joined := made.withFq { made.fq with
    entries := made.fq.entries.insertIdx place (newEntry s.fq.serial sender a), serial := s.fq.serial + 1 }
  let counted := match a.set with
    | some id => joined.addReference id
    | none => joined
  if place ≤ 1 then counted.enterWindow place else counted

/-- R7, R110: an accepted submission, with the wake that a STORED or FLAT entry brings about, and the start that it
may make due. -/
def State.submit (s : State) (sender : Addr) (a : Submission) : State :=
  let t := s.joinQueue sender a
  State.settle s (if a.set.isSome then t.wakeIfDue else t)

/-- R6, Table 1-2: the tests of a submission after ROLE and FULL. -/
def submissionFailure (s : State) (sender : Addr) (a : Submission) : Option Status :=
  if (findEntry s.fq.entries ⟨sender.toNat, a.tag⟩).isSome then some .duplicate
  else if !a.valid then some .arg
  else if !s.setReady a.set then some .set
  else if a.front && !s.fq.held.any then some .state
  else if a.front && s.leavingNear s.frontPlace then some .busy
  else none

/-- R6: a submission decided; the reply carries the serial and the position the entry is placed at (Table 12-4; log
entry 14). -/
def decideSubmit (allowed : Bool) (sender : Addr) (a : Option Submission) (s : State) : Decision :=
  if !allowed then refuse s .role
  else if Config.queueCapacity ≤ s.fq.entries.length then refuse s .full
  else
    match a with
    | none => refuse s .arg
    | some a =>
      match submissionFailure s sender a with
      | some status => refuse s status
      | none =>
        accept (s.submit sender a) (.bytes (beBytes 2 s.fq.serial.toNat ++ beBytes 1 (s.placeOf a.front)))

/-- The fields of a payload, when it fits. -/
def fields? {α : Type} : Payload α → Option α
  | .fits a => some a
  | .misfit => none

/-- SUBMIT_STORED. -/
def execSubmitStored (sender : Addr) (payload : List Byte) (s : State) : Host.Outcome State Fault Refusal :=
  onMessage (.submitStored sender payload) sender 0x10
    (decideSubmit (decide (roleOf sender = .job)) sender ((parseStored payload).map storedSubmission)) s

/-- SUBMIT_FLAT. -/
def execSubmitFlat (sender : Addr) (payload : Payload FlatArgs) (s : State) : Host.Outcome State Fault Refusal :=
  onMessage (.submitFlat sender payload) sender 0x11
    (decideSubmit (decide (roleOf sender = .job ∨ roleOf sender = .calibration)) sender
      ((fields? payload).map flatSubmission)) s

/-- SUBMIT_RUNOUT. -/
def execSubmitRunout (sender : Addr) (payload : Payload RunoutArgs) (s : State) :
    Host.Outcome State Fault Refusal :=
  onMessage (.submitRunout sender payload) sender 0x12
    (decideSubmit (decide (roleOf sender = .job)) sender ((fields? payload).map runoutSubmission)) s

/-! ### CANCEL and FLUSH -/

/-- A sender that may cancel: JOB or CALIBRATION (R19, R20). -/
def mayCancel (sender : Addr) : Bool := decide (roleOf sender = .job ∨ roleOf sender = .calibration)

/-- A CALIBRATION sender names only itself (R19, R20). -/
def mayName (sender : Addr) (submitter : Option Nat) : Bool :=
  decide (roleOf sender = .job) || decide (submitter.getD sender.toNat = sender.toNat)

/-- A submitter number lies in 1..11. -/
def submitterValid (n : Nat) : Bool := decide (1 ≤ n ∧ n ≤ 11)

/-- R19, R20: what the tests before those of the arguments leave of a payload that fits its kind or does not: a
CALIBRATION sender that names another is refused with ROLE, and a misfit then with ARG (R189; log entry 27). -/
def decideNamed {α : Type} (sender : Addr) (submitter : α → Option Nat) (payload : NamedPayload α Nat)
    (take : α → Nat → Decision) (s : State) : Decision :=
  if !mayCancel sender then refuse s .role
  else
    match payload with
    | .misfit name => if mayName sender name then refuse s .arg else refuse s .role
    | .fits a =>
      if !mayName sender (submitter a) then refuse s .role
      else
        let n := (submitter a).getD sender.toNat
        if !submitterValid n then refuse s .arg else take a n

/-- R19. -/
def decideCancel (sender : Addr) (payload : NamedPayload CancelArgs Nat) (s : State) : Decision :=
  decideNamed sender CancelArgs.submitter payload (fun a n =>
    match findEntry s.fq.entries ⟨n, a.tag⟩ with
    | none => refuse s .unknownId
    | some e => if e.cancellable then accept (State.settle s (s.cancelEntry e)) (.cancelled 1) else refuse s .state) s

/-- CANCEL. -/
def execCancel (sender : Addr) (payload : NamedPayload CancelArgs Nat) (s : State) : Host.Outcome State Fault Refusal :=
  onMessage (.cancel sender payload) sender 0x13 (decideCancel sender payload) s

/-- The keys of the entries of one submitter, in queue order. -/
def keysOf (es : List Entry) (n : Nat) : List Key := (es.map Entry.key).filter (fun k => decide (k.submitter = n))

/-- R20. -/
def decideFlush (sender : Addr) (payload : NamedPayload (Option Nat) Nat) (s : State) : Decision :=
  decideNamed sender id payload (fun _ n =>
    let r := s.cancelAll (keysOf s.fq.entries n)
    accept (State.settle s r.1) (.cancelled r.2)) s

/-- FLUSH. -/
def execFlush (sender : Addr) (payload : NamedPayload (Option Nat) Nat) (s : State) :
    Host.Outcome State Fault Refusal :=
  onMessage (.flush sender payload) sender 0x14 (decideFlush sender payload) s

/-! ### HOLD and RELEASE -/

/-- R17. -/
def decideHold (role : Role) (payload : Payload Unit) (s : State) : Decision :=
  if role ≠ .job then refuse s .role
  else
    match payload with
    | .misfit => refuse s .arg
    | .fits _ => accept (s.addHeld .operator) .none

/-- HOLD. -/
def execHold (sender : Addr) (payload : Payload Unit) (s : State) : Host.Outcome State Fault Refusal :=
  onMessage (.hold sender payload) sender 0x15 (decideHold (roleOf sender) payload) s

/-- R18: the held-reason set emptied, and the start that this may make due. -/
def State.release (s : State) : State := State.settle s (s.withFq { s.fq with held := .empty })

/-- R18. -/
def decideRelease (role : Role) (payload : Payload Unit) (s : State) : Decision :=
  if role ≠ .job then refuse s .role
  else
    match payload with
    | .misfit => refuse s .arg
    | .fits _ => accept s.release (.held s.fq.held)

/-- RELEASE. -/
def execRelease (sender : Addr) (payload : Payload Unit) (s : State) : Host.Outcome State Fault Refusal :=
  onMessage (.release sender payload) sender 0x16 (decideRelease (roleOf sender) payload) s

/-! ### Queries -/

/-- Serial, state and leaving status of an entry (R26). That the state of a REJECTED entry comes with its reason is
the model's choice (log entry 7). -/
def Entry.brief (e : Entry) : Word16 × EntryState × Bool := (e.serial, e.state, e.leaving)

/-- R26. -/
def State.queueReply (s : State) : QueueReply where
  count := s.fq.entries.length
  leaving := s.fq.entries.countP Entry.leaving
  held := s.fq.held
  serial := s.fq.serial
  first := s.fq.entries[0]?.map Entry.brief
  second := s.fq.entries[1]?.map Entry.brief
  rejection := s.fq.rejection

/-- QUERY_QUEUE (R26). -/
def execQueryQueue (sender : Addr) (payload : Payload Unit) (s : State) : Host.Outcome State Fault Refusal :=
  onMessage (.queryQueue sender payload) sender 0x17 (query payload fun s => .queue s.queueReply) s

/-- The number of items of an entry's strip map, when it has one. -/
def Entry.itemCount (e : Entry) : Option Nat := (e.stored?.bind StoredPart.stripMap).map List.length

/-- R27: every field but the strip map, which is represented by its number of items. -/
def entryReply (position : Nat) (e : Entry) : ReplyData :=
  .entry position (e.mapStored fun p => { p with stripMap := none }) e.itemCount

/-- R27, QUERY_ENTRY. -/
def decideQueryEntry (payload : Payload EntryName) (s : State) : Decision :=
  match payload with
  | .misfit => refuse s .arg
  | .fits (.position p) =>
    match s.fq.entries[p]? with
    | some e => accept s (entryReply p e)
    | none => refuse s .arg
  | .fits (.key n tag) =>
    match findEntry s.fq.entries ⟨n, tag⟩, positionOf s.fq.entries ⟨n, tag⟩ with
    | some e, some p => accept s (entryReply p e)
    | _, _ => refuse s .unknownId

/-- QUERY_ENTRY. -/
def execQueryEntry (sender : Addr) (payload : Payload EntryName) (s : State) : Host.Outcome State Fault Refusal :=
  onMessage (.queryEntry sender payload) sender 0x18 (decideQueryEntry payload) s

/-- R27, QUERY_STRIPS, of an entry named by key and a first index; no index is one that the payload's length cuts
off, which counts as out of range (R189). -/
def decideStripsOf (key : Key) (first : Option Nat) (s : State) : Decision :=
  match findEntry s.fq.entries key with
  | none => refuse s .unknownId
  | some e =>
    match e.stored?.bind StoredPart.stripMap, first with
    | none, _ => refuse s .state
    | some _, none => refuse s .arg
    | some items, some n =>
      if items.length ≤ n then refuse s .arg else accept s (.strips ((items.drop n).take 3) items.length)

/-- R27, QUERY_STRIPS. A misfit meets the tests of the key it names, and otherwise ARG (R189; log entry 27). -/
def decideQueryStrips (payload : NamedPayload StripsArgs (Nat × Word32)) (s : State) : Decision :=
  match payload with
  | .misfit none => refuse s .arg
  | .misfit (some (n, tag)) => decideStripsOf ⟨n, tag⟩ none s
  | .fits a => decideStripsOf ⟨a.submitter, a.tag⟩ (some a.first) s

/-- QUERY_STRIPS. -/
def execQueryStrips (sender : Addr) (payload : NamedPayload StripsArgs (Nat × Word32)) (s : State) :
    Host.Outcome State Fault Refusal :=
  onMessage (.queryStrips sender payload) sender 0x19 (decideQueryStrips payload) s

/-- R43: one pin record. -/
def PinRecord.report (p : PinRecord) : PinReply := ⟨p.serial, p.table, p.strips.length⟩

/-- QUERY_MEMORY (R43). -/
def execQueryMemory (sender : Addr) (payload : Payload Unit) (s : State) : Host.Outcome State Fault Refusal :=
  onMessage (.queryMemory sender payload) sender 0x1A
    (query payload fun s => .memory s.fmc.lastDrop (s.fmc.pinA.map PinRecord.report) (s.fmc.pinB.map PinRecord.report)) s

/-- R66: the staging part. -/
def Staging.report (g : Staging) : StagingReply :=
  ⟨g.serial, g.k, g.strips.length, g.total, g.bytes, g.sum, g.odd.isSome⟩

/-- R66. -/
def State.readerReply (s : State) : ReaderReply where
  staging := s.sr.staging.map Staging.report
  fetch := s.sr.fetch.map fun f => (f.serial, f.y, f.bytesRead)
  writeBacks := s.sr.wbList.length
  front := (s.sr.wbList.head?.bind (findEntry s.fq.entries)).map fun e => (e.serial, s.sr.wbPos)

/-- QUERY_READER (R66). -/
def execQueryReader (sender : Addr) (payload : Payload Unit) (s : State) : Host.Outcome State Fault Refusal :=
  onMessage (.queryReader sender payload) sender 0x1B (query payload fun s => .reader s.readerReply) s

end Sys2Proof.Machine
end

