-- ==== Sys2Proof/Machine/Recorder.lean ====
section
/-! DEFINITION. The meanings of the messages that concern the whole part: E_STOP, broadcasts, RECORDER_RESET,
QUERY_STATUS and RESUME (R166, R167, R168, R187, R193, R204). -/

namespace Sys2Proof.Machine

/-! ### E_STOP -/

/-- R166: an addressed E_STOP. -/
def decideEStop (role : Role) (payload : Payload Unit) (s : State) : Decision :=
  if !role.isMaster then refuse s .role
  else
    match payload with
    | .misfit => refuse s .arg
    | .fits _ => accept s.halt .none

/-- E_STOP. -/
def execEStop (sender : Addr) (payload : Payload Unit) (s : State) : Host.Outcome State Fault Refusal :=
  onMessage (.eStop sender payload) sender eStopCode (decideEStop (roleOf sender) payload) s

/-- R187: a broadcast is acted on when it is an E_STOP of a master, and ignored otherwise. It has no reply; its
payload is not judged (log entry 18). -/
def State.takeBroadcast (s : State) (sender : Addr) (kind : Byte) : State :=
  if kind = eStopCode ∧ (roleOf sender).isMaster then s.halt else s

/-- BROADCAST_MESSAGE. Its tenure ends when the line becomes idle after it (R183). -/
def execBroadcastMessage (sender : Addr) (kind : Byte) (s : State) : Host.Outcome State Fault Refusal :=
  if s.receives then
    if senderValid sender then .next (s.takeBroadcast sender kind).awaitIdle else .next s.awaitIdle
  else .next s

/-! ### RECORDER_RESET -/

/-- R201: every latched set is emptied, owners and masks kept. -/
def State.clearLatched (s : State) : State := s.withAu (mapLines (fun l => { l with latched := 0 }) s.au)

/-- R193: the recorder reset. The strip reader's contexts go first, so that nothing of theirs is granted at the
abort (R64, R67); then the abort, the flush, and the latched events (Table 10-8). -/
def State.recorderReset (s : State) : State :=
  ((((s.withSr .afterReset).abort .reset).flushQueue).clearLatched).updateIdle

/-- R193: what the reply carries of an aborted exposure: the serial and the index of its record. -/
def State.abortReport (s : State) : Option (Word16 × Nat) := s.exposure?.map fun x => (x.ctx.serial, s.rm.count)

/-- R193. -/
def decideRecorderReset (role : Role) (payload : Payload Unit) (s : State) : Decision :=
  if role ≠ .job then refuse s .role
  else
    match payload with
    | .misfit => refuse s .arg
    | .fits _ => accept s.recorderReset (.recorderReset s.abortReport s.fq.entries.length)

/-- RECORDER_RESET. -/
def execRecorderReset (sender : Addr) (payload : Payload Unit) (s : State) : Host.Outcome State Fault Refusal :=
  onMessage (.recorderReset sender payload) sender 0x02 (decideRecorderReset (roleOf sender) payload) s

/-! ### QUERY_STATUS -/

/-- Byte 22 of Table 12-2: halted, ESTOP_N asserted, and the six start conditions. -/
def State.statusFlags (s : State) : Nat :=
  (s.gc.halted :: s.pins.estopLow :: s.startConditions).foldl (fun n b => 2 * n + b.toNat) 0

/-- QUERY_STATUS page 0 (Table 12-2). -/
def State.statusBytes (s : State) : List Byte :=
  [0x00] ++ beBytes 1 s.gc.magazine.code ++ tagBytes s.gc.magazine.tag? ++ beBytes 1 s.gc.gate.code ++
  absentable16 s.gatePosition? ++ beBytes 2 s.gc.expected ++ beBytes 2 s.gc.advance ++ beBytes 2 s.rm.count ++
  absentable16 s.filmRemaining? ++ beBytes 1 s.statusFlags

/-- R204. -/
def decideQueryStatus (payload : List Byte) (s : State) : Decision :=
  match parsePage payload with
  | none => refuse s .arg
  | some false => accept s (.bytes s.statusBytes)
  | some true => accept s (.bytes (exposureBytes (s.exposure?.map Exposure.ctx)))

/-- QUERY_STATUS. -/
def execQueryStatus (sender : Addr) (payload : List Byte) (s : State) : Host.Outcome State Fault Refusal :=
  onMessage (.queryStatus sender payload) sender 0x03 (decideQueryStatus payload) s

/-! ### RESUME -/

/-- R167: the flag is cleared, the scanner woken if it is due, and a runout start taken if it is due. -/
def State.resume (s : State) : State :=
  if s.gc.halted then State.settle s ((s.withGc { s.gc with halted := false }).wakeIfDue) else s

/-- R167. -/
def decideResume (role : Role) (payload : Payload Unit) (s : State) : Decision :=
  if role ≠ .job then refuse s .role
  else
    match payload with
    | .misfit => refuse s .arg
    | .fits _ => if s.pins.estopLow then refuse s .state else accept s.resume .none

/-- RESUME. -/
def execResume (sender : Addr) (payload : Payload Unit) (s : State) : Host.Outcome State Fault Refusal :=
  onMessage (.resume sender payload) sender 0x04 (decideResume (roleOf sender) payload) s

end Sys2Proof.Machine
end

