-- ==== Sys2Proof/Machine/Scanner.lean ====
section
/-! DEFINITION. The meanings of the messages to the scan timing unit and the laser channel units (R111, R118, R121,
R130, R141, R145, R146). -/

namespace Sys2Proof.Machine

/-! ### WAKE -/

/-- R111: a running idle timer restarts from the full idle timeout. -/
def State.restartIdle (s : State) : State :=
  match s.stu.idle with
  | .running _ => s.withStu { s.stu with idle := .running s.stu.settings.idleTimeout }
  | .stopped => s

/-- A WAKE taken, with the scanner state after it (R111). -/
def acceptWake (s : State) : Decision := accept s (.scannerState s.stu.scanner)

/-- R111, Table 6-4. -/
def decideWake (role : Role) (payload : Payload Unit) (s : State) : Decision :=
  if !role.isMaster then refuse s .role
  else
    match payload with
    | .misfit => refuse s .arg
    | .fits _ =>
      match s.stu.scanner with
      | .stopped => if s.gc.halted then refuse s .state else acceptWake s.wake
      | .spinningUp => acceptWake s
      | .acquiring => acceptWake s
      | .locked => acceptWake s.restartIdle
      | .fault => refuse s .state

/-- WAKE. -/
def execWake (sender : Addr) (payload : Payload Unit) (s : State) : Host.Outcome State Fault Refusal :=
  onMessage (.wake sender payload) sender 0x05 (decideWake (roleOf sender) payload) s

/-! ### SET_PARAM, scanner settings -/

/-- The range of a scanner setting (Table 6-6). -/
def scannerInRange (p : ScannerParam) (v : Nat) : Bool :=
  match p with
  | .facetCount => decide (4 ≤ v ∧ v ≤ 16)
  | .period => decide (1000 ≤ v ∧ v ≤ 65535)
  | .tolerance => decide (1 ≤ v ∧ v ≤ 255)
  | .spinupTimeout => decide (1 ≤ v ∧ v ≤ 60)
  | .idleTimeout => decide (v ≤ 3600)

/-- The scanner settings with one replaced. -/
def ScannerSettings.store (c : ScannerSettings) (p : ScannerParam) (v : Nat) : ScannerSettings :=
  match p with
  | .facetCount => { c with facetCount := v }
  | .period => { c with period := v }
  | .tolerance => { c with tolerance := v }
  | .spinupTimeout => { c with spinupTimeout := v }
  | .idleTimeout => { c with idleTimeout := v }

/-- The scanner is STOPPED or FAULT, where the first four settings are accepted (Table 6-6). -/
def State.scannerAtRest (s : State) : Bool := decide (s.stu.scanner = .stopped ∨ s.stu.scanner = .fault)

/-- R121: a scanner setting stored. A new idle timeout restarts a running idle timer, stops it, or starts it when
the conditions of R119 hold; that it starts it also where a timeout of 0 had kept it from ever running is the model's
choice (log entry 31). -/
def State.storeScanner (s : State) (p : ScannerParam) (v : Nat) : State :=
  let t := s.withStu { s.stu with settings := s.stu.settings.store p v }
  if p = .idleTimeout then (t.withStu { t.stu with idle := .stopped }).updateIdle else t

/-- R121. -/
def decideSetParam (role : Role) (payload : Payload ScannerParamArgs) (s : State) : Decision :=
  if role ≠ .job then refuse s .role
  else
    match payload with
    | .misfit => refuse s .arg
    | .fits a =>
      match a.param with
      | .unknown => refuse s .arg
      | .named p =>
        if !scannerInRange p a.value then refuse s .arg
        else if p ≠ .idleTimeout ∧ !s.scannerAtRest then refuse s .state
        else accept (s.storeScanner p a.value) (.storedValue a.value)

/-- SET_PARAM of a scanner parameter. -/
def execSetParam (sender : Addr) (payload : Payload ScannerParamArgs) (s : State) :
    Host.Outcome State Fault Refusal :=
  onMessage (.setParam sender payload) sender 0x06 (decideSetParam (roleOf sender) payload) s

/-! ### SET_PARAM, laser settings -/

/-- The range of a laser setting, with the order of the bands (Table 7-3, R145). -/
def laserInRange (p : LaserParam) (c : LaserSettings) (v : Nat) : Bool :=
  match p with
  | .refDrive => decide (1 ≤ v ∧ v ≤ 4095)
  | .target => decide (1 ≤ v ∧ v ≤ 4095)
  | .loopShift => decide (2 ≤ v ∧ v ≤ 10)
  | .warmCount => decide (64 ≤ v ∧ v ≤ 4096)
  | .warnBand => decide (1 ≤ v ∧ v ≤ 255 ∧ v < c.faultBand)
  | .faultBand => decide (1 ≤ v ∧ v ≤ 255 ∧ c.warnBand < v)
  | .driveLimit => decide (1 ≤ v ∧ v ≤ 4095)

/-- The laser settings with one replaced. -/
def LaserSettings.store (c : LaserSettings) (p : LaserParam) (v : Nat) : LaserSettings :=
  match p with
  | .refDrive => { c with refDrive := v }
  | .target => { c with target := v }
  | .loopShift => { c with loopShift := v }
  | .warmCount => { c with warmCount := v }
  | .warnBand => { c with warnBand := v }
  | .faultBand => { c with faultBand := v }
  | .driveLimit => { c with driveLimit := v }

/-- R145. -/
def decideSetParamLaser (role : Role) (payload : Payload LaserParamArgs) (s : State) : Decision :=
  if role ≠ .job then refuse s .role
  else
    match payload with
    | .misfit => refuse s .arg
    | .fits a =>
      match a.channel with
      | .unknown => refuse s .arg
      | .named c =>
        let u := s.lcu.get c
        if !laserInRange a.param u.settings a.value then refuse s .arg
        else if a.param ≠ .driveLimit ∧ u.fires then refuse s .state
        else
          accept (s.mapLaser c fun u => { u with settings := u.settings.store a.param a.value }) (.storedValue a.value)

/-- SET_PARAM of a laser parameter. -/
def execSetParamLaser (sender : Addr) (payload : Payload LaserParamArgs) (s : State) :
    Host.Outcome State Fault Refusal :=
  onMessage (.setParamLaser sender payload) sender 0x06 (decideSetParamLaser (roleOf sender) payload) s

/-! ### SCANNER_RESET -/

/-- R118: from FAULT to STOPPED; the channels go OFF (R140) and the wake of R110 is tested. -/
def State.resetScanner (s : State) : State :=
  (s.withStu { s.stu with scanner := .stopped, facet := none, acq := 0, badRun := 0, lastPeriod := none }).channelsOff.wakeIfDue

/-- R118. -/
def decideScannerReset (role : Role) (payload : Payload Unit) (s : State) : Decision :=
  if role ≠ .job then refuse s .role
  else
    match payload with
    | .misfit => refuse s .arg
    | .fits _ =>
      if s.stu.scanner = .fault then accept s.resetScanner (.scannerState s.resetScanner.stu.scanner)
      else refuse s .state

/-- SCANNER_RESET. -/
def execScannerReset (sender : Addr) (payload : Payload Unit) (s : State) : Host.Outcome State Fault Refusal :=
  onMessage (.scannerReset sender payload) sender 0x07 (decideScannerReset (roleOf sender) payload) s

/-! ### LASER_RESET -/

/-- R141: one channel reset; with the scanner LOCKED and the part not halted it enters WARMING at once. -/
def LaserUnit.reset (warm : Bool) (u : LaserUnit) : LaserUnit := if warm then u.off.warm else u.off

/-- R141: the channels LASER_RESET names that are in FAULT. -/
def laserNamed (t : LaserTarget) (lcu : Rgb LaserUnit) (c : Channel) : Bool :=
  match t with
  | .all => decide ((lcu.get c).state = .fault)
  | .one d => decide (c = d) && decide ((lcu.get c).state = .fault)

/-- R141: the named channels reset. -/
def State.resetLasers (s : State) (t : LaserTarget) : State :=
  s.withLcu (Rgb.tabulate fun c =>
    if laserNamed t s.lcu c then (s.lcu.get c).reset (s.isLocked && !s.gc.halted) else s.lcu.get c)

/-- R141. -/
def decideLaserReset (role : Role) (payload : Payload (Coded LaserTarget)) (s : State) : Decision :=
  if role ≠ .job then refuse s .role
  else
    match payload with
    | .misfit => refuse s .arg
    | .fits .unknown => refuse s .arg
    | .fits (.named t) =>
      if laserNamed t s.lcu .r || laserNamed t s.lcu .g || laserNamed t s.lcu .b then
        accept (s.resetLasers t) (.laserStates ((s.resetLasers t).lcu.map LaserUnit.state))
      else refuse s .state

/-- LASER_RESET. -/
def execLaserReset (sender : Addr) (payload : Payload (Coded LaserTarget)) (s : State) :
    Host.Outcome State Fault Refusal :=
  onMessage (.laserReset sender payload) sender 0x08 (decideLaserReset (roleOf sender) payload) s

/-! ### Queries -/

/-- The whole seconds left on a timer, rounded up: a free value within the timer's period (log entry 3). -/
def Timer.left (t : Timer) (n : Nat) : Option Nat :=
  match t with
  | .running full => some (min (Config.secondsLeft n) full)
  | .stopped => none

/-- The exposure part of QUERY_SCANNER. -/
def Exposure.report (x : Exposure) : OutputReply := ⟨x.out, x.nextOut, x.fifo.map LineRecord.y, x.steps⟩

/-- R130. -/
def State.scannerReply (s : State) : ScannerReply where
  scanner := s.stu.scanner
  motorEn := s.motorEn
  facet := s.stu.facet
  acq := s.stu.acq
  badRun := s.stu.badRun
  lastPeriod := absentWord32 s.stu.lastPeriod
  spinUp := s.stu.spinUp.left (2 * s.free)
  missing := decide (s.stu.missing ≠ .stopped)
  idle := s.stu.idle.left (2 * s.free + 1)
  settings := s.stu.settings
  output := s.exposure?.map Exposure.report

/-- R130. The model's own free-value counter moves on; nothing of the part changes. -/
def decideQueryScanner (payload : Payload Unit) (s : State) : Decision :=
  match payload with
  | .misfit => refuse s .arg
  | .fits _ => accept (s.withFree (s.free + 1)) (.scanner s.scannerReply)

/-- QUERY_SCANNER. -/
def execQueryScanner (sender : Addr) (payload : Payload Unit) (s : State) : Host.Outcome State Fault Refusal :=
  onMessage (.queryScanner sender payload) sender 0x09 (decideQueryScanner payload) s

/-- R146: one channel. -/
def LaserUnit.report (u : LaserUnit) : LaserReply where
  state := u.state
  drift := u.drift
  average := u.average
  lastSample := absentWord16 u.lastSample
  samples := u.samples
  band := u.band
  gain := absentWord16 (if u.state = .ready then some (powerGain u.average u.settings.target) else none)
  settings := u.settings

/-- QUERY_LASER (R146). That one reply carries the values of all three channels, more than R190 allows its data, is the
model's choice (log entry 32). -/
def execQueryLaser (sender : Addr) (payload : Payload Unit) (s : State) : Host.Outcome State Fault Refusal :=
  onMessage (.queryLaser sender payload) sender 0x0A (query payload fun s => .lasers (s.lcu.map LaserUnit.report)) s

end Sys2Proof.Machine
end

