-- ==== Sys2Proof/Machine/Wire.lean ====
section
/-! DEFINITION. The meanings of the events of the deck bus that no block decides: unknown kinds, discarded and
ignored frames, collisions, the end of a reply, and an idle line (R183, R186, R189, R192). -/

namespace Sys2Proof.Machine

/-- UNKNOWN_KIND_MESSAGE (R189): the DBI refuses with KIND and no block sees the message. A kind code of Table 10-6
is no unknown kind, and the event cannot be (log entry 4). -/
def execUnknownKindMessage (sender : Addr) (kind : Byte) (s : State) : Host.Outcome State Fault Refusal :=
  if kindCodes.contains kind then .next s
  else onMessage (.unknownKindMessage sender kind) sender kind (fun s => refuse s .kind) s

/-- FRAME_DISCARD (R186): a frame that fails a check has no effect on any block; the DBI waits for the line to be
idle. -/
def execFrameDiscard (frame : FrameRx) (s : State) : Host.Outcome State Fault Refusal :=
  if s.receives && (FrameRx.failure frame).isSome then .next s.awaitIdle else .next s

/-- FRAME_IGNORED (R186): a good frame for another unit is not acted on and not answered; the next start mark is
taken when the line has been idle. -/
def execFrameIgnored (_sender _target : Addr) (s : State) : Host.Outcome State Fault Refusal :=
  if s.receives then .next s.awaitIdle else .next s

/-- The tenure is over: the receive buffer is empty, no reply is in progress, and the next start mark is taken when
the line has been idle (R183, R186, R192). -/
def State.endTenure (s : State) : State := s.withDbi { s.dbi with rx := none, reply := none, waitIdle := true }

/-- REPLY_COLLISION (R192): the rest of the reply is discarded, the receive buffer emptied, and the DBI waits for
the line to be idle; what the message did stands. -/
def execReplyCollision (s : State) : Host.Outcome State Fault Refusal :=
  if s.dbi.reply.isSome then .next s.endTenure else .next s

/-- REPLY_END (R183): the reply's last stop bit has been sent, and the tenure ends. -/
def execReplyEnd (s : State) : Host.Outcome State Fault Refusal :=
  if s.dbi.reply.isSome then .next s.endTenure else .next s

/-- DECK_BUS_IDLE (R186, R192, R194): the DBI may again take a start mark. -/
def execDeckBusIdle (s : State) : Host.Outcome State Fault Refusal :=
  whenRunning (fun s => s.withDbi { s.dbi with waitIdle := false }) s

end Sys2Proof.Machine
end

