-- ==== Sys2Proof/Machine/Dispatch.lean ====
section
/-! DEFINITION. The meaning of each command: one arm per constructor of Instr. -/

namespace Sys2Proof.Machine

def exec (i : Instr) (s : State) : Host.Outcome State Fault Refusal :=
  match i with
  | .eStop sender payload => Sys2Proof.Machine.execEStop sender payload s
  | .broadcastMessage sender kind => Sys2Proof.Machine.execBroadcastMessage sender kind s
  | .recorderReset sender payload => Sys2Proof.Machine.execRecorderReset sender payload s
  | .queryStatus sender payload => Sys2Proof.Machine.execQueryStatus sender payload s
  | .resume sender payload => Sys2Proof.Machine.execResume sender payload s
  | .wake sender payload => Sys2Proof.Machine.execWake sender payload s
  | .setParam sender payload => Sys2Proof.Machine.execSetParam sender payload s
  | .setParamLaser sender payload => Sys2Proof.Machine.execSetParamLaser sender payload s
  | .scannerReset sender payload => Sys2Proof.Machine.execScannerReset sender payload s
  | .laserReset sender payload => Sys2Proof.Machine.execLaserReset sender payload s
  | .queryScanner sender payload => Sys2Proof.Machine.execQueryScanner sender payload s
  | .queryLaser sender payload => Sys2Proof.Machine.execQueryLaser sender payload s
  | .submitStored sender payload => Sys2Proof.Machine.execSubmitStored sender payload s
  | .submitFlat sender payload => Sys2Proof.Machine.execSubmitFlat sender payload s
  | .submitRunout sender payload => Sys2Proof.Machine.execSubmitRunout sender payload s
  | .cancel sender payload => Sys2Proof.Machine.execCancel sender payload s
  | .flush sender payload => Sys2Proof.Machine.execFlush sender payload s
  | .hold sender payload => Sys2Proof.Machine.execHold sender payload s
  | .release sender payload => Sys2Proof.Machine.execRelease sender payload s
  | .queryQueue sender payload => Sys2Proof.Machine.execQueryQueue sender payload s
  | .queryEntry sender payload => Sys2Proof.Machine.execQueryEntry sender payload s
  | .queryStrips sender payload => Sys2Proof.Machine.execQueryStrips sender payload s
  | .queryMemory sender payload => Sys2Proof.Machine.execQueryMemory sender payload s
  | .queryReader sender payload => Sys2Proof.Machine.execQueryReader sender payload s
  | .beginSet sender payload => Sys2Proof.Machine.execBeginSet sender payload s
  | .writeTable sender payload => Sys2Proof.Machine.execWriteTable sender payload s
  | .publishSet sender payload => Sys2Proof.Machine.execPublishSet sender payload s
  | .freeSet sender payload => Sys2Proof.Machine.execFreeSet sender payload s
  | .setTrim sender payload => Sys2Proof.Machine.execSetTrim sender payload s
  | .readTable sender payload => Sys2Proof.Machine.execReadTable sender payload s
  | .querySet sender payload => Sys2Proof.Machine.execQuerySet sender payload s
  | .writeOptics sender payload => Sys2Proof.Machine.execWriteOptics sender payload s
  | .readOptics sender payload => Sys2Proof.Machine.execReadOptics sender payload s
  | .queryPipeline sender payload => Sys2Proof.Machine.execQueryPipeline sender payload s
  | .magLoad sender payload => Sys2Proof.Machine.execMagLoad sender payload s
  | .magUnload sender payload => Sys2Proof.Machine.execMagUnload sender payload s
  | .gateReady sender payload => Sys2Proof.Machine.execGateReady sender payload s
  | .gateFault sender payload => Sys2Proof.Machine.execGateFault sender payload s
  | .abortFrame sender payload => Sys2Proof.Machine.execAbortFrame sender payload s
  | .readMap sender payload => Sys2Proof.Machine.execReadMap sender payload s
  | .bindAttn sender payload => Sys2Proof.Machine.execBindAttn sender payload s
  | .unbind sender payload => Sys2Proof.Machine.execUnbind sender payload s
  | .setMask sender payload => Sys2Proof.Machine.execSetMask sender payload s
  | .ackEvents sender payload => Sys2Proof.Machine.execAckEvents sender payload s
  | .forceEvent sender payload => Sys2Proof.Machine.execForceEvent sender payload s
  | .readEvents sender payload => Sys2Proof.Machine.execReadEvents sender payload s
  | .unknownKindMessage sender kind => Sys2Proof.Machine.execUnknownKindMessage sender kind s
  | .frameDiscard frame => Sys2Proof.Machine.execFrameDiscard frame s
  | .frameIgnored sender target => Sys2Proof.Machine.execFrameIgnored sender target s
  | .replyCollision => Sys2Proof.Machine.execReplyCollision s
  | .portWrite offset bytes => Sys2Proof.Machine.execPortWrite offset bytes s
  | .portRead offset request => Sys2Proof.Machine.execPortRead offset request s
  | .startOfScanMark ticks samples order => Sys2Proof.Machine.execStartOfScanMark ticks samples order s
  | .indexPulse => Sys2Proof.Machine.execIndexPulse s
  | .estopNAsserted => Sys2Proof.Machine.execEstopNAsserted s
  | .hardReset => Sys2Proof.Machine.execHardReset s
  | .hardResetEnd s1 s0 => Sys2Proof.Machine.execHardResetEnd s1 s0 s
  | .spinUpTimerExpiry => Sys2Proof.Machine.execSpinUpTimerExpiry s
  | .missingMarkTimerExpiry => Sys2Proof.Machine.execMissingMarkTimerExpiry s
  | .idleTimerExpiry => Sys2Proof.Machine.execIdleTimerExpiry s
  | .stagingRead => Sys2Proof.Machine.execStagingRead s
  | .lineFetchRead => Sys2Proof.Machine.execLineFetchRead s
  | .writeBackMarking => Sys2Proof.Machine.execWriteBackMarking s
  | .lineComputed => Sys2Proof.Machine.execLineComputed s
  | .estopNDeasserted => Sys2Proof.Machine.execEstopNDeasserted s
  | .replyEnd => Sys2Proof.Machine.execReplyEnd s
  | .deckBusIdle => Sys2Proof.Machine.execDeckBusIdle s
  | .pcieLinkUp => Sys2Proof.Machine.execPcieLinkUp s

end Sys2Proof.Machine
end

