-- ==== Sys2Proof/Safety.lean ====
section
/-! DEFINITION. What the statements of this package speak of: the sender, kind and roles of a message (Table 10-6),
the state that replies, and the invariants of the part. -/

namespace Sys2Proof

/-! ### Messages -/

/-- The sender of a message addressed to the part. -/
def Instr.sender? : Instr → Option Addr
  | .eStop a _ | .recorderReset a _ | .queryStatus a _ | .resume a _ | .wake a _ | .setParam a _ | .setParamLaser a _
  | .scannerReset a _ | .laserReset a _ | .queryScanner a _ | .queryLaser a _ | .submitStored a _ | .submitFlat a _
  | .submitRunout a _ | .cancel a _ | .flush a _ | .hold a _ | .release a _ | .queryQueue a _ | .queryEntry a _
  | .queryStrips a _ | .queryMemory a _ | .queryReader a _ | .beginSet a _ | .writeTable a _ | .publishSet a _
  | .freeSet a _ | .setTrim a _ | .readTable a _ | .querySet a _ | .writeOptics a _ | .readOptics a _
  | .queryPipeline a _ | .magLoad a _ | .magUnload a _ | .gateReady a _ | .gateFault a _ | .abortFrame a _
  | .readMap a _ | .bindAttn a _ | .unbind a _ | .setMask a _ | .ackEvents a _ | .forceEvent a _ | .readEvents a _
  | .unknownKindMessage a _ => some a
  | .broadcastMessage _ _ | .frameDiscard _ | .frameIgnored _ _ | .replyCollision | .portWrite _ _ | .portRead _ _
  | .startOfScanMark _ _ _ | .indexPulse | .estopNAsserted | .hardReset | .hardResetEnd _ _ | .spinUpTimerExpiry
  | .missingMarkTimerExpiry | .idleTimerExpiry | .stagingRead | .lineFetchRead | .writeBackMarking | .lineComputed
  | .estopNDeasserted | .replyEnd | .deckBusIdle | .pcieLinkUp => none

/-- The kind code of a message addressed to the part (Table 10-6). -/
def Instr.kind? : Instr → Option Byte
  | .eStop _ _ => some 0x01
  | .recorderReset _ _ => some 0x02
  | .queryStatus _ _ => some 0x03
  | .resume _ _ => some 0x04
  | .wake _ _ => some 0x05
  | .setParam _ _ => some 0x06
  | .setParamLaser _ _ => some 0x06
  | .scannerReset _ _ => some 0x07
  | .laserReset _ _ => some 0x08
  | .queryScanner _ _ => some 0x09
  | .queryLaser _ _ => some 0x0A
  | .submitStored _ _ => some 0x10
  | .submitFlat _ _ => some 0x11
  | .submitRunout _ _ => some 0x12
  | .cancel _ _ => some 0x13
  | .flush _ _ => some 0x14
  | .hold _ _ => some 0x15
  | .release _ _ => some 0x16
  | .queryQueue _ _ => some 0x17
  | .queryEntry _ _ => some 0x18
  | .queryStrips _ _ => some 0x19
  | .queryMemory _ _ => some 0x1A
  | .queryReader _ _ => some 0x1B
  | .beginSet _ _ => some 0x20
  | .writeTable _ _ => some 0x21
  | .publishSet _ _ => some 0x22
  | .freeSet _ _ => some 0x23
  | .setTrim _ _ => some 0x24
  | .readTable _ _ => some 0x25
  | .querySet _ _ => some 0x26
  | .writeOptics _ _ => some 0x27
  | .readOptics _ _ => some 0x28
  | .queryPipeline _ _ => some 0x29
  | .magLoad _ _ => some 0x30
  | .magUnload _ _ => some 0x31
  | .gateReady _ _ => some 0x32
  | .gateFault _ _ => some 0x33
  | .abortFrame _ _ => some 0x34
  | .readMap _ _ => some 0x35
  | .bindAttn _ _ => some 0x40
  | .unbind _ _ => some 0x41
  | .setMask _ _ => some 0x42
  | .ackEvents _ _ => some 0x43
  | .forceEvent _ _ => some 0x44
  | .readEvents _ _ => some 0x45
  | .unknownKindMessage _ k => some k
  | .broadcastMessage _ _ | .frameDiscard _ | .frameIgnored _ _ | .replyCollision | .portWrite _ _ | .portRead _ _
  | .startOfScanMark _ _ _ | .indexPulse | .estopNAsserted | .hardReset | .hardResetEnd _ _ | .spinUpTimerExpiry
  | .missingMarkTimerExpiry | .idleTimerExpiry | .stagingRead | .lineFetchRead | .writeBackMarking | .lineComputed
  | .estopNDeasserted | .replyEnd | .deckBusIdle | .pcieLinkUp => none

/-- The roles that may send a kind, for the kinds that only some roles may send (Table 10-6). -/
def Instr.roles? : Instr → Option (List Machine.Role)
  | .eStop _ _ | .wake _ _ => some [.job, .transport, .calibration]
  | .recorderReset _ _ | .resume _ _ | .setParam _ _ | .setParamLaser _ _ | .scannerReset _ _ | .laserReset _ _
  | .submitStored _ _ | .submitRunout _ _ | .hold _ _ | .release _ _ | .abortFrame _ _ => some [.job]
  | .submitFlat _ _ | .cancel _ _ | .flush _ _ => some [.job, .calibration]
  | .beginSet _ _ | .writeTable _ _ | .publishSet _ _ | .freeSet _ _ | .setTrim _ _ | .writeOptics _ _ =>
    some [.calibration]
  | .magLoad _ _ | .magUnload _ _ | .gateReady _ _ | .gateFault _ _ => some [.transport]
  | _ => none

/-- A payload known to be of the wrong length. -/
def Payload.isMisfit {α : Type} : Payload α → Bool
  | .fits _ => false
  | .misfit => true

/-- A misfit payload that names neither submitter nor entry. -/
def NamedPayload.isUnnamed {α β : Type} : NamedPayload α β → Bool
  | .fits _ => false
  | .misfit none => true
  | .misfit (some _) => false

/-- The payload's length does not fit the kind, and nothing can be read from it that an earlier test judges (R189,
chapter 12). -/
def Instr.misfits : Instr → Bool
  | .eStop _ p | .recorderReset _ p | .resume _ p | .wake _ p | .scannerReset _ p | .queryScanner _ p
  | .queryLaser _ p | .hold _ p | .release _ p | .queryQueue _ p | .queryMemory _ p | .queryReader _ p
  | .queryPipeline _ p | .magUnload _ p | .gateFault _ p | .abortFrame _ p => p.isMisfit
  | .publishSet _ p | .freeSet _ p | .querySet _ p | .gateReady _ p | .readMap _ p => p.isMisfit
  | .setParam _ p => p.isMisfit
  | .setParamLaser _ p => p.isMisfit
  | .laserReset _ p => p.isMisfit
  | .submitFlat _ p => p.isMisfit
  | .submitRunout _ p => p.isMisfit
  | .cancel _ p => p.isUnnamed
  | .flush _ p => p.isUnnamed
  | .queryEntry _ p => p.isMisfit
  | .queryStrips _ p => p.isUnnamed
  | .beginSet _ p => p.isMisfit
  | .writeTable _ p => p.isMisfit
  | .setTrim _ p => p.isMisfit
  | .readTable _ p => p.isMisfit
  | .writeOptics _ p => p.isMisfit
  | .readOptics _ p => p.isMisfit
  | .queryStatus _ bs => decide (1 < bs.length)
  | .submitStored _ bs => decide (bs.length ≠ 26)
  | .magLoad _ bs => decide (bs.length ≠ 11)
  | .bindAttn _ bs | .unbind _ bs | .readEvents _ bs => decide (bs.length ≠ 1)
  | .setMask _ bs | .ackEvents _ bs | .forceEvent _ bs => decide (bs.length ≠ 3)
  | _ => false

/-- A submission (R4). -/
def Instr.isSubmission : Instr → Bool
  | .submitStored _ _ => true
  | .submitFlat _ _ => true
  | .submitRunout _ _ => true
  | _ => false

/-- A query of any role that changes nothing of the part (R26, R27, R43, R66, R87, R88, R105, R106, R130, R146,
R168, R179, R200). -/
def Instr.isQuery : Instr → Bool
  | .queryStatus _ _ | .queryScanner _ _ | .queryLaser _ _ | .queryQueue _ _ | .queryEntry _ _ | .queryStrips _ _
  | .queryMemory _ _ | .queryReader _ _ | .readTable _ _ | .querySet _ _ | .readOptics _ _ | .queryPipeline _ _
  | .readMap _ _ | .readEvents _ _ => true
  | _ => false

namespace Machine

/-- The DBI takes a frame of this sender (R183, R186). -/
def State.takes (s : State) (sender : Addr) : Bool := s.receives && senderValid sender

/-- The state whose deck bus interface holds a decided message and has begun the reply to it, and which is the same
in everything else (Table 10-1, R190). -/
def State.replying (s : State) (c : Instr) (sender : Addr) (kind : Byte) (status : Status) (data : ReplyData) :
    State :=
  s.withDbi { s.dbi with rx := some c, reply := some ⟨sender, kind, status, data⟩ }

/-- An event is latched on every line (R195). -/
def State.hasLatched (s : State) (e : Event) : Prop := ∀ n : Fin 4, (s.au[n]).latched.getLsbD e.bit = true

/-! ### Invariants -/

/-- Frame memory is in its canonical form. -/
def State.memoryCanonical (s : State) : Prop := s.fmc.mem.wf = true

/-- The expected film position always equals the reel map record count (chapter 8). -/
def State.positionsAgree (s : State) : Prop := s.gc.expected = s.rm.count

/-- A gate cycle that is not NO_FILM implies a LOADED magazine (R152). -/
def State.filmLoaded (s : State) : Prop := s.gc.gate ≠ .noFilm → s.loadedTag?.isSome = true

/-- R1: at most 64 entries, no two of one key. -/
def State.queueBounded (s : State) : Prop :=
  s.fq.entries.length ≤ Config.queueCapacity ∧ (s.fq.entries.map Entry.key).Nodup

/-- An entry names a set. -/
def Entry.names (e : Entry) (id : Nat) : Bool :=
  match e.image? with
  | some i => decide (i.set = id)
  | none => false

/-- R100: a set's use count is the number of entries that name it, and only READY sets are named. -/
def State.useCountsAgree (s : State) : Prop :=
  ∀ id < 8, (s.setAt id).useCount = s.fq.entries.countP (Entry.names · id) ∧
    (0 < (s.setAt id).useCount → (s.setAt id).ready?.isSome = true)

/-- Every strip table offset lies below the reel-map region (R5, Table 1-1). -/
def State.tablesInRange (s : State) : Prop :=
  ∀ e ∈ s.fq.entries, ∀ p, e.stored? = some p → p.tableOffset < Config.mapBase

/-- R113, R121: the facet count is 4..16; a known facet counter is below it, and is known only while the scanner
is ACQUIRING or LOCKED. -/
def State.facetInRange (s : State) : Prop :=
  (4 ≤ s.stu.settings.facetCount ∧ s.stu.settings.facetCount ≤ 16) ∧
    ∀ f, s.stu.facet = some f → f < s.stu.settings.facetCount ∧ s.turning = true

/-- R134, R140: while the scanner is STOPPED, SPINNING_UP or FAULT every channel is OFF. -/
def State.channelsFollowScanner (s : State) : Prop :=
  s.turning = false → ∀ c, (s.lcu.get c).state = .off

/-- R116, R139, R119: an exposure exists only with the scanner LOCKED, three READY channels and the idle timer
stopped. -/
def State.exposureNeedsLock (s : State) : Prop :=
  s.isExposing = true → s.isLocked = true ∧ s.lasersReady = true ∧ s.stu.idle = .stopped

/-- Codes of one channel within a limit. -/
def codesWithin (limit : Nat) (codes : List Nat) : Prop := ∀ d ∈ codes, d ≤ limit

/-- R144: outside an exposure the image outputs carry nothing; during one, every code on an output and every code in
the line FIFO is within the channel's latched drive limit. -/
def State.drivesLimited (s : State) : Prop :=
  match s.exposure? with
  | none => ∀ c, (s.lcu.get c).sweep.image = []
  | some x => ∀ c, codesWithin (x.ctx.limits.get c) (s.lcu.get c).sweep.image ∧
      ∀ r ∈ x.fifo, codesWithin (x.ctx.limits.get c) (r.codes.map (Rgb.get · c))

/-- R122, R127: during an exposure the line FIFO holds at most 4 records, one place being kept for the line in
production, and the line steps issued are the lines completed. -/
def State.outputCounts (s : State) : Prop :=
  ∀ x, s.exposure? = some x → x.fifo.length + x.line.isSome.toNat ≤ Config.fifoCapacity ∧
    x.steps = x.ctx.linesExposed + x.ctx.linesBlanked

/-- The bytes a range covers. -/
def Range.covers (r : Range) (a : Nat) : Prop := r.offset ≤ a ∧ a < r.offset + r.length

/-- The bytes a pin record pins (R39). -/
def PinRecord.covers (p : PinRecord) (a : Nat) : Prop := p.table.covers a ∨ ∃ r ∈ p.strips, r.covers a

/-- A record of the pin table is held. -/
def State.holdsPin (s : State) (p : PinRecord) : Prop := s.fmc.pinA = some p ∨ s.fmc.pinB = some p

/-- A byte is pinned (R39). -/
def State.pinned (s : State) (a : Nat) : Prop := ∃ p, s.holdsPin p ∧ p.covers a

/-- R39, R40, R42: every pin record held is one of a STORED entry at position 0 or 1, and no entry holds two. -/
def State.pinsInWindow (s : State) : Prop :=
  (∀ p, s.holdsPin p → ∃ n e, n < 2 ∧ s.fq.entries[n]? = some e ∧ e.key = p.key ∧ e.isStored = true) ∧
  ∀ p q, s.fmc.pinA = some p → s.fmc.pinB = some q → p.key ≠ q.key

/-- R156, R159: no start is due, that is, some condition of every start fails. -/
def State.noStartDue (s : State) : Prop :=
  ¬ (s.gateReady = true ∧ s.gc.halted = false ∧ s.fq.held.any = false ∧
    (s.headIsRunout = true ∨ (s.headIsFrame = true ∧ s.isLocked = true ∧ s.lasersReady = true)))

/-- R154: the frame in the gate stands at the expected position. -/
def State.gateAtExpected (s : State) : Prop := ∀ q, s.gatePosition? = some q → q = s.gc.expected

/-- R68: while the part runs, no line is left due; a line begins at the event that makes its conditions true. -/
def State.lineBegun (s : State) : Prop :=
  s.pins.resetLow = false → ∀ x, s.exposure? = some x → s.lineDue x = false

/-- A command at which the reel map may be emptied (R171). -/
def emptiesMap : Instr → Bool
  | .magLoad _ _ => true
  | .hardResetEnd _ _ => true
  | _ => false

/-- A command at which a latched event may leave a line's latched set (R195). -/
def clearsEvents : Instr → Bool
  | .ackEvents _ _ => true
  | .bindAttn _ _ => true
  | .recorderReset _ _ => true
  | .hardResetEnd _ _ => true
  | _ => false

/-! ### What events, aborts and halts leave -/

/-- The event set of a list of events (R195). -/
def eventSet (es : List Event) : Word16 := es.foldl (fun m e => m ||| e.set) 0

/-- From one state to another exactly the events listed were raised: they are latched beside what each line held,
and owners and masks stand (R195). -/
def State.raisedOnly (s t : State) (es : List Event) : Prop :=
  ∀ n : Fin 4, t.au[n] = { s.au[n] with latched := s.au[n].latched ||| eventSet es }

/-- The 32 bytes of a slot of the reel-map region read as a record (R171, Table 12-6). -/
def State.slotHolds (s : State) (i : Nat) (r : MapRecord) : Prop :=
  ∀ n < Config.recordSize, s.readByte (slotOffset i + n) = r.bytes.getD n 0

/-- One byte of the reel-map region outside the slots from one index on, n of them. -/
def outsideSlots (first n a : Nat) : Prop :=
  Config.mapBase ≤ a ∧ (a < slotOffset first ∨ slotOffset (first + n) ≤ a)

/-- One record more, of position count i, uses up the film of the LOADED magazine (R161). -/
def State.lastFrame (s : State) : Bool := s.loadedTag?.any fun t => decide (t.capacity ≤ s.rm.count + 1)

/-- Table 8-8: the gate an abort leaves. -/
def State.gateLeft (s : State) : SpoilReason → GateCycle
  | .gateFault => .fault
  | .magRemoved => .noFilm
  | _ => if s.lastFrame then .filmOut else .advancing

/-- R161, R163: the abort reports the film end. -/
def State.abortEndsFilm (s : State) (r : SpoilReason) : Bool :=
  decide (r ≠ .magRemoved) && s.lastFrame && !s.fq.entries.isEmpty

/-- R162, step 7, R16, R161: what an abort other than RESET raises. -/
def State.abortRaises (s : State) (r : SpoilReason) : List Event :=
  [.frameDone, .frameSpoiled] ++ (if r = .magRemoved then [] else [.advance]) ++
  (if s.fq.held.spoiled then [] else [.queueHeld]) ++
  (if s.abortEndsFilm r then [.filmEnd] ++ (if s.fq.held.filmEnd then [] else [.queueHeld]) else [])

/-- R162, R163, R23: the gate, the reel map, the frame queue and the line fetch as an abort for a reason other than
RESET leaves them. -/
def State.abortLeaves (s : State) (x : Exposure) (r : SpoilReason) (t : State) : Prop :=
  t.gc.gate = s.gateLeft r ∧ t.gc.advance = (if r = .magRemoved then 0 else 1) ∧
  t.gc.expected = s.gc.expected + 1 ∧
  t.rm.count = s.rm.count + 1 ∧ t.rm.roll = s.rm.roll ∧
  t.fq = { s.fq with
    entries := changeAt s.fq.entries 0 (·.withState .staged)
    held := { s.fq.held with spoiled := true, filmEnd := s.fq.held.filmEnd || s.abortEndsFilm r } } ∧
  t.sr.fetch = none ∧
  (s.memoryCanonical → s.rm.count < Config.maxRecords →
    t.slotHolds s.rm.count (exposureRecord x.ctx x.clips .spoiled r)) ∧
  ∀ a, outsideSlots s.rm.count 1 a → t.readByte a = s.readByte a

/-- R120, R140, R166: the scanner and the channels as a halt leaves them. -/
def State.haltLeaves (s t : State) : Prop :=
  t.gc.halted = true ∧
  t.stu.settings = s.stu.settings ∧
  t.stu.scanner = (if s.stu.scanner = .fault then .fault else .stopped) ∧
  (s.stu.scanner ≠ .fault ∧ s.stu.scanner ≠ .stopped →
    t.stu.spinUp = .stopped ∧ t.stu.missing = .stopped ∧ t.stu.idle = .stopped ∧
    t.stu.facet = none ∧ t.stu.acq = 0 ∧ t.stu.badRun = 0) ∧
  (s.stu.scanner = .fault ∨ s.stu.scanner = .stopped → t.stu = s.stu) ∧
  ∀ c, t.lcu.get c = { s.lcu.get c with state := .off, samples := 0, band := 0, drift := false, sweep := .rest }

/-- What an abort leaves alone outside the gate, the reel map, the frame queue, the strip reader, frame memory and
the attention lines: only the drive outputs drop (R162, R163). -/
def State.abortKeeps (s t : State) : Prop :=
  t.stu = s.stu ∧ (∀ c, t.lcu.get c = { s.lcu.get c with sweep := .rest }) ∧
  t.dbi = s.dbi ∧ t.port = s.port ∧ t.optics = s.optics ∧ t.cs = s.cs ∧ t.pins = s.pins ∧ t.gc.halted = s.gc.halted ∧
  t.fmc.pinA = s.fmc.pinA ∧ t.fmc.pinB = s.fmc.pinB ∧ t.fmc.lastDrop = s.fmc.lastDrop ∧ t.sr.staging = s.sr.staging ∧
  t.sr.wbList = s.sr.wbList

/-- R166: what a halting event makes of the part. -/
def State.haltedFrom (s t : State) : Prop :=
  (s.gc.halted = true → t = s) ∧
  (s.gc.halted = false → s.haltLeaves t ∧
    t.dbi = s.dbi ∧ t.port = s.port ∧ t.optics = s.optics ∧ t.cs = s.cs ∧ t.pins = s.pins ∧
    t.gc.magazine = s.gc.magazine ∧ t.rm.live = s.rm.live ∧
    (s.exposure? = none → t.gc = { s.gc with halted := true } ∧ t.rm = s.rm ∧ t.fq = s.fq ∧ t.fmc = s.fmc ∧
      t.sr = s.sr ∧ s.raisedOnly t [.halt]) ∧
    ∀ x, s.exposure? = some x → s.abortLeaves x .eStop t ∧ s.raisedOnly t (s.abortRaises .eStop ++ [.halt]))

/-- R117, R162: what a loss of lock makes of the part; the scan timing unit's facet and timers may have been changed
by the event that loses it. -/
def State.lockLostFrom (s t : State) : Prop :=
  t.stu = { s.stu with
    scanner := .acquiring, acq := 0, badRun := 0, facet := none, idle := .stopped
    spinUp := .running s.stu.settings.spinupTimeout } ∧
  t.dbi = s.dbi ∧ t.port = s.port ∧ t.optics = s.optics ∧ t.cs = s.cs ∧ t.pins = s.pins ∧
  t.gc.magazine = s.gc.magazine ∧ t.gc.halted = s.gc.halted ∧ t.rm.live = s.rm.live ∧
  (s.exposure? = none → t.gc = s.gc ∧ t.rm = s.rm ∧ t.fq = s.fq ∧ t.fmc = s.fmc ∧ t.sr = s.sr ∧ t.lcu = s.lcu ∧
    s.raisedOnly t [.scanner]) ∧
  ∀ x, s.exposure? = some x → s.abortLeaves x .lockLost t ∧ (∀ c, t.lcu.get c = { s.lcu.get c with sweep := .rest }) ∧
    s.raisedOnly t ([.scanner] ++ s.abortRaises .lockLost)

/-- No start can follow an event: the gate is not READY, or the part is halted (R156, R159). -/
def State.noStart (s : State) : Bool := !s.gateReady || s.gc.halted

/-- The submission a message carries, when its payload can be read (R4, R5). -/
def submissionOf : Instr → Option Submission
  | .submitStored _ p => (parseStored p).map storedSubmission
  | .submitFlat _ p => (fields? p).map flatSubmission
  | .submitRunout _ p => (fields? p).map runoutSubmission
  | _ => none

/-- An entry as it stands after its acceptance at a place: in the staging window a STORED entry is STAGING and the
others are STAGED, outside it all are QUEUED (R7, R10). -/
def acceptedEntry (place : Nat) (e : Entry) : Entry :=
  if 1 < place then e.withState .queued
  else if e.isStored then e.withState .staging
  else e.withState .staged

/-! ### Entry into the staging window (R10, R40, R41) -/

/-- R40: the entry holds the record it was given on entering the window; when the walk of it begins at the same event
the record has grown over descriptor 0. -/
def State.holdsFreshPin (t : State) (e : Entry) (p : StoredPart) : Prop :=
  t.holdsPin ⟨e.serial, e.key, ⟨p.tableOffset, if t.sr.staging.map Staging.key = some e.key then 16 else 0⟩, []⟩

/-- R10, R40, R41: the entry that stood behind the staging window has entered it at position 1. -/
def State.windowTook (t : State) (e : Entry) : Prop :=
  (e.leaving = true → t.fq.entries[1]? = some e) ∧
  (e.leaving = false → e.state = .queued → e.isStored = false → t.fq.entries[1]? = some (e.withState .staged)) ∧
  (∀ p, e.leaving = false → e.state = .queued → e.stored? = some p →
    t.fq.entries[1]? = some (e.withState .staging) ∧ t.holdsFreshPin e p) ∧
  (∀ r p, e.leaving = false → e.state = .rejected r → e.stored? = some p →
    t.fq.entries[1]? = some e ∧
    t.holdsPin ⟨e.serial, e.key, ⟨p.tableOffset, min 256 (0xFFF00000 - p.tableOffset)⟩, []⟩)

/-! ### Marking (R36, R203) -/

/-- R34, R36, R203: descriptor 0 of a table is marked for a completion: VALID clear and DONE set in the control byte,
the completion word in bytes 12 to 15, and every other byte of memory as it was. -/
def State.marksFirst (s t : State) (i : ImagePart) (p : StoredPart) (c : Completion) : Prop :=
  t.sr.wbPos = 1 ∧ t.sr.channel.busy = some (.mark (s.readByte p.tableOffset)) ∧
  t.readByte p.tableOffset = (s.readByte p.tableOffset &&& 0xFE) ||| 0x04 ∧
  t.readByte (p.tableOffset + 12) = (match c with
    | .exposed => 1
    | .rejected => 2
    | .cancelled => 3) ∧
  t.readByte (p.tableOffset + 13) = BitVec.ofNat 8 i.exposed ∧
  t.readByte (p.tableOffset + 14) = 0 ∧ t.readByte (p.tableOffset + 15) = 0 ∧
  ∀ b, b ≠ p.tableOffset → ¬ (p.tableOffset + 12 ≤ b ∧ b < p.tableOffset + 16) → t.readByte b = s.readByte b

/-! ### Starts (R156 to R159, R176) -/

/-- R156, R157: the head could start as a frame but for the gate, and what a frame start of it reads. -/
def State.offersFrame (s : State) (e : Entry) (i : ImagePart) (v : SetContent) (tag : MagazineTag) : Prop :=
  s.gc.halted = false ∧ s.headIsFrame = true ∧ s.isLocked = true ∧ s.lasersReady = true ∧ s.head? = some e ∧
  e.image? = some i ∧ (s.setAt i.set).ready? = some v ∧ s.loadedTag? = some tag

/-- R157, R68, R123, Table 8-6: an exposure as the frame start of an entry at a film position creates it, with line 0
begun. -/
def Exposure.startsAs (x : Exposure) (e : Entry) (i : ImagePart) (v : SetContent) (q : Nat) : Prop :=
  x.ctx.serial = e.serial ∧ x.ctx.key = e.key ∧ (x.ctx.kind = .stored ↔ e.isStored = true) ∧ x.ctx.set = i.set ∧
  x.ctx.ordinal = i.exposed + 1 ∧ x.ctx.position = q ∧
  x.ctx.checksum = (e.stored?.bind StoredPart.stagedSum).getD 0 ∧ x.ctx.trims = v.trims ∧ x.ctx.lights = i.lights ∧
  x.ctx.linesExposed = 0 ∧ x.ctx.linesBlanked = 0 ∧
  x.out = .waiting ∧ x.nextOut = 0 ∧ x.steps = 0 ∧ x.fifo = [] ∧ x.entered = 0 ∧ x.clips = ⟨0, 0, 0⟩ ∧
  (0 < i.height → x.nextLine = 1 ∧ ∃ l, x.line = some l ∧ l.y = 0 ∧ l.clips = ⟨0, 0, 0⟩ ∧
    (e.isStored = true → l.phase = .fetching) ∧
    ∀ values, e.body = .flat i values → l.phase = .computing (flatSource values))

/-- R142, R157: the power gain and the drive limit latched for a channel are those of a channel unit. -/
def ExposureContext.latchedFrom (x : ExposureContext) (c : Channel) (u : LaserUnit) : Prop :=
  x.gains.get c = powerGain u.average u.settings.target ∧ x.limits.get c = u.settings.driveLimit

/-- R59, R60: the strip reader fetches line 0 of a STORED entry from its beginning, in the item of the strip map that
holds the source line's first byte. -/
def State.fetchesFirstLine (t : State) (e : Entry) (i : ImagePart) : Prop :=
  ∀ p, e.body = .stored i p → 0 < i.height →
    let source := if p.flipV then i.height - 1 else 0
    let o := source * i.width * (match p.format with
      | .p16 => 6
      | .p16s => 6
      | .p10 => 4
      | .p10s => 4)
    ∃ f, t.sr.fetch = some f ∧ f.serial = e.serial ∧ f.y = 0 ∧ f.source = source ∧ f.bytesRead = 0 ∧ f.carry = [] ∧
      f.pixels = [] ∧ ∀ items n it, p.stripMap = some items → items[n]? = some it → it.start ≤ o →
        o < it.start + it.length → (∀ m < n, ∀ jt, items[m]? = some jt → jt.start + jt.length ≤ o) →
        f.item = n ∧ f.within = o - it.start

/-- R157: a frame start of an entry at film position q has been taken at an event that changes no channel. -/
def State.frameStarted (s t : State) (e : Entry) (i : ImagePart) (v : SetContent) (q : Nat) : Prop :=
  ∃ x, t.gc.gate = .exposing x ∧ x.startsAs e i v q ∧ (∀ c, x.ctx.latchedFrom c (s.lcu.get c)) ∧
    t.fetchesFirstLine e i ∧ t.stu = { s.stu with idle := .stopped } ∧ t.lcu = s.lcu ∧ t.dbi = s.dbi ∧
    t.optics = s.optics ∧ t.pins = s.pins ∧ t.gc.magazine = s.gc.magazine ∧ t.gc.halted = false ∧ t.rm.live = s.rm.live

/-- R157, R15: a head whose set has another stock code than the magazine, rejected at the start; h is the held-reason
set before the rejection. -/
def State.stockRejected (s t : State) (h : HeldSet) (e : Entry) (i : ImagePart) : Prop :=
  (e.isStored = true → t.fq.held = h ∧ t.fq.rejection = s.fq.rejection ∧ t.au = s.au ∧ t.cs = s.cs ∧
    t.sr.wbList = s.sr.wbList ++ [e.key] ∧
    ∃ e', t.head? = some e' ∧ e'.key = e.key ∧ e'.state = .rejected .stockMismatch ∧
      e'.stored?.bind StoredPart.completion = some .rejected) ∧
  (e.isStored = false → t.fq.rejection = some ⟨e.serial, e.key, .stockMismatch⟩ ∧
    t.fq.held = { h with rejected := true } ∧ t.hasLatched .entryRejected ∧
    (h.rejected = false → t.hasLatched .queueHeld) ∧
    t.fq.entries.map Entry.key = (s.fq.entries.map Entry.key).tail ∧
    (i.set ≤ 7 → (t.setAt i.set).useCount = (s.setAt i.set).useCount - 1))

/-- R176: the port read in flight while m records are appended from index first on is served once as many of them have
been written as it waits for, and finds those written and the others as they were; without an append, or without such
a read, the port stands. -/
def State.readFalls (s t : State) (first m : Nat) : Prop :=
  (m = 0 ∨ s.port.waiting = none → t.port = s.port) ∧
  ∀ r, s.port.waiting = some r → 0 < m →
    t.port.linkUp = s.port.linkUp ∧ t.port.waiting = none ∧
    ∃ bytes, t.port.lastRead = some ⟨r.offset, bytes⟩ ∧ bytes.length = r.length ∧
      ∀ n < r.length, bytes.getD n 0 =
        (if Config.mapBase ≤ r.offset + n ∧ r.offset + n < slotOffset (first + min (max r.records 1) m)
          then t.readByte (r.offset + n) else s.readByte (r.offset + n))

/-- R159, R24, R25, R174: a runout start of a head with n frames left, taken at film position q with the film of a
tag: the BLANK records, the advance, the head's count, and the end of the film. -/
def State.ranOut (t : State) (h : HeldSet) (e : Entry) (n q : Nat) (tag : MagazineTag) : Prop :=
  let k := min n (tag.capacity - q)
  t.rm.count = q + k ∧ t.gc.expected = q + k ∧ t.gc.advance = k ∧
  t.gc.gate = (if tag.capacity ≤ q + k then .filmOut else .advancing) ∧
  (∀ i < k, t.slotHolds (q + i) (blankRecord (q + i) e)) ∧
  t.hasLatched .advance ∧
  (n ≤ k → (∀ e' ∈ t.fq.entries, e'.key ≠ e.key) ∧ t.hasLatched .entryRetired) ∧
  (k < n → ∃ e', t.head? = some e' ∧ e'.key = e.key ∧ e'.state = .staged ∧ e'.body = .runout (n - k)) ∧
  (tag.capacity ≤ q + k → t.fq.entries ≠ [] → t.fq.held.filmEnd = true ∧ t.hasLatched .filmEnd) ∧
  (q + k < tag.capacity → t.fq.held = h)

/-- R159: the head is a STAGED runout of n frames, the film of a tag is in the magazine, and the part is in a state of
the kind a run reaches. -/
def State.offersRunout (s : State) (e : Entry) (n : Nat) (tag : MagazineTag) : Prop :=
  s.head? = some e ∧ e.body = .runout n ∧ e.state = .staged ∧ s.loadedTag? = some tag ∧ tag.capacity ≤ 32768 ∧
  s.positionsAgree ∧ s.memoryCanonical ∧ s.queueBounded ∧ s.tablesInRange

/-- No entry of kind FLAT or RUNOUT waits in REJECTED: such an entry is removed at the event that rejects it (R15). -/
def State.flatsNotRejected (s : State) : Prop :=
  ∀ e ∈ s.fq.entries, e.isStored = false → e.rejected? = none

end Machine

end Sys2Proof
end

