-- ==== Sys2Proof/WellFormed.lean ====
section
/-! DEFINITION. Which commands can occur at all: what the frame format, the payload sizes and the window of the
frame data port allow (R181, R186, R189, section 2.1). -/

namespace Sys2Proof

/-- A payload carried in bytes fits a frame (R181). -/
def payloadFits (payload : List Byte) : Bool := decide (payload.length ≤ 48)

/-- A signed 16-bit field holds the value (chapter 12). -/
def fieldFits (v : Int) : Bool := decide (-32768 ≤ v ∧ v ≤ 32767)

/-- A payload given by its fields satisfies a check; a misfit has none to check. -/
def payloadHolds {α : Type} (check : α → Bool) : Payload α → Bool
  | .fits a => check a
  | .misfit => true

/-- An access of the frame data port has at least one byte and lies inside the window (R31, section 2.1). -/
def accessFits (offset : Word32) (length : Nat) : Bool :=
  decide (1 ≤ length ∧ offset.toNat + length ≤ Config.windowSize)

/-- A received frame that a check fails, no longer than the longest frame (R181, R186). -/
def discardable (f : FrameRx) : Bool := decide (f.bytes.length ≤ 53) && (Machine.FrameRx.failure f).isSome

/-- Ticks between two marks (R114). -/
def ticksFit (ticks : Nat) : Bool := decide (1 ≤ ticks)

/-- A command that can occur. -/
def Instr.wf : Instr → Bool
  | .eStop a _ | .recorderReset a _ | .resume a _ | .wake a _ | .scannerReset a _ | .queryScanner a _
  | .queryLaser a _ | .hold a _ | .release a _ | .queryQueue a _ | .queryMemory a _ | .queryReader a _
  | .queryPipeline a _ | .magUnload a _ | .gateFault a _ | .abortFrame a _ => Machine.senderValid a
  | .queryStatus a p | .submitStored a p | .magLoad a p | .bindAttn a p | .unbind a p | .setMask a p
  | .ackEvents a p | .forceEvent a p | .readEvents a p => Machine.senderValid a && payloadFits p
  | .publishSet a _ | .freeSet a _ | .querySet a _ | .gateReady a _ | .readMap a _ => Machine.senderValid a
  | .broadcastMessage a _ => Machine.senderValid a
  | .setParam a _ => Machine.senderValid a
  | .setParamLaser a _ => Machine.senderValid a
  | .laserReset a _ => Machine.senderValid a
  | .submitFlat a p => Machine.senderValid a &&
      payloadHolds (fun f => fieldFits f.lights.r && fieldFits f.lights.g && fieldFits f.lights.b) p
  | .submitRunout a _ => Machine.senderValid a
  | .cancel a _ => Machine.senderValid a
  | .flush a _ => Machine.senderValid a
  | .queryEntry a _ => Machine.senderValid a
  | .queryStrips a _ => Machine.senderValid a
  | .beginSet a _ => Machine.senderValid a
  | .writeTable a p => Machine.senderValid a && payloadHolds (fun f => decide (4 + 2 * f.values.length ≤ 48)) p
  | .setTrim a _ => Machine.senderValid a
  | .readTable a _ => Machine.senderValid a
  | .writeOptics a p => Machine.senderValid a && payloadHolds (fun f => decide (2 * f.values.length ≤ 48)) p
  | .readOptics a _ => Machine.senderValid a
  | .unknownKindMessage a k => Machine.senderValid a && !Machine.kindCodes.contains k
  | .frameDiscard f => discardable f
  | .frameIgnored a t => Machine.senderValid a && decide (t ≠ 0)
  | .portWrite o bs => accessFits o bs.length
  | .portRead o r => accessFits o r.length
  | .startOfScanMark ticks _ _ => ticksFit ticks
  | .replyCollision | .indexPulse | .estopNAsserted | .hardReset | .hardResetEnd _ _ | .spinUpTimerExpiry
  | .missingMarkTimerExpiry | .idleTimerExpiry | .stagingRead | .lineFetchRead | .writeBackMarking | .lineComputed
  | .estopNDeasserted | .replyEnd | .deckBusIdle | .pcieLinkUp => true

end Sys2Proof
end

