-- ==== Sys2Proof/Certificates/Slice0/Obligations.lean ====
section
/-! DEFINITION. The statements for the provers. Each is one Prop, Obligations.Name; OBLIGATIONS.json lists them with
the rules they rest on. -/

section

open Sys2Proof Sys2Proof.Machine

/-! ### The queue of commands, reset, and what every message shares -/

/-- A step takes the command at the front of the queue and carries it out on the queue's rest; on an empty queue the
block idles, which is the model's choice (log entry 5). -/
def Obligations.StepTakesFrontCommand : Prop :=
  (∀ (c : Instr) (rest : List Instr) (s : State), s.pending = c :: rest → step s = exec c { s with pending := rest }) ∧
  (∀ s : State, s.pending = [] → step s = .next s)

/-- No command touches the queue of waiting commands, and every command, in every state, leads to a next state: the
block never stops. That a port access past the end of the window goes on too is the model's choice (log entry 21). -/
def Obligations.CommandsCompleteAndKeepQueue : Prop :=
  (∀ (c : Instr) (s t : State), exec c s = .next t → t.pending = s.pending) ∧
  (∀ (c : Instr) (s : State), ∃ t : State, exec c s = .next t)

/-- Power-on or the release of RESET_N gives every block its hard-reset values; the level of ESTOP_N sets the halted
flag, and the straps give the unit address. That no read stands at the port, served or not, is said of the model's own
fields and is its choice (log entries 16 and 28). -/
def Obligations.HardResetEndGivesResetValues : Prop :=
  ∀ (s1 s0 : Bool) (s : State), ∃ t : State, exec (.hardResetEnd s1 s0) s = .next t ∧
    t.fq.entries = [] ∧ t.fq.held = ⟨false, false, false, false⟩ ∧ t.fq.rejection = none ∧ t.fq.serial = 0 ∧
    (∀ id : Fin 8, t.cs[id] = ⟨.free, 0⟩) ∧
    t.fmc.pinA = none ∧ t.fmc.pinB = none ∧ t.fmc.lastDrop = none ∧ t.port = ⟨false, none, none⟩ ∧
    t.sr.staging = none ∧ t.sr.fetch = none ∧ t.sr.wbList = [] ∧ t.sr.channel = ⟨none, false, false, false⟩ ∧
    t.exposure? = none ∧
    t.optics.facet = List.replicate 16 16384 ∧ t.optics.profile = List.replicate 33 16384 ∧ t.optics.centre = 4096 ∧
    t.stu = ⟨.stopped, none, 0, 0, none, .stopped, .stopped, .stopped, ⟨8, 20000, 16, 20, 600⟩⟩ ∧
    (∀ c, t.lcu.get c = ⟨.off, 0, none, 0, 0, false, ⟨2048, 2000, 6, 512, 8, 32, 4095⟩, ⟨none, []⟩⟩) ∧
    t.gc = ⟨.absent, .noFilm, 0, 0, s.pins.estopLow⟩ ∧
    t.rm = ⟨0, false, none⟩ ∧
    (∀ n : Fin 4, t.au[n] = ⟨none, 0, 0⟩) ∧
    t.dbi = ⟨12 + 2 * s1.toNat + s0.toNat, none, none, true⟩ ∧
    t.pins.resetLow = false ∧ t.pins.estopLow = s.pins.estopLow

/-- The state right after a hard reset, with both straps low and ESTOP_N released (the model's choice, log entry 1), is
what the release of RESET_N leaves of any state with an empty queue of commands, but for the model's own counters
(log entries 2, 3 and 16). It has every invariant stated below, has nothing pending and is not halted. -/
def Obligations.ResetStateHasInvariants : Prop :=
  (∀ s : State, s.pins.estopLow = false → s.pending = [] → exec (.hardResetEnd false false) s =
    .next { State.reset with
      fmc := { State.reset.fmc with epoch := s.fmc.epoch + 1 }
      pins := { State.reset.pins with lstep := s.pins.lstep }
      free := s.free }) ∧
  State.reset.memoryCanonical ∧ State.reset.positionsAgree ∧ State.reset.filmLoaded ∧ State.reset.drivesLimited ∧
  State.reset.queueBounded ∧ State.reset.useCountsAgree ∧ State.reset.tablesInRange ∧ State.reset.pinsInWindow ∧
  State.reset.facetInRange ∧ State.reset.channelsFollowScanner ∧ State.reset.exposureNeedsLock ∧
  State.reset.outputCounts ∧ State.reset.lineBegun ∧ State.reset.noStartDue ∧ State.reset.gateAtExpected ∧
  State.reset.pending = [] ∧ State.reset.gc.halted = false

/-- The assertion of RESET_N: while it lasts the drives, the motor enable and the attention lines are released, the
port and the bus serve nothing; no record is appended, nothing is raised, and frame memory stands. What the part keeps
until the level is released is read from the rules by inference (DEDUCED, log entry 17). -/
def Obligations.HardResetSilencesOutputs : Prop :=
  ∀ s : State, ∃ t : State, exec .hardReset s = .next t ∧
    t.pins = { s.pins with resetLow := true } ∧
    (∀ c, t.lcu.get c = { s.lcu.get c with sweep := ⟨none, []⟩ }) ∧
    t.motorEn = false ∧ (∀ n, t.attentionLow n = false) ∧ t.portServes = false ∧ t.receives = false ∧
    t.dbi.rx = none ∧ t.dbi.reply = none ∧ t.sr.channel.busy = none ∧ t.sr.staging = none ∧ t.sr.fetch = none ∧
    t.port = { s.port with waiting := none } ∧
    t.fmc = s.fmc ∧ t.rm = s.rm ∧ t.au = s.au ∧ t.fq = s.fq ∧ t.cs = s.cs ∧ t.stu = s.stu ∧ t.optics = s.optics ∧
    t.gc.magazine = s.gc.magazine ∧ t.gc.halted = s.gc.halted ∧ t.gc.expected = s.gc.expected ∧
    t.gc.advance = s.gc.advance ∧ t.gatePosition? = s.gatePosition?

/-- A message that arrives while a tenure is in progress, while RESET_N is asserted, or before the line has been idle
is not received, addressed or broadcast, and changes nothing; no more does a frame that would be discarded or ignored
(the model's choice, log entries 4 and 6). While RESET_N is asserted nothing but its release, and the level of
ESTOP_N, changes the part: no message is received, no access is served, no mark, pulse, timer or completion has an
effect (log entry 17). -/
def Obligations.NothingReachesAClosedPart : Prop :=
  (∀ (s : State), s.receives = false →
     (∀ (c : Instr) (a : Addr), c.sender? = some a → exec c s = .next s) ∧
     (∀ (a : Addr) (k : Byte), exec (.broadcastMessage a k) s = .next s) ∧
     (∀ f : FrameRx, exec (.frameDiscard f) s = .next s) ∧
     (∀ a b : Addr, exec (.frameIgnored a b) s = .next s)) ∧
  (∀ (c : Instr) (s : State), s.pins.resetLow = true → s.dbi.reply = none →
     c ≠ .hardReset → (∀ s1 s0, c ≠ .hardResetEnd s1 s0) → c ≠ .estopNAsserted → c ≠ .estopNDeasserted →
     exec c s = .next s)

/-- A message from a role that may not send its kind is refused with ROLE, before every other test; the reply goes to
its sender with the kind echoed and no data, and the rest of the part is unchanged. A message whose payload length
does not fit its kind is refused with ARG once its role has passed (a submission also once the list is known not to be
full), and the part is unchanged. READ_MAP, the one kind whose ARG refusal has data, carries the record count and map
state. Where a misfit CANCEL or FLUSH still names a submitter, a CALIBRATION sender that names another is refused with
ROLE first, and where a misfit QUERY_STRIPS still names a key, the tests of the key come first; that such a name may be
read from a misfit is the model's choice (log entry 27). A kind code outside Table 10-6 is refused with KIND, and no
block sees the message. -/
def Obligations.RefusedBeforeAnyEffect : Prop :=
  (∀ (c : Instr) (a : Addr) (k : Byte) (roles : List Role) (s : State),
     c.sender? = some a → c.kind? = some k → c.roles? = some roles → roleOf a ∉ roles → s.takes a = true →
     exec c s = .next (s.replying c a k .role .none)) ∧
  (∀ (c : Instr) (a : Addr) (k : Byte) (s : State),
     c.sender? = some a → c.kind? = some k → c.misfits = true → s.takes a = true →
     (∀ roles, c.roles? = some roles → roleOf a ∈ roles) →
     (c.isSubmission = true → s.fq.entries.length < Config.queueCapacity) →
     exec c s = .next (s.replying c a k .arg
       (match c with
         | .readMap _ _ => .bytes (beBytes 2 s.rm.count ++ beBytes 1 s.rm.live.toNat)
         | _ => .none))) ∧
  (∀ (a : Addr) (n : Nat) (s : State), s.takes a = true → roleOf a = .job ∨ roleOf a = .calibration →
     let status : Status := if roleOf a = .calibration ∧ n ≠ a.toNat then .role else .arg
     exec (.cancel a (.misfit (some n))) s =
       .next (s.replying (.cancel a (.misfit (some n))) a 0x13 status .none) ∧
     exec (.flush a (.misfit (some n))) s =
       .next (s.replying (.flush a (.misfit (some n))) a 0x14 status .none)) ∧
  (∀ (a : Addr) (n : Nat) (tag : Word32) (s : State), s.takes a = true →
     let c : Instr := .queryStrips a (.misfit (some (n, tag)))
     ((∀ e ∈ s.fq.entries, e.key ≠ ⟨n, tag⟩) → exec c s = .next (s.replying c a 0x19 .unknownId .none)) ∧
     (∀ e, findEntry s.fq.entries ⟨n, tag⟩ = some e →
       (e.stored?.bind StoredPart.stripMap = none → exec c s = .next (s.replying c a 0x19 .state .none)) ∧
       (e.stored?.bind StoredPart.stripMap ≠ none → exec c s = .next (s.replying c a 0x19 .arg .none)))) ∧
  (∀ (a : Addr) (k : Byte) (s : State), s.takes a = true → kindCodes.contains k = false →
     exec (.unknownKindMessage a k) s = .next (s.replying (.unknownKindMessage a k) a k .kind .none))

/-- A broadcast has no reply. One that is no E_STOP, or comes from an observer, changes nothing; an E_STOP of a master
halts the part (its payload is not judged, log entry 18). After it, as after a frame for another unit, the DBI takes
the next start mark when the line has been idle. The other events of the line: a frame that fails a check is discarded
and the DBI waits for the line to be idle; a collision ends the reply, the last stop bit the tenure, and the wait
begins; an idle line ends the wait. Nothing outside the deck bus interface changes. A frame ignored for whatever
address it names is the model's choice (log entry 4). -/
def Obligations.LineEventsAndBroadcasts : Prop :=
  (∀ (a : Addr) (k : Byte) (s : State), s.takes a = true → ∃ u : State,
     exec (.broadcastMessage a k) s = .next { u with dbi := { s.dbi with waitIdle := true } } ∧
     u.dbi = s.dbi ∧ u.dbi.reply = none ∧
     (k ≠ 0x01 ∨ roleOf a = .observer → u = s) ∧
     (k = 0x01 ∧ roleOf a ≠ .observer → s.haltedFrom u)) ∧
  ((∀ (f : FrameRx) (s : State), s.receives = true → (FrameRx.failure f).isSome = true →
     exec (.frameDiscard f) s = .next { s with dbi := { s.dbi with waitIdle := true } }) ∧
   (∀ (a b : Addr) (s : State), s.receives = true →
     exec (.frameIgnored a b) s = .next { s with dbi := { s.dbi with waitIdle := true } }) ∧
   (∀ s : State, s.dbi.reply.isSome = true →
     exec .replyCollision s = .next { s with dbi := { s.dbi with rx := none, reply := none, waitIdle := true } }) ∧
   (∀ s : State, s.dbi.reply.isSome = true →
     exec .replyEnd s = .next { s with dbi := { s.dbi with rx := none, reply := none, waitIdle := true } }) ∧
   (∀ s : State, s.pins.resetLow = false →
     exec .deckBusIdle s = .next { s with dbi := { s.dbi with waitIdle := false } }))

/-! ### Halting, resuming, resetting, aborting -/

/-- E_STOP from a master, addressed or broadcast, and the assertion of ESTOP_N halt the part when the halted flag is
clear: the exposure is aborted with E_STOP, the flag is set, the scanner stops, every channel goes OFF, HALT is
raised. When the flag is set they change nothing (beyond the reply, and the level of the pin). From an observer an
addressed E_STOP is refused with ROLE and a broadcast one ignored. The deassertion of ESTOP_N leaves the halted flag
set. RESUME is refused while ESTOP_N is asserted, changes nothing when the flag is clear, and otherwise clears the
flag and wakes a stopped scanner when the list holds a STORED or FLAT entry. -/
def Obligations.HaltAndResume : Prop :=
  ((∀ (a : Addr) (s : State), s.takes a = true → roleOf a ≠ .observer → ∃ u : State,
     exec (.eStop a (.fits ())) s = .next (u.replying (.eStop a (.fits ())) a 0x01 .ok .none) ∧ s.haltedFrom u) ∧
   (∀ (a : Addr) (s : State), s.takes a = true → roleOf a = .observer →
     exec (.eStop a (.fits ())) s = .next (s.replying (.eStop a (.fits ())) a 0x01 .role .none) ∧
     exec (.broadcastMessage a 0x01) s = .next { s with dbi := { s.dbi with waitIdle := true } }) ∧
   (∀ (a : Addr) (s : State), s.takes a = true → roleOf a ≠ .observer → ∃ u : State,
     exec (.broadcastMessage a 0x01) s = .next { u with dbi := { s.dbi with waitIdle := true } } ∧ s.haltedFrom u) ∧
   (∀ s : State, s.pins.resetLow = false → ∃ t : State,
     exec .estopNAsserted s = .next t ∧ State.haltedFrom { s with pins := { s.pins with estopLow := true } } t)) ∧
  ((∀ s : State, exec .estopNDeasserted s = .next { s with pins := { s.pins with estopLow := false } }) ∧
   (∀ (a : Addr) (s : State), s.takes a = true → roleOf a = .job →
     (s.pins.estopLow = true →
       exec (.resume a (.fits ())) s = .next (s.replying (.resume a (.fits ())) a 0x04 .state .none)) ∧
     (s.pins.estopLow = false → s.gc.halted = false →
       exec (.resume a (.fits ())) s = .next (s.replying (.resume a (.fits ())) a 0x04 .ok .none)) ∧
     (s.pins.estopLow = false → s.gc.halted = true → ∃ u : State,
       exec (.resume a (.fits ())) s = .next (u.replying (.resume a (.fits ())) a 0x04 .ok .none) ∧
       u.gc.halted = false ∧ u.gc.magazine = s.gc.magazine ∧
       u.stu.scanner = (if s.stu.scanner = .stopped ∧ s.hasImageEntry = true then .spinningUp else s.stu.scanner) ∧
       u.stu.settings = s.stu.settings ∧
       u.dbi = s.dbi ∧ u.optics = s.optics ∧ u.lcu = s.lcu ∧ u.pins = s.pins ∧
       (s.port.waiting = none → u.port = s.port) ∧
       (s.gateReady = false → s.exposure? = none →
         u.gc = { s.gc with halted := false } ∧ u.rm = s.rm ∧ u.port = s.port))))

/-- RECORDER_RESET: the exposure is aborted with RESET and its record appended, the queue is flushed without
write-back, the held-reason set, the pins, the strip reader and the latched events are cleared; the rejection record,
the serial counter, every set, the settings, the magazine, the halted flag, the map, the owners and the masks stay. -/
def Obligations.RecorderResetEmptiesTheWork : Prop :=
  ∀ (a : Addr) (s : State), s.takes a = true → roleOf a = .job → ∃ u : State,
    exec (.recorderReset a (.fits ())) s = .next (u.replying (.recorderReset a (.fits ())) a 0x02 .ok
      (.recorderReset (s.exposure?.map fun x => (x.ctx.serial, s.rm.count)) s.fq.entries.length)) ∧
    u.fq = ⟨[], ⟨false, false, false, false⟩, s.fq.rejection, s.fq.serial⟩ ∧
    u.sr = ⟨none, none, [], 0, ⟨none, false, false, false⟩⟩ ∧
    u.fmc.pinA = none ∧ u.fmc.pinB = none ∧ u.fmc.lastDrop = s.fmc.lastDrop ∧
    u.exposure? = none ∧ u.gc.magazine = s.gc.magazine ∧ u.gc.halted = s.gc.halted ∧
    (∀ id : Fin 8, u.cs[id].state = s.cs[id].state) ∧
    (s.useCountsAgree → ∀ id : Fin 8, u.cs[id].useCount = 0) ∧
    (∀ n : Fin 4, u.au[n] = { s.au[n] with latched := 0 }) ∧
    u.stu = { s.stu with idle := u.stu.idle } ∧
    (∀ c, u.lcu.get c = { s.lcu.get c with sweep := (u.lcu.get c).sweep }) ∧
    u.optics = s.optics ∧ u.dbi = s.dbi ∧ u.port = s.port ∧ u.pins = s.pins ∧
    u.rm.live = s.rm.live ∧ u.rm.roll = s.rm.roll ∧
    (s.exposure? = none → u.rm.count = s.rm.count ∧ u.fmc.mem = s.fmc.mem ∧ u.gc = s.gc ∧ u.lcu = s.lcu) ∧
    (∀ x, s.exposure? = some x → u.rm.count = s.rm.count + 1 ∧ u.gc.expected = s.gc.expected + 1 ∧
      u.gc.gate = (if s.lastFrame then .filmOut else .advancing) ∧ u.gc.advance = 1 ∧
      (∀ c, (u.lcu.get c).sweep = ⟨none, []⟩) ∧
      (s.memoryCanonical → s.rm.count < Config.maxRecords →
        u.slotHolds s.rm.count (exposureRecord x.ctx x.clips .spoiled .reset)) ∧
      (∀ b, b < slotOffset s.rm.count ∨ slotOffset (s.rm.count + 1) ≤ b → u.readByte b = s.readByte b))

/-- ABORT_FRAME ends the frame on the film with reason ABORTED, and the reply names the entry's serial and the
record's position; without an exposure it is refused with STATE. From any other role it is refused with ROLE.
GATE_FAULT is refused with STATE in NO_FILM, changes nothing in FAULT, aborts an exposure with GATE_FAULT, and
otherwise puts the gate in FAULT with the advance order kept; in the last two cases GATE is raised. From any other
role it is refused with ROLE. -/
def Obligations.AbortFrameAndGateFault : Prop :=
  (∀ (a : Addr) (s : State), s.takes a = true →
     (roleOf a ≠ .job → exec (.abortFrame a (.fits ())) s = .next (s.replying (.abortFrame a (.fits ())) a 0x34 .role .none)) ∧
     (roleOf a = .job →
      (s.exposure? = none →
        exec (.abortFrame a (.fits ())) s = .next (s.replying (.abortFrame a (.fits ())) a 0x34 .state .none)) ∧
      (∀ x, s.exposure? = some x → ∃ u : State,
        exec (.abortFrame a (.fits ())) s = .next (u.replying (.abortFrame a (.fits ())) a 0x34 .ok
          (.aborted x.ctx.serial x.ctx.position)) ∧
        s.abortLeaves x .aborted u ∧ s.abortKeeps u ∧ u.gc.magazine = s.gc.magazine ∧ u.rm.live = s.rm.live ∧
        s.raisedOnly u (s.abortRaises .aborted)))) ∧
  (∀ (a : Addr) (s : State), s.takes a = true →
     (roleOf a ≠ .transport → exec (.gateFault a (.fits ())) s = .next (s.replying (.gateFault a (.fits ())) a 0x33 .role .none)) ∧
     (roleOf a = .transport →
      (s.gc.gate = .noFilm →
        exec (.gateFault a (.fits ())) s = .next (s.replying (.gateFault a (.fits ())) a 0x33 .state .none)) ∧
      (s.gc.gate = .fault →
        exec (.gateFault a (.fits ())) s = .next (s.replying (.gateFault a (.fits ())) a 0x33 .ok .none)) ∧
      (∀ x, s.gc.gate = .exposing x → ∃ u : State,
        exec (.gateFault a (.fits ())) s = .next (u.replying (.gateFault a (.fits ())) a 0x33 .ok .none) ∧
        s.abortLeaves x .gateFault u ∧ s.abortKeeps u ∧ u.gc.magazine = s.gc.magazine ∧ u.rm.live = s.rm.live ∧
        s.raisedOnly u (s.abortRaises .gateFault ++ [.gate])) ∧
      (s.gc.gate = .advancing ∨ s.gateReady = true ∨ s.gc.gate = .filmOut → ∃ u : State,
        exec (.gateFault a (.fits ())) s = .next (u.replying (.gateFault a (.fits ())) a 0x33 .ok .none) ∧
        u = { s with gc := { s.gc with gate := .fault }, au := u.au } ∧ s.raisedOnly u [.gate])))

/-- MAG_LOAD with no magazine present stores the tag with its capacity clamped at 32768. A recognized tag empties the
map, makes it LIVE with the tag's roll identity, and puts the gate in ADVANCING at position 0; any other tag makes the
magazine UNRECOGNIZED and changes nothing else. MAGAZINE is raised. With a magazine present it is refused with STATE.
MAG_UNLOAD: with no magazine nothing changes; an UNRECOGNIZED one is forgotten; a LOADED one is taken from the gate
after any exposure is aborted with MAG_REMOVED, its map is frozen with its records and count kept, the gate is NO_FILM
and the advance order 0; in the last two cases MAGAZINE is raised. From any other role it is refused with ROLE. -/
def Obligations.MagazineLoadsAndUnloads : Prop :=
  (∀ (a : Addr) (p : List Byte) (g : TagArgs) (s : State), s.takes a = true → roleOf a = .transport →
     parseTag p = some g →
     (s.gc.magazine ≠ .absent → exec (.magLoad a p) s = .next (s.replying (.magLoad a p) a 0x30 .state .none)) ∧
     (s.gc.magazine = .absent →
       let tag : MagazineTag := ⟨g.stock, g.batch, min g.capacity 32768, g.perforation⟩
       let known : Bool := decide (g.stock ≠ 0 ∧ g.stock ≠ 65535 ∧ g.capacity ≠ 0 ∧
         (g.perforation = 2 ∨ g.perforation = 3 ∨ g.perforation = 4))
       ∃ u : State, exec (.magLoad a p) s = .next (u.replying (.magLoad a p) a 0x30 .ok
           (.bytes (beBytes 1 (if known then 1 else 2) ++ beBytes 2 (min g.capacity 32768) ++
             beBytes 1 (if 32768 < g.capacity then 1 else 0)))) ∧
         s.raisedOnly u [.magazine] ∧
         (known = true → u = { s with
           gc := { s.gc with magazine := .loaded tag, gate := .advancing, expected := 0, advance := 0 }
           rm := ⟨0, true, some ⟨g.stock, g.batch, min g.capacity 32768⟩⟩, au := u.au }) ∧
         (known = false → u = { s with gc := { s.gc with magazine := .unrecognized tag }, au := u.au }))) ∧
  (∀ (a : Addr) (s : State), s.takes a = true →
     (roleOf a ≠ .transport → exec (.magUnload a (.fits ())) s = .next (s.replying (.magUnload a (.fits ())) a 0x31 .role .none)) ∧
     (roleOf a = .transport →
      (s.gc.magazine = .absent →
        exec (.magUnload a (.fits ())) s = .next (s.replying (.magUnload a (.fits ())) a 0x31 .ok .none)) ∧
      (∀ g, s.gc.magazine = .unrecognized g → ∃ u : State,
        exec (.magUnload a (.fits ())) s = .next (u.replying (.magUnload a (.fits ())) a 0x31 .ok .none) ∧
        u = { s with gc := { s.gc with magazine := .absent }, au := u.au } ∧ s.raisedOnly u [.magazine]) ∧
      (∀ g, s.gc.magazine = .loaded g → s.exposure? = none → ∃ u : State,
        exec (.magUnload a (.fits ())) s = .next (u.replying (.magUnload a (.fits ())) a 0x31 .ok .none) ∧
        u = { s with gc := { s.gc with magazine := .absent, gate := .noFilm, advance := 0 },
                     rm := { s.rm with live := false }, au := u.au } ∧ s.raisedOnly u [.magazine]) ∧
      (∀ g x, s.gc.magazine = .loaded g → s.exposure? = some x → ∃ u : State,
        exec (.magUnload a (.fits ())) s = .next (u.replying (.magUnload a (.fits ())) a 0x31 .ok .none) ∧
        s.abortLeaves x .magRemoved u ∧ s.abortKeeps u ∧ u.gc.magazine = .absent ∧ u.rm.live = false ∧
        s.raisedOnly u (s.abortRaises .magRemoved ++ [.magazine]))))

/-! ### Queries -/

/-- A query that is received is answered and changes nothing: only the deck bus interface holds the reply. The model's
own free-value counter moves on at an answered QUERY_SCANNER (log entry 3). -/
def Obligations.QueriesChangeNothing : Prop :=
  ∀ (c : Instr) (a : Addr) (k : Byte) (s : State), c.sender? = some a → c.kind? = some k → c.isQuery = true →
    s.takes a = true → ∃ (status : Status) (data : ReplyData) (n : Nat),
      exec c s = .next (State.replying { s with free := n } c a k status data) ∧
      (n = s.free ∨ ∃ p, c = .queryScanner a p ∧ n = s.free + 1)

/-- The queries with an empty payload answer OK with what their blocks hold: the queue's summary, the drop record and
the pin records, the strip reader's contexts, the production state, the three channels with the power gain of a READY
one, the scanner. A last period, last sample or gain that is absent reads as all ones. The seconds left on a running
timer are a free value no more than its full period, and the model's counter of free values moves on (log entry 3);
the descriptor position of a write-back has already moved on from the descriptor marked last (log entry 10), and the
bytes of a read count from its completion (log entry 30). That QUERY_QUEUE gives the state of a REJECTED entry with its
reason is the model's choice (log entry 7), and so is the one reply of QUERY_LASER for all three channels (log entry
32). -/
def Obligations.StateQueriesAnswer : Prop :=
  ∀ (a : Addr) (s : State), s.takes a = true →
    exec (.queryQueue a (.fits ())) s = .next (s.replying (.queryQueue a (.fits ())) a 0x17 .ok
      (.queue ⟨s.fq.entries.length, s.fq.entries.countP Entry.leaving, s.fq.held, s.fq.serial,
        s.fq.entries[0]?.map (fun e => (e.serial, e.state, e.leaving)),
        s.fq.entries[1]?.map (fun e => (e.serial, e.state, e.leaving)), s.fq.rejection⟩)) ∧
    exec (.queryMemory a (.fits ())) s = .next (s.replying (.queryMemory a (.fits ())) a 0x1A .ok
      (.memory s.fmc.lastDrop (s.fmc.pinA.map fun p => ⟨p.serial, p.table, p.strips.length⟩)
        (s.fmc.pinB.map fun p => ⟨p.serial, p.table, p.strips.length⟩))) ∧
    (∃ r, exec (.queryReader a (.fits ())) s = .next (s.replying (.queryReader a (.fits ())) a 0x1B .ok (.reader r)) ∧
      r.staging = s.sr.staging.map (fun g => ⟨g.serial, g.k, g.strips.length, g.total, g.bytes, g.sum, g.odd.isSome⟩) ∧
      r.fetch = s.sr.fetch.map (fun f => (f.serial, f.y, f.bytesRead)) ∧ r.writeBacks = s.sr.wbList.length ∧
      r.front = (s.sr.wbList.head?.bind (findEntry s.fq.entries)).map (fun e => (e.serial, s.sr.wbPos))) ∧
    exec (.queryPipeline a (.fits ())) s = .next (s.replying (.queryPipeline a (.fits ())) a 0x29 .ok
      (.pipeline (s.exposure?.map fun x =>
        ⟨x.ctx.serial, x.nextLine, x.entered, x.line.map (fun l => (l.y, l.phase.report)), x.clips⟩))) ∧
    (∃ r, exec (.queryLaser a (.fits ())) s = .next (s.replying (.queryLaser a (.fits ())) a 0x0A .ok (.lasers r)) ∧
      ∀ c, (r.get c).state = (s.lcu.get c).state ∧ (r.get c).drift = (s.lcu.get c).drift ∧
        (r.get c).average = (s.lcu.get c).average ∧
        (r.get c).lastSample = (match (s.lcu.get c).lastSample with
          | some m => BitVec.ofNat 16 m
          | none => 0xFFFF) ∧
        (r.get c).samples = (s.lcu.get c).samples ∧ (r.get c).band = (s.lcu.get c).band ∧
        (r.get c).settings = (s.lcu.get c).settings ∧
        ((s.lcu.get c).state ≠ .ready → (r.get c).gain = 0xFFFF) ∧
        ((s.lcu.get c).state = .ready → (r.get c).gain = BitVec.ofNat 16 (
          let average := (s.lcu.get c).average
          if average = 0 then 32767
          else max 8192 (min 32767 ((262144 * (s.lcu.get c).settings.target + average / 2) / average))))) ∧
    (∃ r, exec (.queryScanner a (.fits ())) s =
        .next (State.replying { s with free := s.free + 1 } (.queryScanner a (.fits ())) a 0x09 .ok (.scanner r)) ∧
      r.scanner = s.stu.scanner ∧ r.motorEn = s.motorEn ∧ r.facet = s.stu.facet ∧ r.acq = s.stu.acq ∧
      r.badRun = s.stu.badRun ∧ r.settings = s.stu.settings ∧
      r.lastPeriod = (match s.stu.lastPeriod with
        | some p => BitVec.ofNat 32 p
        | none => 0xFFFFFFFF) ∧
      (r.missing = true ↔ s.stu.missing ≠ .stopped) ∧
      (∀ full, s.stu.spinUp = .running full → ∃ n ≤ full, r.spinUp = some n) ∧
      (s.stu.spinUp = .stopped → r.spinUp = none) ∧
      (∀ full, s.stu.idle = .running full → ∃ n ≤ full, r.idle = some n) ∧
      (s.stu.idle = .stopped → r.idle = none) ∧
      r.output = s.exposure?.map (fun x => ⟨x.out, x.nextOut, x.fifo.map LineRecord.y, x.steps⟩))

/-- QUERY_ENTRY names an entry by position (beyond the list: ARG) or by key (not in the list: UNKNOWN_ID) and carries
its position and the whole entry but the strip map, of which it gives the number of items. QUERY_STRIPS tests the key, the
presence of a strip map and the index, in that order, and carries up to three items from the index with the total
number. -/
def Obligations.EntryQueriesAnswer : Prop :=
  (∀ (a : Addr) (s : State), s.takes a = true →
     (∀ p, s.fq.entries.length ≤ p → exec (.queryEntry a (.fits (.position p))) s =
       .next (s.replying (.queryEntry a (.fits (.position p))) a 0x18 .arg .none)) ∧
     (∀ n tag, (∀ e ∈ s.fq.entries, e.key ≠ ⟨n, tag⟩) → exec (.queryEntry a (.fits (.key n tag))) s =
       .next (s.replying (.queryEntry a (.fits (.key n tag))) a 0x18 .unknownId .none)) ∧
     (∀ p e, s.fq.entries[p]? = some e → ∃ e' items, exec (.queryEntry a (.fits (.position p))) s =
         .next (s.replying (.queryEntry a (.fits (.position p))) a 0x18 .ok (.entry p e' items)) ∧
       e' = { e with body := (match e.body with
         | .stored i q => .stored i { q with stripMap := none }
         | .flat i values => .flat i values
         | .runout n => .runout n) } ∧
       items = (match e.body with
         | .stored _ q => q.stripMap.map List.length
         | .flat _ _ => none
         | .runout _ => none)) ∧
     (∀ p e, s.queueBounded → s.fq.entries[p]? = some e → ∃ e' items,
       exec (.queryEntry a (.fits (.position p))) s =
         .next (s.replying (.queryEntry a (.fits (.position p))) a 0x18 .ok (.entry p e' items)) ∧
       exec (.queryEntry a (.fits (.key e.key.submitter e.key.tag))) s =
         .next (s.replying (.queryEntry a (.fits (.key e.key.submitter e.key.tag))) a 0x18 .ok (.entry p e' items)))) ∧
  (∀ (a : Addr) (q : StripsArgs) (s : State), s.takes a = true →
     ((∀ e ∈ s.fq.entries, e.key ≠ ⟨q.submitter, q.tag⟩) → exec (.queryStrips a (.fits q)) s =
       .next (s.replying (.queryStrips a (.fits q)) a 0x19 .unknownId .none)) ∧
     (∀ e, findEntry s.fq.entries ⟨q.submitter, q.tag⟩ = some e →
       (e.stored?.bind StoredPart.stripMap = none → exec (.queryStrips a (.fits q)) s =
         .next (s.replying (.queryStrips a (.fits q)) a 0x19 .state .none)) ∧
       (∀ items, e.stored?.bind StoredPart.stripMap = some items →
         (items.length ≤ q.first → exec (.queryStrips a (.fits q)) s =
           .next (s.replying (.queryStrips a (.fits q)) a 0x19 .arg .none)) ∧
         (q.first < items.length → exec (.queryStrips a (.fits q)) s =
           .next (s.replying (.queryStrips a (.fits q)) a 0x19 .ok
             (.strips ((items.drop q.first).take 3) items.length))))))

/-- QUERY_STATUS: an empty payload or 0 asks for page 0, 1 for page 1, anything else is refused with ARG. Page 0 has
23 bytes laid out as Table 12-2; page 1 has 44 bytes, those of Table 12-3 in order, high byte first, and all 0 after the
first byte when no exposure exists. -/
def Obligations.QueryStatusPages : Prop :=
  ∀ (a : Addr) (s : State), s.takes a = true →
    (∀ p, 1 < p.length → exec (.queryStatus a p) s = .next (s.replying (.queryStatus a p) a 0x03 .arg .none)) ∧
    (∀ b, b ≠ 0 → b ≠ 1 →
      exec (.queryStatus a [b]) s = .next (s.replying (.queryStatus a [b]) a 0x03 .arg .none)) ∧
    (∀ p, p = [] ∨ p = [0x00] → ∃ d, exec (.queryStatus a p) s = .next (s.replying (.queryStatus a p) a 0x03 .ok (.bytes d)) ∧
      d.length = 23 ∧ byteField d 0 = 0x00 ∧ byteField d 1 = BitVec.ofNat 8 s.gc.magazine.code ∧
      (d.drop 2).take 9 = tagBytes s.gc.magazine.tag? ∧ byteField d 11 = BitVec.ofNat 8 s.gc.gate.code ∧
      (d.drop 12).take 2 = beBytes 2 (s.gatePosition?.getD 0xFFFF) ∧ (d.drop 14).take 2 = beBytes 2 s.gc.expected ∧
      (d.drop 16).take 2 = beBytes 2 s.gc.advance ∧ (d.drop 18).take 2 = beBytes 2 s.rm.count ∧
      (d.drop 20).take 2 = beBytes 2 (s.filmRemaining?.getD 0xFFFF) ∧
      (byteField d 22).getLsbD 7 = s.gc.halted ∧ (byteField d 22).getLsbD 6 = s.pins.estopLow ∧
      (byteField d 22).getLsbD 5 = s.gateReady ∧ (byteField d 22).getLsbD 4 = !s.gc.halted ∧
      (byteField d 22).getLsbD 3 = !s.fq.held.any ∧ (byteField d 22).getLsbD 2 = s.headIsFrame ∧
      (byteField d 22).getLsbD 1 = s.isLocked ∧ (byteField d 22).getLsbD 0 = s.lasersReady) ∧
    (∃ d, exec (.queryStatus a [0x01]) s = .next (s.replying (.queryStatus a [0x01]) a 0x03 .ok (.bytes d)) ∧
      d.length = 44 ∧ byteField d 0 = 0x01 ∧ (s.exposure? = none → d.drop 1 = List.replicate 43 0) ∧
      ∀ x, s.exposure? = some x →
        let word : Int → List Byte := fun n => beBytes 2 (BitVec.ofInt 16 n).toNat
        d = ([0x01, 0x01] : List Byte) ++ beBytes 2 x.ctx.serial.toNat ++
          [BitVec.ofNat 8 x.ctx.key.submitter, (match x.ctx.kind with
            | .stored => 1
            | .flat => 2), BitVec.ofNat 8 x.ctx.set, BitVec.ofNat 8 x.ctx.ordinal] ++
          beBytes 4 x.ctx.key.tag.toNat ++ beBytes 2 x.ctx.position ++ beBytes 2 x.ctx.checksum.toNat ++
          word x.ctx.trims.r ++ word x.ctx.trims.g ++ word x.ctx.trims.b ++
          word x.ctx.lights.r ++ word x.ctx.lights.g ++ word x.ctx.lights.b ++
          beBytes 2 x.ctx.gains.r ++ beBytes 2 x.ctx.gains.g ++ beBytes 2 x.ctx.gains.b ++
          beBytes 2 x.ctx.limits.r ++ beBytes 2 x.ctx.limits.g ++ beBytes 2 x.ctx.limits.b ++
          beBytes 2 x.ctx.linesExposed ++ beBytes 2 x.ctx.linesBlanked) ∧
    (∀ n, beBytes 1 n = [BitVec.ofNat 8 n] ∧ beBytes 2 n = [BitVec.ofNat 8 (n / 256), BitVec.ofNat 8 n] ∧
      beBytes 4 n = [BitVec.ofNat 8 (n / 16777216), BitVec.ofNat 8 (n / 65536), BitVec.ofNat 8 (n / 256),
        BitVec.ofNat 8 n])

/-- READ_TABLE, QUERY_SET and READ_OPTICS carry the stored nodes, the set's record and the stored entries asked for; a
READ_TABLE of a FREE set is refused with STATE, and arguments out of range, an unknown table and an unknown part with
ARG. That the reply to READ_OPTICS echoes the part and the first index is the model's choice (log entry 7). -/
def Obligations.TableQueriesAnswer : Prop :=
  ∀ (a : Addr) (s : State), s.takes a = true →
    (∀ (id start count : Nat) (t : TableName), id ≤ 7 → 1 ≤ count → count ≤ 22 → start + count ≤ nodeCount t →
      let c : Instr := .readTable a (.fits ⟨id, .named t, start, count⟩)
      ((s.setAt id).state = .free → exec c s = .next (s.replying c a 0x25 .state .none)) ∧
      (∀ v, (s.setAt id).content? = some v → exec c s = .next (s.replying c a 0x25 .ok
        (.nodes t start count (((v.table t).drop start).take count))))) ∧
    (∀ (id start count : Nat) (t : TableName), 7 < id ∨ count = 0 ∨ 22 < count ∨ nodeCount t < start + count →
      let c : Instr := .readTable a (.fits ⟨id, .named t, start, count⟩)
      exec c s = .next (s.replying c a 0x25 .arg .none)) ∧
    (∀ id start count : Nat, let c : Instr := .readTable a (.fits ⟨id, .unknown, start, count⟩)
      exec c s = .next (s.replying c a 0x25 .arg .none)) ∧
    (∀ first : Nat, let c : Instr := .readOptics a (.fits ⟨.unknown, first⟩)
      exec c s = .next (s.replying c a 0x28 .arg .none)) ∧
    (∀ id, 7 < id → exec (.querySet a (.fits id)) s = .next (s.replying (.querySet a (.fits id)) a 0x26 .arg .none)) ∧
    (∀ id, id ≤ 7 → exec (.querySet a (.fits id)) s = .next (s.replying (.querySet a (.fits id)) a 0x26 .ok
      (.set (s.setAt id).state.summary (s.setAt id).useCount))) ∧
    (∀ part first, let c : Instr := .readOptics a (.fits ⟨.named part, first⟩)
      (partSize part ≤ first → exec c s = .next (s.replying c a 0x28 .arg .none)) ∧
      (first < partSize part → exec c s = .next (s.replying c a 0x28 .ok
        (.optics part first (((s.optics.part part).drop first).take 16) s.stu.settings.facetCount))))

/-- READ_MAP of an index below the record count carries the record's 32 bytes, the record count, the map state and the
roll identity, LIVE or FROZEN; an index at or above it is refused with ARG, with the count and the map state. A record's 32 bytes are
those of Table 12-6. -/
def Obligations.ReadMapAnswers : Prop :=
  ∀ (a : Addr) (i : Nat) (s : State), s.takes a = true →
    (s.rm.count ≤ i → exec (.readMap a (.fits i)) s = .next (s.replying (.readMap a (.fits i)) a 0x35 .arg
      (.bytes (beBytes 2 s.rm.count ++ beBytes 1 s.rm.live.toNat)))) ∧
    (i < s.rm.count → ∃ d, exec (.readMap a (.fits i)) s =
        .next (s.replying (.readMap a (.fits i)) a 0x35 .ok (.bytes d)) ∧
      d.length = 43 ∧ (∀ n < 32, d.getD n 0 = s.readByte (0xFFF00000 + 32 * i + n)) ∧
      d.drop 32 = beBytes 2 s.rm.count ++ beBytes 1 s.rm.live.toNat ++
        (match s.rm.roll with
          | some r => beBytes 2 r.stock.toNat ++ beBytes 4 r.batch.toNat ++ beBytes 2 r.capacity
          | none => List.replicate 8 0)) ∧
    (∀ r : MapRecord, r.bytes = beBytes 2 r.position ++
      [(match r.outcome with
        | .exposed => 0
        | .spoiled => 1
        | .blank => 2
        | .unknown => 3),
       (match r.reason with
        | .none => 0
        | .underrun => 1
        | .lockLost => 2
        | .laserFault => 3
        | .gateFault => 4
        | .magRemoved => 5
        | .eStop => 6
        | .reset => 7
        | .aborted => 8),
       BitVec.ofNat 8 r.kind, BitVec.ofNat 8 r.submitter, BitVec.ofNat 8 r.set, BitVec.ofNat 8 r.ordinal] ++
      beBytes 4 r.tag.toNat ++ beBytes 2 r.serial.toNat ++ beBytes 2 r.checksum.toNat ++ beBytes 2 r.linesExposed ++
      beBytes 2 r.linesBlanked ++ beBytes 2 r.clips.r ++ beBytes 2 r.clips.g ++ beBytes 2 r.clips.b ++
      List.replicate 6 0)

/-! ### Attention lines -/

/-- BIND_ATTN(n): a line number outside 0..3 is refused with ARG, a line owned by another address with STATE;
otherwise the sender owns the line, its latched set and mask are empty, and it is released. UNBIND(n) releases the
line's ownership and keeps its sets; a line owned by another address refuses it with ROLE, and a line number outside
0..3 is ARG. READ_EVENTS(n) answers with the line's owner, latched set, mask and level. -/
def Obligations.LinesAreBoundAndRead : Prop :=
  (∀ (a : Addr) (b : Byte) (s : State), s.takes a = true →
     (4 ≤ b.toNat → exec (.bindAttn a [b]) s = .next (s.replying (.bindAttn a [b]) a 0x40 .arg .none)) ∧
     (∀ n : Fin 4, b.toNat = n.val →
       ((∃ o, s.au[n].owner = some o ∧ o ≠ a.toNat) →
         exec (.bindAttn a [b]) s = .next (s.replying (.bindAttn a [b]) a 0x40 .state .none)) ∧
       (s.au[n].owner = none ∨ s.au[n].owner = some a.toNat →
         exec (.bindAttn a [b]) s = .next (State.replying { s with au := s.au.set n ⟨some a.toNat, 0, 0⟩ }
           (.bindAttn a [b]) a 0x40 .ok (.line n)) ∧
         (∀ t : State, exec (.bindAttn a [b]) s = .next t → t.attentionLow n = false)))) ∧
  (∀ (a : Addr) (b : Byte) (s : State), s.takes a = true →
     (4 ≤ b.toNat → exec (.unbind a [b]) s = .next (s.replying (.unbind a [b]) a 0x41 .arg .none) ∧
       exec (.readEvents a [b]) s = .next (s.replying (.readEvents a [b]) a 0x45 .arg .none)) ∧
     (∀ n : Fin 4, b.toNat = n.val →
       ((∃ o, s.au[n].owner = some o ∧ o ≠ a.toNat) →
         exec (.unbind a [b]) s = .next (s.replying (.unbind a [b]) a 0x41 .role .none)) ∧
       (s.au[n].owner = none ∨ s.au[n].owner = some a.toNat →
         exec (.unbind a [b]) s = .next (State.replying { s with au := s.au.set n { s.au[n] with owner := none } }
           (.unbind a [b]) a 0x41 .ok .none)) ∧
       exec (.readEvents a [b]) s = .next (s.replying (.readEvents a [b]) a 0x45 .ok
         (.bytes (beBytes 1 (s.au[n].owner.getD 0) ++ beBytes 2 s.au[n].latched.toNat ++ beBytes 2 s.au[n].mask.toNat ++
           [if s.au[n].latched &&& s.au[n].mask = 0 then 0 else 1])))))

/-- SET_MASK, ACK_EVENTS and FORCE_EVENT test the line number (ARG), then the ownership (ROLE). Taken, they replace
the mask, remove the named events from the latched set, or add them to it, on that line alone; the other lines and
every block are untouched. -/
def Obligations.OwnerMessagesActOnOneLine : Prop :=
  ∀ (a : Addr) (b hi lo : Byte) (s : State), s.takes a = true →
    let p := [b, hi, lo]
    (∀ q : List Byte, q.length ≠ 3 →
      exec (.setMask a q) s = .next (s.replying (.setMask a q) a 0x42 .arg .none) ∧
      exec (.ackEvents a q) s = .next (s.replying (.ackEvents a q) a 0x43 .arg .none) ∧
      exec (.forceEvent a q) s = .next (s.replying (.forceEvent a q) a 0x44 .arg .none)) ∧
    (4 ≤ b.toNat →
      exec (.setMask a p) s = .next (s.replying (.setMask a p) a 0x42 .arg .none) ∧
      exec (.ackEvents a p) s = .next (s.replying (.ackEvents a p) a 0x43 .arg .none) ∧
      exec (.forceEvent a p) s = .next (s.replying (.forceEvent a p) a 0x44 .arg .none)) ∧
    (∀ n : Fin 4, b.toNat = n.val → s.au[n].owner ≠ some a.toNat →
      exec (.setMask a p) s = .next (s.replying (.setMask a p) a 0x42 .role .none) ∧
      exec (.ackEvents a p) s = .next (s.replying (.ackEvents a p) a 0x43 .role .none) ∧
      exec (.forceEvent a p) s = .next (s.replying (.forceEvent a p) a 0x44 .role .none)) ∧
    (∀ n : Fin 4, b.toNat = n.val → s.au[n].owner = some a.toNat →
      let events : Word16 := hi ++ lo
      exec (.setMask a p) s = .next (State.replying { s with au := s.au.set n { s.au[n] with mask := events } }
        (.setMask a p) a 0x42 .ok (.mask events s.au[n].latched)) ∧
      exec (.ackEvents a p) s = .next
        (State.replying { s with au := s.au.set n { s.au[n] with latched := s.au[n].latched &&& ~~~events } }
          (.ackEvents a p) a 0x43 .ok (.latched (s.au[n].latched &&& ~~~events))) ∧
      exec (.forceEvent a p) s = .next
        (State.replying { s with au := s.au.set n { s.au[n] with latched := s.au[n].latched ||| events } }
          (.forceEvent a p) a 0x44 .ok (.latched (s.au[n].latched ||| events))))

/-! ### The frame data port -/

/-- A write at the port is applied whole or dropped whole: it is dropped when any of its bytes is pinned or lies in
the reel-map region or beyond the window (log entry 21). Dropped, it changes no byte, the last-dropped-write record is
overwritten and PINNED_WRITE raised; applied, exactly its bytes take the values written. A read at the port returns the
bytes as they stand when it is served, pinned or not, wherever they lie, and changes nothing else. It is served as it
arrives, unless it falls together with an append of several records: then it waits for so many of them to be written,
and a read that waited before it has been served (R176; how the model carries it is log entry 28). The port serves once
RESET_N is released and its link is up, and an unserved access has no effect. -/
def Obligations.PortServesItsHost : Prop :=
  (∀ (offset : Word32) (bytes : List Byte) (s : State), s.portServes = true → s.memoryCanonical →
     let inside := fun b : Nat => offset.toNat ≤ b ∧ b < offset.toNat + bytes.length
     ((∃ b, inside b ∧ (s.pinned b ∨ 0xFFF00000 ≤ b)) → ∃ (t : State) (region : DropRegion),
       exec (.portWrite offset bytes) s = .next t ∧
       t = { s with fmc := { s.fmc with lastDrop := some ⟨offset.toNat, bytes.length, region⟩ }, au := t.au } ∧
       s.raisedOnly t [.pinnedWrite] ∧
       ((∀ b, inside b → ¬ s.pinned b) → region = .map) ∧
       (∀ serial, region = .pinned serial → ∃ p, s.holdsPin p ∧ p.serial = serial ∧ ∃ b, inside b ∧ p.covers b ∧
         ∀ b', inside b' → b' < b → ¬ s.pinned b') ∧
       (region = .map → ∀ b, inside b → ¬ s.pinned b)) ∧
     ((∀ b, inside b → ¬ s.pinned b ∧ b < 0xFFF00000) → ∃ t : State,
       exec (.portWrite offset bytes) s = .next t ∧
       t = { s with fmc := { s.fmc with mem := t.fmc.mem } } ∧ t.memoryCanonical ∧
       (∀ i < bytes.length, t.readByte (offset.toNat + i) = bytes.getD i 0) ∧
       (∀ b, ¬ inside b → t.readByte b = s.readByte b))) ∧
  ((∀ (offset : Word32) (n : Nat) (s : State), s.portServes = true → ∃ bytes,
     exec (.portRead offset ⟨n, 0⟩) s =
       .next { s with port := { s.port with lastRead := some ⟨offset.toNat, bytes⟩, waiting := none } } ∧
     bytes.length = n ∧ ∀ i < n, bytes.getD i 0 = s.readByte (offset.toNat + i)) ∧
   (∀ (offset : Word32) (n k : Nat) (s : State), s.portServes = true →
     (s.port.waiting = none → exec (.portRead offset ⟨n, k + 1⟩) s =
       .next { s with port := { s.port with waiting := some ⟨offset.toNat, n, k + 1⟩ } }) ∧
     (∀ r, s.port.waiting = some r → ∃ bytes, exec (.portRead offset ⟨n, k + 1⟩) s =
         .next { s with port := { s.port with
           lastRead := some ⟨r.offset, bytes⟩, waiting := some ⟨offset.toNat, n, k + 1⟩ } } ∧
       bytes.length = r.length ∧ ∀ i < r.length, bytes.getD i 0 = s.readByte (r.offset + i))) ∧
   (∀ (offset : Word32) (n k : Nat) (bytes : List Byte) (s : State), s.portServes = false →
     exec (.portRead offset ⟨n, k⟩) s = .next s ∧ exec (.portWrite offset bytes) s = .next s) ∧
   (∀ s : State, s.pins.resetLow = false →
     exec .pcieLinkUp s = .next { s with port := { s.port with linkUp := true } } ∧
     ∀ t : State, exec .pcieLinkUp s = .next t → t.portServes = true))

/-! ### The scanner and the laser channels -/

/-- WAKE from a role other than OBSERVER: a stopped scanner is woken unless the part is halted (STATE); in SPINNING_UP
and ACQUIRING nothing changes; in LOCKED a running idle timer restarts from the full idle timeout; in FAULT it is
refused with STATE. A taken WAKE carries the scanner state after it and raises no event. From an observer it is
refused with ROLE. -/
def Obligations.WakeByScannerState : Prop :=
  ∀ (a : Addr) (s : State), s.takes a = true →
    (roleOf a = .observer → exec (.wake a (.fits ())) s = .next (s.replying (.wake a (.fits ())) a 0x05 .role .none)) ∧
    (roleOf a ≠ .observer →
     let c : Instr := .wake a (.fits ())
     (s.stu.scanner = .stopped → s.gc.halted = false → exec c s = .next (State.replying { s with stu := { s.stu with
         scanner := .spinningUp, spinUp := .running s.stu.settings.spinupTimeout, missing := .stopped
         acq := 0, badRun := 0, lastPeriod := none, facet := none } } c a 0x05 .ok (.scannerState .spinningUp))) ∧
     (s.stu.scanner = .stopped → s.gc.halted = true → exec c s = .next (s.replying c a 0x05 .state .none)) ∧
     (s.stu.scanner = .spinningUp ∨ s.stu.scanner = .acquiring →
       exec c s = .next (s.replying c a 0x05 .ok (.scannerState s.stu.scanner))) ∧
     (s.stu.scanner = .locked → exec c s = .next (State.replying { s with stu := { s.stu with
         idle := if s.stu.idle = .stopped then .stopped else .running s.stu.settings.idleTimeout } }
       c a 0x05 .ok (.scannerState .locked))) ∧
     (s.stu.scanner = .fault → exec c s = .next (s.replying c a 0x05 .state .none)))

/-- SET_PARAM of a scanner setting: a value outside the parameter's range is ARG, one of the first four settings while
the scanner is SPINNING_UP, ACQUIRING or LOCKED is STATE; otherwise the value is stored and echoed. A new idle timeout
restarts the timer from it while the timer's conditions hold, and leaves it stopped when they do not or it is 0; that it
starts a timer that a timeout of 0 kept from ever running is the model's choice (log entry 31). SET_PARAM of a laser setting: a value outside its range, a warn band not below the fault band or a fault band not
above the warn band is ARG; any setting but DRIVE_LIMIT while the channel is WARMING or READY is STATE; otherwise the
value is stored for that channel alone and echoed. -/
def Obligations.SetParamStoresInRange : Prop :=
  (∀ (a : Addr) (p : ScannerParam) (v : Nat) (s : State), s.takes a = true → roleOf a = .job →
     let c : Instr := .setParam a (.fits ⟨.named p, v⟩)
     let range : Nat × Nat := match p with
       | .facetCount => (4, 16)
       | .period => (1000, 65535)
       | .tolerance => (1, 255)
       | .spinupTimeout => (1, 60)
       | .idleTimeout => (0, 3600)
     let stored : ScannerSettings := match p with
       | .facetCount => { s.stu.settings with facetCount := v }
       | .period => { s.stu.settings with period := v }
       | .tolerance => { s.stu.settings with tolerance := v }
       | .spinupTimeout => { s.stu.settings with spinupTimeout := v }
       | .idleTimeout => { s.stu.settings with idleTimeout := v }
     (v < range.1 ∨ range.2 < v → exec c s = .next (s.replying c a 0x06 .arg .none)) ∧
     (range.1 ≤ v → v ≤ range.2 →
       (p ≠ .idleTimeout → s.stu.scanner = .spinningUp ∨ s.turning = true →
         exec c s = .next (s.replying c a 0x06 .state .none)) ∧
       (p ≠ .idleTimeout → s.stu.scanner = .stopped ∨ s.stu.scanner = .fault →
         exec c s = .next (State.replying { s with stu := { s.stu with settings := stored } }
           c a 0x06 .ok (.storedValue v))) ∧
       (p = .idleTimeout → exec c s = .next (State.replying { s with stu := { s.stu with
           settings := stored
           idle := if s.isLocked && !s.isExposing && !s.hasImageEntry && decide (v ≠ 0) then .running v else .stopped } }
         c a 0x06 .ok (.storedValue v))))) ∧
  (∀ (a : Addr) (p : LaserParam) (ch : Channel) (v : Nat) (s : State), s.takes a = true → roleOf a = .job →
     let c : Instr := .setParamLaser a (.fits ⟨p, .named ch, v⟩)
     let u := s.lcu.get ch
     let good : Prop := match p with
       | .refDrive => 1 ≤ v ∧ v ≤ 4095
       | .target => 1 ≤ v ∧ v ≤ 4095
       | .loopShift => 2 ≤ v ∧ v ≤ 10
       | .warmCount => 64 ≤ v ∧ v ≤ 4096
       | .warnBand => 1 ≤ v ∧ v ≤ 255 ∧ v < u.settings.faultBand
       | .faultBand => 1 ≤ v ∧ v ≤ 255 ∧ u.settings.warnBand < v
       | .driveLimit => 1 ≤ v ∧ v ≤ 4095
     let stored : LaserSettings := match p with
       | .refDrive => { u.settings with refDrive := v }
       | .target => { u.settings with target := v }
       | .loopShift => { u.settings with loopShift := v }
       | .warmCount => { u.settings with warmCount := v }
       | .warnBand => { u.settings with warnBand := v }
       | .faultBand => { u.settings with faultBand := v }
       | .driveLimit => { u.settings with driveLimit := v }
     (¬ good → exec c s = .next (s.replying c a 0x06 .arg .none)) ∧
     (good → p ≠ .driveLimit → u.state = .warming ∨ u.state = .ready →
       exec c s = .next (s.replying c a 0x06 .state .none)) ∧
     (good → p = .driveLimit ∨ u.state = .off ∨ u.state = .fault →
       exec c s = .next (State.replying { s with lcu := s.lcu.set ch { u with settings := stored } }
         c a 0x06 .ok (.storedValue v))))

/-- SCANNER_RESET is taken in FAULT alone: the scanner becomes STOPPED, or SPINNING_UP when the part is not halted and
the list holds a STORED or FLAT entry, every channel is OFF, and the reply carries the state after the message. From
any other role it is refused with ROLE. LASER_RESET of channels none of which is in FAULT is refused with STATE;
otherwise each named channel in FAULT becomes OFF with its counts at 0, and WARMING at 16 × T at once when the scanner
is LOCKED and the part is not halted; the other channels are not touched and the reply carries the three states. From
any other role it is refused with ROLE. Naming anything else than R, G, B or ALL is refused with ARG. -/
def Obligations.ResetsLeaveFaults : Prop :=
  (∀ (a : Addr) (s : State), s.takes a = true →
     (roleOf a ≠ .job → exec (.scannerReset a (.fits ())) s = .next (s.replying (.scannerReset a (.fits ())) a 0x07 .role .none)) ∧
     (roleOf a = .job →
      let c : Instr := .scannerReset a (.fits ())
      let off : Rgb LaserUnit :=
        s.lcu.map fun u => { u with state := .off, samples := 0, band := 0, drift := false, sweep := ⟨none, []⟩ }
      let base : ScanTiming := { s.stu with facet := none, acq := 0, badRun := 0, lastPeriod := none }
      (s.stu.scanner ≠ .fault → exec c s = .next (s.replying c a 0x07 .state .none)) ∧
      (s.stu.scanner = .fault → (s.gc.halted = true ∨ s.hasImageEntry = false) →
        exec c s = .next (State.replying { s with stu := { base with scanner := .stopped }, lcu := off }
          c a 0x07 .ok (.scannerState .stopped))) ∧
      (s.stu.scanner = .fault → s.gc.halted = false → s.hasImageEntry = true →
        exec c s = .next (State.replying { s with lcu := off, stu := { base with
            scanner := .spinningUp, spinUp := .running s.stu.settings.spinupTimeout, missing := .stopped } }
          c a 0x07 .ok (.scannerState .spinningUp))))) ∧
  (∀ (a : Addr) (g : LaserTarget) (s : State), s.takes a = true →
     (roleOf a ≠ .job → exec (.laserReset a (.fits (.named g))) s = .next (s.replying (.laserReset a (.fits (.named g))) a 0x08 .role .none)) ∧
     (roleOf a = .job →
      let c : Instr := .laserReset a (.fits (.named g))
      let named : Channel → Prop := fun d => (g = .all ∨ g = .one d) ∧ (s.lcu.get d).state = .fault
      (exec (.laserReset a (.fits .unknown)) s = .next (s.replying (.laserReset a (.fits .unknown)) a 0x08 .arg .none)) ∧
      ((∀ d, ¬ named d) → exec c s = .next (s.replying c a 0x08 .state .none)) ∧
      ((∃ d, named d) → ∃ u : State,
        exec c s = .next (u.replying c a 0x08 .ok (.laserStates (u.lcu.map LaserUnit.state))) ∧
        u = { s with lcu := u.lcu } ∧
        ∀ d, (¬ named d → u.lcu.get d = s.lcu.get d) ∧
          (named d → s.stu.scanner = .locked → s.gc.halted = false → u.lcu.get d = { s.lcu.get d with
            state := .warming, average := 16 * (s.lcu.get d).settings.target, samples := 0, band := 0, drift := false
            sweep := ⟨none, []⟩ }) ∧
          (named d → s.stu.scanner ≠ .locked ∨ s.gc.halted = true → u.lcu.get d = { s.lcu.get d with
            state := .off, samples := 0, band := 0, drift := false, sweep := ⟨none, []⟩ }))))

/-- The first mark in SPINNING_UP moves the scanner to ACQUIRING and starts the missing-mark timer at 2 × P0; it has
no period and no facet, the spin-up timer runs on. A mark in ACQUIRING: the known facet counter advances by one round
the F facets, a period is stored, the missing-mark timer restarts, and the acquisition count rises at a good period
with the counter known, falls to 0 at a bad period and otherwise stands. At the 64th the scanner is LOCKED, SCANNER is
raised, the spin-up timer stops, and the channels that are OFF begin WARMING unless the part is halted. -/
def Obligations.MarksBeforeLock : Prop :=
  (∀ (ticks : Nat) (m : Rgb (BitVec 12)) (o : MarkOrder) (s : State), s.pins.resetLow = false →
     s.stu.scanner = .spinningUp → s.stu.missing = .stopped → s.channelsFollowScanner → s.exposure? = none →
     ∃ t : State, exec (.startOfScanMark ticks m o) s = .next t ∧
       t.stu = { s.stu with scanner := .acquiring, missing := .running (2 * s.stu.settings.period), idle := .stopped } ∧
       t.gc = s.gc ∧ t.rm = s.rm ∧ t.pins = s.pins ∧ t.dbi = s.dbi ∧ t.optics = s.optics ∧ t.port = s.port ∧
       ∀ c, t.lcu.get c = { s.lcu.get c with sweep := ⟨none, []⟩ }) ∧
  (∀ (ticks : Nat) (m : Rgb (BitVec 12)) (o : MarkOrder) (s : State), s.pins.resetLow = false →
     s.stu.scanner = .acquiring → (∀ full, s.stu.missing = .running full → 1 ≤ ticks ∧ ticks ≤ full) →
     ∃ t : State, exec (.startOfScanMark ticks m o) s = .next t ∧
       let period : Option Nat := if s.stu.missing = .stopped then none else some ticks
       let good : Nat → Prop := fun p =>
         ((p : Int) - s.stu.settings.period).natAbs * 4096 ≤ s.stu.settings.period * s.stu.settings.tolerance
       t.stu.settings = s.stu.settings ∧
       t.stu.missing = .running (2 * s.stu.settings.period) ∧
       t.stu.lastPeriod = (if s.stu.missing = .stopped then s.stu.lastPeriod else some ticks) ∧
       (s.stu.facet = none → t.stu.facet = none) ∧
       (∀ f, s.stu.facet = some f → f < s.stu.settings.facetCount →
         t.stu.facet = some ((f + 1) % s.stu.settings.facetCount)) ∧
       (period = none → t.stu.acq = s.stu.acq) ∧
       (∀ p, period = some p → ¬ good p → t.stu.acq = 0) ∧
       (∀ p, period = some p → good p → s.stu.facet = none → t.stu.acq = s.stu.acq) ∧
       (∀ p, period = some p → good p → s.stu.facet ≠ none → t.stu.acq = s.stu.acq + 1) ∧
       (t.stu.acq < 64 → t.stu.scanner = .acquiring ∧ t.stu.spinUp = s.stu.spinUp) ∧
       (∀ p, period = some p → good p → s.stu.facet ≠ none → 64 ≤ s.stu.acq + 1 →
         t.stu.scanner = .locked ∧ t.stu.spinUp = .stopped ∧ t.stu.badRun = 0 ∧ t.hasLatched .scanner ∧
         ∀ c, (s.lcu.get c).state = .off → s.gc.halted = false → t.lcu.get c = { s.lcu.get c with
           state := .warming, average := 16 * (s.lcu.get c).settings.target, samples := 0, band := 0, drift := false
           sweep := ⟨none, []⟩ }))

/-- A mark in LOCKED: a good period clears the bad run, a bad one raises it, and at the third in a row lock is lost:
the scanner is ACQUIRING, the counts are 0, the facet counter is UNKNOWN, the spin-up timer runs from its full
timeout, SCANNER is raised, and no exposure is left. Otherwise lock is kept. -/
def Obligations.MarkInLocked : Prop :=
  ∀ (ticks : Nat) (m : Rgb (BitVec 12)) (o : MarkOrder) (s : State), s.pins.resetLow = false →
    s.stu.scanner = .locked → (∀ full, s.stu.missing = .running full → 1 ≤ ticks ∧ ticks ≤ full) →
    ∃ t : State, exec (.startOfScanMark ticks m o) s = .next t ∧
      let period : Option Nat := if s.stu.missing = .stopped then none else some ticks
      let good : Nat → Prop := fun p =>
        ((p : Int) - s.stu.settings.period).natAbs * 4096 ≤ s.stu.settings.period * s.stu.settings.tolerance
      let lost : Prop := ∃ p, period = some p ∧ ¬ good p ∧ 3 ≤ s.stu.badRun + 1
      t.stu.settings = s.stu.settings ∧
      t.stu.missing = .running (2 * s.stu.settings.period) ∧
      t.stu.lastPeriod = (if s.stu.missing = .stopped then s.stu.lastPeriod else some ticks) ∧
      (lost → t.stu.scanner = .acquiring ∧ t.stu.acq = 0 ∧ t.stu.badRun = 0 ∧ t.stu.facet = none ∧
        t.stu.spinUp = .running s.stu.settings.spinupTimeout ∧ t.hasLatched .scanner ∧ t.exposure? = none) ∧
      (¬ lost → t.stu.scanner = .locked ∧ t.stu.spinUp = s.stu.spinUp ∧ t.stu.acq = s.stu.acq ∧
        (period = none → t.stu.badRun = s.stu.badRun) ∧
        (∀ p, period = some p → good p → t.stu.badRun = 0) ∧
        (∀ p, period = some p → ¬ good p → t.stu.badRun = s.stu.badRun + 1) ∧
        (s.stu.facet = none → t.stu.facet = none) ∧
        (∀ f, s.stu.facet = some f → f < s.stu.settings.facetCount →
          t.stu.facet = some ((f + 1) % s.stu.settings.facetCount)))

/-- At a mark of a turning scanner a channel in WARMING or READY fires at its reference drive, stores the sample and
moves its average by floor((16 m − A) / 2^k); its sample count rises and stays at 65535. WARMING counts samples inside
the warn band and becomes READY at the warm count, or FAULT at four times as many samples; READY becomes FAULT beyond
the fault band and otherwise keeps its drift flag in step with the warn band. A channel in OFF or FAULT takes no
sample. That the pulse stands on the drive output until the mark is over is said for the marks at which nothing drops
the outputs: no channel enters FAULT and lock is not lost. -/
def Obligations.SampleTracksPower : Prop :=
  ∀ (ticks : Nat) (m : Rgb (BitVec 12)) (o : MarkOrder) (s : State) (c : Channel), s.pins.resetLow = false →
    s.turning = true → (∀ full, s.stu.missing = .running full → 1 ≤ ticks ∧ ticks ≤ full) →
    ∃ t : State, exec (.startOfScanMark ticks m o) s = .next t ∧
      let u := s.lcu.get c
      let v := t.lcu.get c
      let target : Int := 16 * u.settings.target
      let inside : Prop := ((v.average : Int) - target).natAbs * 256 ≤ target.natAbs * u.settings.warnBand
      let beyond : Prop := target.natAbs * u.settings.faultBand < ((v.average : Int) - target).natAbs * 256
      v.settings = u.settings ∧
      (u.state = .warming ∨ u.state = .ready →
        (v.average : Int) = u.average + Int.fdiv (16 * (m.get c).toNat - u.average) (2 ^ u.settings.loopShift) ∧
        v.lastSample = some (m.get c).toNat ∧ v.samples = min (u.samples + 1) 65535 ∧
        ((∀ d, (t.lcu.get d).state = .fault → (s.lcu.get d).state = .fault) →
          s.stu.scanner = .acquiring ∨ t.stu.scanner = .locked → v.sweep.pulse = some u.settings.refDrive)) ∧
      (u.state = .warming →
        v.band = (if inside then u.band + 1 else 0) ∧
        (u.settings.warmCount ≤ v.band → v.state = .ready ∧ v.drift = false) ∧
        (v.band < u.settings.warmCount → 4 * u.settings.warmCount ≤ v.samples →
          v.state = .fault ∧ v.drift = false ∧ t.hasLatched .laser ∧ t.exposure? = none) ∧
        (v.band < u.settings.warmCount → v.samples < 4 * u.settings.warmCount → v.state = .warming)) ∧
      (u.state = .ready → v.band = u.band ∧
        (beyond → v.state = .fault ∧ v.drift = false ∧ t.hasLatched .laser ∧ t.exposure? = none) ∧
        (¬ beyond → v.state = .ready ∧ (v.drift = true ↔ ¬ inside) ∧ (v.drift ≠ u.drift → t.hasLatched .laser))) ∧
      (u.state = .off ∨ u.state = .fault → v.lastSample = u.lastSample ∧ v.sweep.pulse = none) ∧
      (u.state = .fault → v = { u with sweep := v.sweep }) ∧
      (u.state = .off → v.state ≠ .warming → v = { u with sweep := v.sweep })

/-- An index pulse in ACQUIRING or LOCKED sets the facet counter to 0. Found UNKNOWN or 0 it is no slip; otherwise in
ACQUIRING the acquisition count becomes 0 and in LOCKED lock is lost. In the other states it is ignored. The
missing-mark timer's expiry makes the facet counter UNKNOWN and stops the timer; in ACQUIRING the acquisition count
becomes 0, in LOCKED lock is lost. The spin-up timer's expiry in SPINNING_UP or ACQUIRING puts the scanner in FAULT,
and the idle timer's expiry in LOCKED puts it in STOPPED; both stop the timers, make the facet counter UNKNOWN and the
acquisition count 0 and turn every channel OFF; the first raises SCANNER, the second STANDBY. What the two leave
unsaid of the last period is kept (DEDUCED, log entry 26). -/
def Obligations.IndexPulseAndTimers : Prop :=
  (∀ s : State, s.pins.resetLow = false →
     (s.turning = false → exec .indexPulse s = .next s) ∧
     (s.turning = true → s.stu.facet = none ∨ s.stu.facet = some 0 →
       exec .indexPulse s = .next { s with stu := { s.stu with facet := some 0 } }) ∧
     (∀ f, s.stu.facet = some (f + 1) → s.stu.scanner = .acquiring →
       exec .indexPulse s = .next { s with stu := { s.stu with facet := some 0, acq := 0 } }) ∧
     (∀ f, s.stu.facet = some (f + 1) → s.stu.scanner = .locked → ∃ t : State,
       exec .indexPulse s = .next t ∧ s.lockLostFrom t)) ∧
  (∀ (s : State) (full : Nat), s.pins.resetLow = false → s.stu.missing = .running full →
     (s.stu.scanner = .acquiring → exec .missingMarkTimerExpiry s =
       .next { s with stu := { s.stu with facet := none, missing := .stopped, acq := 0 } }) ∧
     (s.stu.scanner = .locked → ∃ t : State, exec .missingMarkTimerExpiry s = .next t ∧
       State.lockLostFrom { s with stu := { s.stu with missing := .stopped } } t)) ∧
  (∀ (s : State) (full : Nat), s.pins.resetLow = false →
     let off : Rgb LaserUnit :=
       s.lcu.map fun u => { u with state := .off, samples := 0, band := 0, drift := false, sweep := ⟨none, []⟩ }
     (s.stu.spinUp = .running full → s.stu.scanner = .spinningUp ∨ s.stu.scanner = .acquiring → ∃ t : State,
       exec .spinUpTimerExpiry s = .next t ∧ t.motorEn = false ∧
       t = { s with lcu := off, au := t.au, stu := { s.stu with
         scanner := .fault, spinUp := .stopped, missing := .stopped, idle := .stopped, facet := none, acq := 0 } } ∧
       s.raisedOnly t [.scanner]) ∧
     (s.stu.idle = .running full → s.stu.scanner = .locked → ∃ t : State,
       exec .idleTimerExpiry s = .next t ∧ t.motorEn = false ∧
       t = { s with lcu := off, au := t.au, stu := { s.stu with
         scanner := .stopped, spinUp := .stopped, missing := .stopped, idle := .stopped, facet := none, acq := 0
         badRun := 0 } } ∧
       s.raisedOnly t [.standby]))

/-! ### The frame queue -/

/-- A submission that fails a test of Table 1-2 is refused with the code of the first test that fails, and nothing is
changed: FULL, DUPLICATE, ARG, SET, STATE for FRONT while the queue is not held, BUSY beside a leaving entry. The
ranges a submission is held to: for a STORED or FLAT frame the set 0..7, an even width 256..4096, a height 128..3520,
repeats 1..250 and lights −2048..2047; for a STORED frame also named codes and a strip table offset that is a multiple
of 16 below 0xFFF0_0000; for a RUNOUT a count 1..4096. -/
def Obligations.SubmissionRefusals : Prop :=
  (∀ (c : Instr) (a : Addr) (k : Byte) (roles : List Role) (f : Submission) (s : State),
     c.sender? = some a → c.kind? = some k → c.roles? = some roles → roleOf a ∈ roles → submissionOf c = some f →
     s.takes a = true →
     let full := 64 ≤ s.fq.entries.length
     let duplicate := ∃ e ∈ s.fq.entries, e.key = ⟨a.toNat, f.tag⟩
     let unready := ∃ id, f.set = some id ∧ (s.setAt id).ready? = none
     (full → exec c s = .next (s.replying c a k .full .none)) ∧
     (¬ full → duplicate → exec c s = .next (s.replying c a k .duplicate .none)) ∧
     (¬ full → ¬ duplicate → f.valid = false → exec c s = .next (s.replying c a k .arg .none)) ∧
     (¬ full → ¬ duplicate → f.valid = true → unready → exec c s = .next (s.replying c a k .set .none)) ∧
     (¬ full → ¬ duplicate → f.valid = true → ¬ unready → f.front = true → s.fq.held.any = false →
       exec c s = .next (s.replying c a k .state .none)) ∧
     (¬ full → ¬ duplicate → f.valid = true → ¬ unready → f.front = true → s.fq.held.any = true →
       s.leavingNear s.frontPlace = true → exec c s = .next (s.replying c a k .busy .none))) ∧
  ((∀ a : StoredArgs, (storedSubmission a).valid = true ↔
     a.set ≤ 7 ∧ a.width % 2 = 0 ∧ 256 ≤ a.width ∧ a.width ≤ 4096 ∧ 128 ≤ a.height ∧ a.height ≤ 3520 ∧
     1 ≤ a.repeats ∧ a.repeats ≤ 250 ∧ -2048 ≤ a.lights.r ∧ a.lights.r ≤ 2047 ∧ -2048 ≤ a.lights.g ∧
     a.lights.g ≤ 2047 ∧ -2048 ≤ a.lights.b ∧ a.lights.b ≤ 2047 ∧ a.format.isSome = true ∧ a.sequence.isSome = true ∧
     a.tableOffset % 16 = 0 ∧ a.tableOffset < 0xFFF00000) ∧
   (∀ a : FlatArgs, (flatSubmission a).valid = true ↔
     a.set ≤ 7 ∧ a.width % 2 = 0 ∧ 256 ≤ a.width ∧ a.width ≤ 4096 ∧ 128 ≤ a.height ∧ a.height ≤ 3520 ∧
     1 ≤ a.repeats ∧ a.repeats ≤ 250 ∧ -2048 ≤ a.lights.r ∧ a.lights.r ≤ 2047 ∧ -2048 ≤ a.lights.g ∧
     a.lights.g ≤ 2047 ∧ -2048 ≤ a.lights.b ∧ a.lights.b ≤ 2047) ∧
   (∀ a : RunoutArgs, (runoutSubmission a).valid = true ↔ 1 ≤ a.count ∧ a.count ≤ 4096))

/-- A submission that passes the tests, in a state where no start can follow: the entry takes the serial counter, the
sender's address and its tag, and joins at the tail, or with FRONT at position 1 behind an EXPOSING head and at
position 0 otherwise, the entry at position 1 being pushed out of the window; at position 0 or 1 it is STAGING
(STORED) or STAGED; the counter rises by 1, the named set's use count by 1, and the reply carries serial and position.
A STORED entry in the window is given a pin record over its table, any other is given none, the entry pushed out has
lost its pins, and the other held records stand. -/
def Obligations.SubmissionAccepted : Prop :=
  ∀ (c : Instr) (a : Addr) (k : Byte) (roles : List Role) (f : Submission) (s : State),
    c.sender? = some a → c.kind? = some k → c.roles? = some roles → roleOf a ∈ roles → submissionOf c = some f →
    s.takes a = true → s.fq.entries.length < 64 → (∀ e ∈ s.fq.entries, e.key ≠ ⟨a.toNat, f.tag⟩) → f.valid = true →
    (∀ id, f.set = some id → ∃ v, (s.setAt id).ready? = some v) →
    (f.front = true → s.fq.held.any = true ∧ s.leavingNear s.frontPlace = false) →
    s.noStart = true → s.tablesInRange →
    ∃ u : State,
      let place := if f.front then s.frontPlace else s.fq.entries.length
      let made : Entry := ⟨s.fq.serial, ⟨a.toNat, f.tag⟩, .queued, f.body⟩
      exec c s = .next (u.replying c a k .ok (.bytes (beBytes 2 s.fq.serial.toNat ++ beBytes 1 place))) ∧
      u.fq = { s.fq with
        serial := s.fq.serial + 1
        entries := (if f.front then changeAt s.fq.entries 1 Entry.pushedOut else s.fq.entries).insertIdx place
          (acceptedEntry place made) } ∧
      (∀ id, f.set = some id → (u.setAt id).useCount = (s.setAt id).useCount + 1) ∧
      (∀ id : Fin 8, u.cs[id].state = s.cs[id].state) ∧
      u.stu.scanner = (if f.set ≠ none ∧ s.stu.scanner = .stopped ∧ s.gc.halted = false then .spinningUp
        else s.stu.scanner) ∧
      u.rm = s.rm ∧ u.gc.magazine = s.gc.magazine ∧ u.lcu = s.lcu ∧ u.au = s.au ∧ u.dbi = s.dbi ∧ u.port = s.port ∧
      u.optics = s.optics ∧ u.pins = s.pins ∧
      (s.queueBounded → s.pinsInWindow → s.sr.staging.map Staging.key ≠ some made.key →
        let pushed : Key → Prop := fun k => f.front = true ∧ ∃ e, s.fq.entries[1]? = some e ∧ e.key = k
        (∀ p, place ≤ 1 → made.stored? = some p → u.holdsFreshPin made p) ∧
        (1 < place ∨ made.isStored = false → ∀ q, u.holdsPin q → q.key ≠ made.key) ∧
        (∀ q, u.holdsPin q → ¬ pushed q.key) ∧
        (∀ q, s.holdsPin q → ¬ pushed q.key → ∃ q', u.holdsPin q' ∧ q'.key = q.key ∧ q'.serial = q.serial ∧
          q'.table.offset = q.table.offset ∧ q'.strips = q.strips))

/-- HOLD adds OPERATOR to the held-reason set and replies OK; QUEUE_HELD is raised when the set did not contain it,
and nothing else changes. From any role but JOB it is refused with ROLE. RELEASE replies OK with the set as it stood.
Where no start becomes due, it empties the set, whoever added to it, and touches neither the list, nor the map, nor the
attention lines; the starts that follow a RELEASE are stated with the starts. -/
def Obligations.HoldAndRelease : Prop :=
  (∀ (a : Addr) (s : State), s.takes a = true →
     let c : Instr := .hold a (.fits ())
     (roleOf a ≠ .job → exec c s = .next (s.replying c a 0x15 .role .none)) ∧
     (roleOf a = .job → ∃ u : State, exec c s = .next (u.replying c a 0x15 .ok .none) ∧
       u = { s with fq := { s.fq with held := { s.fq.held with operator := true } }, au := u.au } ∧
       s.raisedOnly u (if s.fq.held.operator then [] else [.queueHeld]))) ∧
  (∀ (a : Addr) (s : State), s.takes a = true → roleOf a = .job →
     let c : Instr := .release a (.fits ())
     ∃ u : State, exec c s = .next (u.replying c a 0x16 .ok (.held s.fq.held)) ∧ u.dbi = s.dbi ∧
       (s.noStart = true ∨
           (s.headIsRunout = false ∧ (s.headIsFrame = false ∨ s.isLocked = false ∨ s.lasersReady = false)) →
         s.tablesInRange →
         u.fq = { s.fq with held := ⟨false, false, false, false⟩ } ∧ u.rm = s.rm ∧ u.au = s.au ∧ u.cs = s.cs ∧
         u.lcu = s.lcu ∧ u.gc.magazine = s.gc.magazine ∧ u.gc.halted = s.gc.halted ∧ u.gc.expected = s.gc.expected))

/-- CANCEL of a key the sender may name: no such entry is UNKNOWN_ID, an EXPOSING or leaving entry STATE. Where no
start can follow, a STORED entry begins leaving with completion CANCELLED, a STAGING one going back to QUEUED, and its
write-back joins the tail of the list, beginning at once with descriptor 0 when the list was empty and the channel
idle; any other entry is removed at once, and an entry that this brings to position 1 enters the staging window. The
reply carries 1. What else asks for the channel at the same event comes after (log entry 29). -/
def Obligations.CancelTakesOneEntry : Prop :=
  ∀ (a : Addr) (g : CancelArgs) (s : State), s.takes a = true → roleOf a = .job ∨ roleOf a = .calibration →
    (roleOf a = .calibration → g.submitter.getD a.toNat = a.toNat) →
    1 ≤ g.submitter.getD a.toNat → g.submitter.getD a.toNat ≤ 11 →
    let c : Instr := .cancel a (.fits g)
    let key : Key := ⟨g.submitter.getD a.toNat, g.tag⟩
    (findEntry s.fq.entries key = none → exec c s = .next (s.replying c a 0x13 .unknownId .none)) ∧
    (∀ e, findEntry s.fq.entries key = some e →
      (e.state = .exposing ∨ e.leaving = true → exec c s = .next (s.replying c a 0x13 .state .none)) ∧
      (e.state ≠ .exposing → e.leaving = false → s.noStart = true → s.tablesInRange → s.flatsNotRejected →
        ∃ u : State, exec c s = .next (u.replying c a 0x13 .ok (.cancelled 1)) ∧
          u.fq.held = s.fq.held ∧ u.fq.rejection = s.fq.rejection ∧ u.fq.serial = s.fq.serial ∧ u.rm = s.rm ∧
          u.lcu = s.lcu ∧ u.dbi = s.dbi ∧
          (∀ i q, e.body = .stored i q →
            u.fq.entries = changeEntry s.fq.entries key (fun e => { e with
              state := if e.state = .staging then .queued else e.state
              body := .stored i { q with completion := some .cancelled } }) ∧
            u.sr.wbList = s.sr.wbList ++ [key] ∧ u.cs = s.cs ∧ u.au = s.au ∧
            (s.sr.wbList = [] → s.sr.channel = ⟨none, false, false, false⟩ → s.queueBounded → s.memoryCanonical →
              s.lineBegun → s.pins.resetLow = false → q.tableOffset % 16 = 0 →
              s.marksFirst u i q .cancelled)) ∧
          (e.isStored = false →
            u.fq.entries.map Entry.key = (s.fq.entries.map Entry.key).erase key ∧
            (∀ i, e.image? = some i → i.set ≤ 7 → (u.setAt i.set).useCount = (s.setAt i.set).useCount - 1) ∧
            s.raisedOnly u (if s.fq.entries.length = 1 then [.queueEmpty] else []) ∧
            (s.queueBounded → s.pinsInWindow → s.fq.entries[0]? = some e ∨ s.fq.entries[1]? = some e →
              ∀ e2, s.fq.entries[2]? = some e2 → s.sr.staging.map Staging.key ≠ some e2.key → u.windowTook e2))))

/-- FLUSH of a submitter the sender may name, where no start can follow: every entry of that submitter that was
neither EXPOSING nor leaving is cancelled, so that those left are EXPOSING or leaving; the entries of the others stay,
and the reply carries how many were cancelled. -/
def Obligations.FlushCancelsOneSubmitter : Prop :=
  ∀ (a : Addr) (n : Option Nat) (s : State), s.takes a = true → roleOf a = .job ∨ roleOf a = .calibration →
    (roleOf a = .calibration → n.getD a.toNat = a.toNat) → 1 ≤ n.getD a.toNat → n.getD a.toNat ≤ 11 →
    s.noStart = true → s.tablesInRange → s.queueBounded →
    (∀ e ∈ s.fq.entries, e.rejected? = none) →
    let c : Instr := .flush a (.fits n)
    let mine : Entry → Bool := fun e => decide (e.key.submitter = n.getD a.toNat)
    ∃ u : State,
      exec c s = .next (u.replying c a 0x14 .ok (.cancelled (s.fq.entries.countP fun e => mine e && e.cancellable))) ∧
      (∀ e ∈ u.fq.entries, mine e = true → e.cancellable = false) ∧
      (u.fq.entries.filter fun e => !mine e).map Entry.key = (s.fq.entries.filter fun e => !mine e).map Entry.key ∧
      (∀ e ∈ s.fq.entries, e.state = .exposing ∨ e.leaving = true ∨ e.isStored = true →
        ∃ e' ∈ u.fq.entries, e'.key = e.key) ∧
      u.fq.held = s.fq.held ∧ u.fq.rejection = s.fq.rejection ∧ u.fq.serial = s.fq.serial ∧ u.rm = s.rm ∧ u.dbi = s.dbi

/-! ### The calibration store and the optics table -/

/-- BEGIN_SET of a FREE set makes it BUILDING with the stock code and note given and every node and trim 0; in
BUILDING or READY it is refused with STATE, and an id above 7 or a stock code 0 or 65535 with ARG. FREE_SET makes a
BUILDING set, or a READY set that no entry names, FREE; a READY set in use is refused with IN_USE and its use count, a
FREE set with STATE. SET_TRIM stores the value clamped to −4096..4095 in a BUILDING or READY set, says whether it
clamped, and is refused with STATE in a FREE set. A channel other than R, G and B is refused with ARG. -/
def Obligations.SetsBeginAndEnd : Prop :=
  (∀ (a : Addr) (g : BeginSetArgs) (s : State), s.takes a = true → roleOf a = .calibration →
     let c : Instr := .beginSet a (.fits g)
     (7 < g.id ∨ g.stock = 0 ∨ g.stock = 65535 → exec c s = .next (s.replying c a 0x20 .arg .none)) ∧
     (∀ h : g.id < 8, g.stock ≠ 0 → g.stock ≠ 65535 →
       (s.cs[g.id].state ≠ .free → exec c s = .next (s.replying c a 0x20 .state .none)) ∧
       (s.cs[g.id].state = .free →
         let empty : SetContent :=
           ⟨g.stock, g.note, ⟨List.replicate 257 0, List.replicate 257 0, List.replicate 257 0⟩,
             ⟨List.replicate 498 0, List.replicate 498 0, List.replicate 498 0⟩, ⟨0, 0, 0⟩⟩
         exec c s = .next (State.replying { s with cs := s.cs.set g.id ⟨.building empty, 0⟩ } c a 0x20 .ok (.setId g.id))))) ∧
  (∀ (a : Addr) (id : Nat) (h : id < 8) (s : State), s.takes a = true → roleOf a = .calibration →
     (let c : Instr := .freeSet a (.fits id)
      (s.cs[id].state = .free → exec c s = .next (s.replying c a 0x23 .state .none)) ∧
      (∀ v sum, s.cs[id].state = .ready v sum → 0 < s.cs[id].useCount →
        exec c s = .next (s.replying c a 0x23 .inUse (.inUse s.cs[id].useCount))) ∧
      ((∃ v, s.cs[id].state = .building v) ∨ (s.cs[id].state ≠ .free ∧ s.cs[id].useCount = 0) →
        exec c s = .next (State.replying { s with cs := s.cs.set id { s.cs[id] with state := .free } }
          c a 0x23 .ok .none))) ∧
     (∀ value : Word16, exec (.setTrim a (.fits ⟨id, .unknown, value⟩)) s =
       .next (s.replying (.setTrim a (.fits ⟨id, .unknown, value⟩)) a 0x24 .arg .none)) ∧
     (∀ (ch : Channel) (value : Word16),
       let c : Instr := .setTrim a (.fits ⟨id, .named ch, value⟩)
       let kept : Int := max (-4096) (min 4095 value.toInt)
       let trimmed : SetContent → SetContent := fun v => { v with trims := v.trims.set ch kept }
       (s.cs[id].state = .free → exec c s = .next (s.replying c a 0x24 .state .none)) ∧
       let reply : ReplyData := .trim ch kept (decide (kept ≠ value.toInt))
       (∀ v, s.cs[id].state = .building v →
         let r : SetRecord := { s.cs[id] with state := .building (trimmed v) }
         exec c s = .next (State.replying { s with cs := s.cs.set id r } c a 0x24 .ok reply)) ∧
       (∀ v sum, s.cs[id].state = .ready v sum →
         let r : SetRecord := { s.cs[id] with state := .ready (trimmed v) sum }
         exec c s = .next (State.replying { s with cs := s.cs.set id r } c a 0x24 .ok reply))))

/-- WRITE_TABLE into a BUILDING set stores its values at consecutive nodes from the start node, drive values of 4096
and above as 4095, and counts those; every other node, table, name and trim, and every other set, stays. Out of range
it is refused with ARG, and in FREE or READY with STATE. -/
def Obligations.WriteTableStoresNodes : Prop :=
  ∀ (a : Addr) (id start : Nat) (t : TableName) (vs : List Word16) (s : State), s.takes a = true →
    roleOf a = .calibration →
    let c : Instr := .writeTable a (.fits ⟨id, .named t, start, vs⟩)
    let size : Nat := match t with
      | .curve _ => 257
      | .drive _ => 498
    exec (.writeTable a (.fits ⟨id, .unknown, start, vs⟩)) s =
      .next (s.replying (.writeTable a (.fits ⟨id, .unknown, start, vs⟩)) a 0x21 .arg .none) ∧
    (7 < id ∨ vs = [] ∨ 22 < vs.length ∨ size < start + vs.length →
      exec c s = .next (s.replying c a 0x21 .arg .none)) ∧
    (∀ h : id < 8, vs ≠ [] → vs.length ≤ 22 → start + vs.length ≤ size →
      ((∀ v, s.cs[id].state ≠ .building v) → exec c s = .next (s.replying c a 0x21 .state .none)) ∧
      (∀ v, s.cs[id].state = .building v → (v.table t).length = size → ∃ w : SetContent,
        exec c s = .next (State.replying { s with cs := s.cs.set id { s.cs[id] with state := .building w } }
          c a 0x21 .ok (.tableWritten t start vs.length (match t with
            | .curve _ => 0
            | .drive _ => vs.countP fun x => decide (4096 ≤ x.toNat)))) ∧
        (∀ i < vs.length, (w.table t).getD (start + i) 0 = (match t with
          | .curve _ => (vs.getD i 0).toNat
          | .drive _ => min (vs.getD i 0).toNat 4095)) ∧
        (∀ j, j < start ∨ start + vs.length ≤ j → (w.table t).getD j 0 = (v.table t).getD j 0) ∧
        (w.table t).length = size ∧ (∀ t', t' ≠ t → w.table t' = v.table t') ∧
        w.stock = v.stock ∧ w.note = v.note ∧ w.trims = v.trims))

/-- PUBLISH_SET of a BUILDING set whose print curves never fall, whose drive ranges never fall, and whose drive nodes
256 and 257 agree makes it READY with its table sum, the ones' complement sum of all nodes, and raises CAL_SET; otherwise it is refused with BAD_TABLE naming
the first failing node, and the set stays BUILDING. In FREE or READY it is refused with STATE. -/
def Obligations.PublishSetValidates : Prop :=
  ∀ (a : Addr) (id : Nat) (h : id < 8) (s : State), s.takes a = true → roleOf a = .calibration →
    let c : Instr := .publishSet a (.fits id)
    let nodeFails : SetContent → TableName → Nat → Prop := fun v t j => match t with
      | .curve _ => 1 ≤ j ∧ j ≤ 256 ∧ (v.table t).getD j 0 < (v.table t).getD (j - 1) 0
      | .drive _ => 1 ≤ j ∧ j ≤ 497 ∧
        (if j = 257 then (v.table t).getD j 0 ≠ (v.table t).getD (j - 1) 0
         else (v.table t).getD j 0 < (v.table t).getD (j - 1) 0)
    let sum : SetContent → Nat := fun v =>
      (v.curves.r ++ v.curves.g ++ v.curves.b ++ v.drives.r ++ v.drives.g ++ v.drives.b).foldl
        (fun n w => if n + w ≤ 65535 then n + w else n + w - 65535) 0
    ((∀ v, s.cs[id].state ≠ .building v) → exec c s = .next (s.replying c a 0x22 .state .none)) ∧
    (∀ v, s.cs[id].state = .building v →
      (∀ ch, (v.curves.get ch).length = 257 ∧ (v.drives.get ch).length = 498) →
      ((∀ t j, ¬ nodeFails v t j) → ∃ u : State,
        exec c s = .next (u.replying c a 0x22 .ok (.published id v.stock (BitVec.ofNat 16 (sum v)))) ∧
        u = { s with cs := s.cs.set id { s.cs[id] with state := .ready v (BitVec.ofNat 16 (sum v)) }, au := u.au } ∧
        s.raisedOnly u [.calSet]) ∧
      ((∃ t j, nodeFails v t j) → ∃ t j f, nodeFails v t j ∧ (∀ i < j, ¬ nodeFails v t i) ∧
        (∀ t', tableOrder.idxOf t' < tableOrder.idxOf t → ∀ i, ¬ nodeFails v t' i) ∧ (f = .join ↔ j = 257) ∧
        exec c s = .next (s.replying c a 0x22 .badTable
          (.badTable t j f ((v.table t).getD (j - 1) 0) ((v.table t).getD j 0)))))

/-- WRITE_OPTICS outside an exposure stores 1 to 16 values at consecutive entries of the part and leaves every other
entry; during one it is refused with BUSY, and out of range, a centre outside 2048..6144 included, with ARG. -/
def Obligations.WriteOpticsStores : Prop :=
  ∀ (a : Addr) (part : OpticsPart) (first : Nat) (vs : List Word16) (s : State), s.takes a = true →
    roleOf a = .calibration →
    let c : Instr := .writeOptics a (.fits ⟨.named part, first, vs⟩)
    let size : Nat := match part with
      | .facet => 16
      | .profile => 33
      | .centre => 1
    let good : Prop := 1 ≤ vs.length ∧ vs.length ≤ 16 ∧ first + vs.length ≤ size ∧
      (part = .centre → ∀ v ∈ vs, 2048 ≤ v.toNat ∧ v.toNat ≤ 6144)
    (¬ good → exec c s = .next (s.replying c a 0x27 .arg .none)) ∧
    (good → s.isExposing = true → exec c s = .next (s.replying c a 0x27 .busy .none)) ∧
    (good → s.isExposing = false → (s.optics.part part).length = size → ∃ o : Optics,
      exec c s = .next (State.replying { s with optics := o } c a 0x27 .ok (.opticsWritten part first vs.length)) ∧
      (∀ i < vs.length, (o.part part).getD (first + i) 0 = (vs.getD i 0).toNat) ∧
      (∀ j, j < first ∨ first + vs.length ≤ j → (o.part part).getD j 0 = (s.optics.part part).getD j 0) ∧
      (∀ part', part' ≠ part → o.part part' = s.optics.part part'))

/-! ### The gate and the exposure -/

/-- GATE_READY is refused with STATE in NO_FILM and EXPOSING, with POSITION in FILM_OUT, below the expected position
(GATE is raised) and at or above the capacity. Taken where no start becomes due, it appends one UNKNOWN record for each
position passed, makes the gate READY at q with the expected position q and no advance order, and replies with q and
the number appended. A port read in flight falls between the records, as log entry 28 says. -/
def Obligations.GateReadyRegistersFilm : Prop :=
  ∀ (a : Addr) (q : Nat) (s : State), s.takes a = true → roleOf a = .transport →
    let c : Instr := .gateReady a (.fits q)
    let open_ : Prop := s.gc.gate = .advancing ∨ s.gateReady = true ∨ s.gc.gate = .fault
    let unstartable : Prop := s.gc.halted = true ∨ s.fq.held.any = true ∨
      (s.headIsRunout = false ∧ (s.headIsFrame = false ∨ s.isLocked = false ∨ s.lasersReady = false))
    (s.gc.gate = .noFilm ∨ s.isExposing = true → exec c s = .next (s.replying c a 0x32 .state .none)) ∧
    (s.gc.gate = .filmOut → exec c s = .next (s.replying c a 0x32 .position .none)) ∧
    (open_ → q < s.gc.expected → ∃ u : State, exec c s = .next (u.replying c a 0x32 .position .none) ∧
      u = { s with au := u.au } ∧ s.raisedOnly u [.gate]) ∧
    (open_ → s.gc.expected ≤ q → s.capacity ≤ q → exec c s = .next (s.replying c a 0x32 .position .none)) ∧
    (open_ → s.gc.expected ≤ q → q < s.capacity → unstartable → s.tablesInRange → ∃ u : State,
      exec c s = .next (u.replying c a 0x32 .ok (.gateReady q (q - s.gc.expected))) ∧
      u.gc = { s.gc with gate := .ready q, advance := 0, expected := q } ∧
      u.rm = { s.rm with count := s.rm.count + (q - s.gc.expected) } ∧
      (s.memoryCanonical → s.rm.count + (q - s.gc.expected) ≤ 32768 →
        (∀ i < q - s.gc.expected, u.slotHolds (s.rm.count + i) (unknownRecord (s.gc.expected + i))) ∧
        (∀ b, outsideSlots s.rm.count (q - s.gc.expected) b → u.readByte b = s.readByte b) ∧
        s.readFalls u s.rm.count (q - s.gc.expected)) ∧
      u.fq = s.fq ∧ u.au = s.au ∧ u.cs = s.cs ∧ u.lcu = s.lcu ∧ u.dbi = s.dbi ∧ u.pins = s.pins ∧
      u.stu = { s.stu with idle := u.stu.idle })

/-- A frame start is taken at the event that makes the last of its conditions true, by comparing the conditions before
and after it (DEDUCED, log entry 12). When the stock codes match, the exposure context latches the values of Table 8-6, line 0 begins and is fetched from its first byte, the output waits,
the head and the gate are EXPOSING and the idle timer stops; the start raises no event. First: a GATE_READY. Second: a
RELEASE, with the gate READY and the queue held before. Third: a SUBMIT_FLAT into the empty list. Fourth: the end of
the write-back of the head, with the next entry STAGED behind it. Fifth: a mark, which makes the scanner LOCKED or a
channel READY; a gain is then latched from the channel's average before or after its sample of that mark. Sixth, at
whatever command: no exposure begins in any other way, and no start is left due. -/
def Obligations.FrameStartLatchesContext : Prop :=
  (∀ (a : Addr) (q : Nat) (e : Entry) (i : ImagePart) (v : SetContent) (tag : MagazineTag) (s : State),
     s.takes a = true → roleOf a = .transport → s.gc.gate = .advancing ∨ s.gc.gate = .fault → s.gc.expected ≤ q →
     q < s.capacity → s.fq.held.any = false → s.offersFrame e i v tag → v.stock = tag.stock → s.tablesInRange →
     let c : Instr := .gateReady a (.fits q)
     ∃ u : State, exec c s = .next (u.replying c a 0x32 .ok (.gateReady q (q - s.gc.expected))) ∧
       s.frameStarted u e i v q ∧ u.gc.advance = 0 ∧ u.gc.expected = q ∧
       u.rm.count = s.rm.count + (q - s.gc.expected) ∧ u.au = s.au ∧ u.cs = s.cs ∧
       u.fq = { s.fq with entries := changeAt s.fq.entries 0 (·.withState .exposing) }) ∧
  (∀ (a : Addr) (q : Nat) (e : Entry) (i : ImagePart) (v : SetContent) (tag : MagazineTag) (s : State),
     s.takes a = true → roleOf a = .job → s.gc.gate = .ready q → s.fq.held.any = true → s.offersFrame e i v tag →
     v.stock = tag.stock → s.tablesInRange →
     let c : Instr := .release a (.fits ())
     ∃ u : State, exec c s = .next (u.replying c a 0x16 .ok (.held s.fq.held)) ∧
       s.frameStarted u e i v q ∧ u.gc.advance = s.gc.advance ∧ u.gc.expected = s.gc.expected ∧ u.rm = s.rm ∧
       u.au = s.au ∧ u.cs = s.cs ∧
       u.fq = { s.fq with
         held := ⟨false, false, false, false⟩, entries := changeAt s.fq.entries 0 (·.withState .exposing) }) ∧
  (∀ (a : Addr) (q : Nat) (g : FlatArgs) (v : SetContent) (tag : MagazineTag) (s : State),
     s.takes a = true → roleOf a = .job ∨ roleOf a = .calibration → s.gc.gate = .ready q → s.fq.held.any = false →
     s.fq.entries = [] → s.gc.halted = false → s.isLocked = true → s.lasersReady = true →
     (flatSubmission g).valid = true → g.front = false → (s.setAt g.set).ready? = some v →
     s.loadedTag? = some tag → v.stock = tag.stock →
     let c : Instr := .submitFlat a (.fits g)
     let i : ImagePart := ⟨g.set, g.width, g.height, g.lights, g.repeats, 0⟩
     let e : Entry := ⟨s.fq.serial, ⟨a.toNat, g.tag⟩, .staged, .flat i g.values⟩
     ∃ u : State, exec c s = .next (u.replying c a 0x11 .ok (.bytes (beBytes 2 s.fq.serial.toNat ++ beBytes 1 0))) ∧
       s.frameStarted u e i v q ∧ u.rm = s.rm ∧ u.au = s.au ∧
       u.fq = { s.fq with entries := [e.withState .exposing], serial := s.fq.serial + 1 }) ∧
  (∀ (control : Byte) (k : Key) (ks : List Key) (e0 e : Entry) (es : List Entry) (j i : ImagePart) (p : StoredPart)
     (q : Nat) (v : SetContent) (tag : MagazineTag) (s : State), s.pins.resetLow = false →
     s.sr.channel.busy = some (.mark control) → control.getLsbD 1 = true → s.sr.wbList = k :: ks →
     s.fq.entries = e0 :: e :: es → e0.key = k → e0.body = .stored j p →
     p.completion = some .exposed ∨ p.completion = some .cancelled → e.key ≠ k → e.state = .staged →
     e.leaving = false → e.image? = some i → s.gc.gate = .ready q → s.gc.halted = false → s.fq.held.any = false →
     s.isLocked = true → s.lasersReady = true → (s.setAt i.set).ready? = some v → s.loadedTag? = some tag →
     v.stock = tag.stock → s.tablesInRange →
     ∃ t : State, exec .writeBackMarking s = .next t ∧ s.frameStarted t e i v q ∧ t.rm = s.rm ∧
       t.head? = some (e.withState .exposing) ∧ t.fq.entries.map Entry.key = (e :: es).map Entry.key ∧
       s.raisedOnly t (if p.completion = some .exposed then [.entryRetired] else [])) ∧
  (∀ (ticks : Nat) (m : Rgb (BitVec 12)) (o : MarkOrder) (q : Nat) (e : Entry) (i : ImagePart) (v : SetContent)
     (tag : MagazineTag) (s t : State), s.gc.gate = .ready q → s.noStartDue → s.gc.halted = false →
     s.fq.held.any = false → s.headIsFrame = true → s.head? = some e → e.image? = some i →
     (s.setAt i.set).ready? = some v → s.loadedTag? = some tag → v.stock = tag.stock → s.tablesInRange →
     exec (.startOfScanMark ticks m o) s = .next t → t.isLocked = true → t.lasersReady = true →
     ∃ x, t.exposure? = some x ∧ x.startsAs e i v q ∧ t.fetchesFirstLine e i ∧
       (∀ c, x.ctx.latchedFrom c (s.lcu.get c) ∨ x.ctx.latchedFrom c (t.lcu.get c)) ∧
       t.fq = { s.fq with entries := changeAt s.fq.entries 0 (·.withState .exposing) }) ∧
  (∀ (c : Instr) (s t : State), s.exposure? = none → s.noStartDue → s.gateAtExpected → s.tablesInRange →
     exec c s = .next t → t.noStartDue ∧
     ∀ x, t.exposure? = some x → ∃ e i v tag, t.head? = some e ∧ e.state = .exposing ∧ e.leaving = false ∧
       e.image? = some i ∧ (t.setAt i.set).ready? = some v ∧ t.loadedTag? = some tag ∧ v.stock = tag.stock ∧
       x.startsAs e i v t.gc.expected ∧ t.fetchesFirstLine e i ∧ t.stu.idle = .stopped ∧ t.isLocked = true ∧
       t.gc.halted = false ∧ t.fq.held.any = false ∧
       ∀ ch, x.ctx.latchedFrom ch (s.lcu.get ch) ∨ x.ctx.latchedFrom ch (t.lcu.get ch))

/-- A start with stock codes that differ creates no exposure and leaves the gate READY: a STORED head becomes REJECTED
with STOCK_MISMATCH and begins leaving with completion REJECTED; a FLAT head is removed, the rejection record names it,
the queue is held for REJECTED, and ENTRY_REJECTED and QUEUE_HELD are raised. Said of the start that follows a
GATE_READY, of the one that follows a RELEASE, of a FLAT entry submitted into the empty list, whose reply carries the
position 0 at which the entry was placed (DEDUCED, log entry 14), of the end of the write-back of the head with the next
entry STAGED behind it, and of a mark that makes the scanner LOCKED or a channel READY. -/
def Obligations.StockMismatchRejectsHead : Prop :=
  (∀ (a : Addr) (q : Nat) (e : Entry) (i : ImagePart) (v : SetContent) (tag : MagazineTag) (s : State),
     s.takes a = true → roleOf a = .transport → s.gc.gate = .advancing ∨ s.gc.gate = .fault → s.gc.expected ≤ q →
     q < s.capacity → s.fq.held.any = false → s.offersFrame e i v tag → v.stock ≠ tag.stock → s.tablesInRange →
     (∀ e', s.fq.entries[1]? = some e' → e'.rejected? = none) →
     let c : Instr := .gateReady a (.fits q)
     ∃ u : State, exec c s = .next (u.replying c a 0x32 .ok (.gateReady q (q - s.gc.expected))) ∧
       u.gc = { s.gc with gate := .ready q, advance := 0, expected := q } ∧
       u.rm.count = s.rm.count + (q - s.gc.expected) ∧ s.stockRejected u s.fq.held e i) ∧
  (∀ (a : Addr) (q : Nat) (e : Entry) (i : ImagePart) (v : SetContent) (tag : MagazineTag) (s : State),
     s.takes a = true → roleOf a = .job → s.gc.gate = .ready q → s.fq.held.any = true → s.offersFrame e i v tag →
     v.stock ≠ tag.stock → s.tablesInRange → (∀ e', s.fq.entries[1]? = some e' → e'.rejected? = none) →
     let c : Instr := .release a (.fits ())
     ∃ u : State, exec c s = .next (u.replying c a 0x16 .ok (.held s.fq.held)) ∧ u.gc = s.gc ∧ u.rm = s.rm ∧
       s.stockRejected u ⟨false, false, false, false⟩ e i) ∧
  (∀ (a : Addr) (q : Nat) (g : FlatArgs) (v : SetContent) (tag : MagazineTag) (s : State),
     s.takes a = true → roleOf a = .job ∨ roleOf a = .calibration → s.gc.gate = .ready q → s.fq.held.any = false →
     s.fq.entries = [] → s.gc.halted = false → s.isLocked = true → s.lasersReady = true →
     (flatSubmission g).valid = true → g.front = false → (s.setAt g.set).ready? = some v →
     s.loadedTag? = some tag → v.stock ≠ tag.stock →
     let c : Instr := .submitFlat a (.fits g)
     ∃ u : State, exec c s = .next (u.replying c a 0x11 .ok (.bytes (beBytes 2 s.fq.serial.toNat ++ beBytes 1 0))) ∧
       u.gc = s.gc ∧ u.rm = s.rm ∧
       u.fq = ⟨[], { s.fq.held with rejected := true }, some ⟨s.fq.serial, ⟨a.toNat, g.tag⟩, .stockMismatch⟩,
         s.fq.serial + 1⟩ ∧
       (u.setAt g.set).useCount = (s.setAt g.set).useCount ∧
       s.raisedOnly u [.queueEmpty, .queueHeld, .entryRejected]) ∧
  (∀ (control : Byte) (k : Key) (ks : List Key) (e0 e : Entry) (es : List Entry) (j i : ImagePart) (p : StoredPart)
     (q : Nat) (v : SetContent) (tag : MagazineTag) (s : State), s.pins.resetLow = false →
     s.sr.channel.busy = some (.mark control) → control.getLsbD 1 = true → s.sr.wbList = k :: ks →
     s.fq.entries = e0 :: e :: es → e0.key = k → e0.body = .stored j p →
     p.completion = some .exposed ∨ p.completion = some .cancelled → e.key ≠ k → e.state = .staged →
     e.leaving = false → e.image? = some i → s.gc.gate = .ready q → s.gc.halted = false → s.fq.held.any = false →
     s.isLocked = true → s.lasersReady = true → (s.setAt i.set).ready? = some v → s.loadedTag? = some tag →
     v.stock ≠ tag.stock → s.tablesInRange → (∀ e', es.head? = some e' → e'.rejected? = none) →
     ∃ t : State, exec .writeBackMarking s = .next t ∧ t.gc = s.gc ∧ t.rm = s.rm ∧
       (e.isStored = true → t.sr.wbList = ks ++ [e.key] ∧ t.fq.held = s.fq.held ∧
         t.fq.rejection = s.fq.rejection ∧ t.fq.entries.map Entry.key = (e :: es).map Entry.key ∧
         ∃ e', t.head? = some e' ∧ e'.key = e.key ∧ e'.state = .rejected .stockMismatch ∧
           e'.stored?.bind StoredPart.completion = some .rejected) ∧
       (e.isStored = false → t.sr.wbList = ks ∧ t.fq.held = { s.fq.held with rejected := true } ∧
         t.fq.rejection = some ⟨e.serial, e.key, .stockMismatch⟩ ∧
         t.fq.entries.map Entry.key = es.map Entry.key ∧ t.hasLatched .entryRejected ∧ t.hasLatched .queueHeld)) ∧
  (∀ (ticks : Nat) (m : Rgb (BitVec 12)) (o : MarkOrder) (q : Nat) (e : Entry) (i : ImagePart) (v : SetContent)
     (tag : MagazineTag) (s t : State), s.gc.gate = .ready q → s.noStartDue → s.gc.halted = false →
     s.fq.held.any = false → s.headIsFrame = true → s.head? = some e → e.image? = some i →
     (s.setAt i.set).ready? = some v → s.loadedTag? = some tag → v.stock ≠ tag.stock → s.tablesInRange →
     (∀ e', s.fq.entries[1]? = some e' → e'.rejected? = none) →
     exec (.startOfScanMark ticks m o) s = .next t → t.isLocked = true → t.lasersReady = true →
     t.gc = s.gc ∧ t.rm = s.rm ∧ State.stockRejected { s with au := t.au } t s.fq.held e i)

/-- A runout start is taken at the event that makes the last of its conditions true: it appends one BLANK record for
each frame of the runout, as many as the film holds, orders that advance, raises ADVANCE, and lowers the head's count
by as many; at 0 the entry is removed and ENTRY_RETIRED raised. When the film is used up the gate is FILM_OUT, and with
an entry left in the list the queue is held for FILM_END. A port read in flight falls between the records of the event
(log entry 28), and the reply to a submission carries the position at which the entry was placed (DEDUCED, log entry
14). Said of the start that follows a GATE_READY, with its own UNKNOWN records before, a RELEASE, a RESUME, and a SUBMIT_RUNOUT into the
empty list. -/
def Obligations.RunoutStartAppendsBlanks : Prop :=
  (∀ (a : Addr) (q n : Nat) (e : Entry) (tag : MagazineTag) (s : State),
     s.takes a = true → roleOf a = .transport → s.gc.gate = .advancing ∨ s.gc.gate = .fault → s.gc.expected ≤ q →
     q < tag.capacity → s.gc.halted = false → s.fq.held.any = false → s.offersRunout e n tag → s.flatsNotRejected →
     let c : Instr := .gateReady a (.fits q)
     let m := q - s.gc.expected
     ∃ u : State, exec c s = .next (u.replying c a 0x32 .ok (.gateReady q m)) ∧ u.ranOut s.fq.held e n q tag ∧
       (∀ i < m, u.slotHolds (s.gc.expected + i) (unknownRecord (s.gc.expected + i))) ∧
       s.readFalls u s.gc.expected (m + min n (tag.capacity - q))) ∧
  (∀ (a : Addr) (q n : Nat) (e : Entry) (tag : MagazineTag) (s : State),
     s.takes a = true → roleOf a = .job → s.gc.gate = .ready q → s.gateAtExpected → q < tag.capacity →
     s.offersRunout e n tag → s.flatsNotRejected →
     (s.gc.halted = false → s.fq.held.any = true →
       let c : Instr := .release a (.fits ())
       ∃ u : State, exec c s = .next (u.replying c a 0x16 .ok (.held s.fq.held)) ∧
         u.ranOut ⟨false, false, false, false⟩ e n q tag ∧ s.readFalls u q (min n (tag.capacity - q))) ∧
     (s.gc.halted = true → s.pins.estopLow = false → s.fq.held.any = false →
       let c : Instr := .resume a (.fits ())
       ∃ u : State, exec c s = .next (u.replying c a 0x04 .ok .none) ∧ u.gc.halted = false ∧
         u.ranOut s.fq.held e n q tag ∧ s.readFalls u q (min n (tag.capacity - q)))) ∧
  (∀ (a : Addr) (q : Nat) (g : RunoutArgs) (tag : MagazineTag) (s : State),
     s.takes a = true → roleOf a = .job → s.gc.gate = .ready q → s.gateAtExpected → q < tag.capacity →
     tag.capacity ≤ 32768 → s.loadedTag? = some tag → s.positionsAgree → s.memoryCanonical → s.gc.halted = false →
     s.fq.held.any = false → s.fq.entries = [] → (runoutSubmission g).valid = true → g.front = false →
     let c : Instr := .submitRunout a (.fits g)
     let e : Entry := ⟨s.fq.serial, ⟨a.toNat, g.tag⟩, .staged, .runout g.count⟩
     ∃ u : State, exec c s = .next (u.replying c a 0x12 .ok (.bytes (beBytes 2 s.fq.serial.toNat ++ beBytes 1 0))) ∧
       u.ranOut s.fq.held e g.count q tag ∧ u.fq.serial = s.fq.serial + 1 ∧
       s.readFalls u q (min g.count (tag.capacity - q)))

/-- Marks in LOCKED that keep lock move the frame on the film, the lasers staying within their fault bands: a waiting
output takes line 0 at a facet-0 mark that finds it in front of the FIFO and otherwise waits; a line on the film that
is not the last ends with one line step and one count of its kind, and the next line is put out from the FIFO, or
BLANKED with drive 0 when it is not there. A BLANKED line is dropped from production, and its fetch withdrawn: no line
up to it begins any more, the next one begins when it can, and another line in production goes on. -/
def Obligations.LinesFollowMarks : Prop :=
  ∀ (ticks : Nat) (m : Rgb (BitVec 12)) (o : MarkOrder) (x : Exposure) (e : Entry) (i : ImagePart) (s : State),
    s.pins.resetLow = false → s.stu.scanner = .locked →
    (∀ full, s.stu.missing = .running full → 1 ≤ ticks ∧ ticks ≤ full ∧
      (goodPeriod s.stu.settings ticks = true ∨ s.stu.badRun + 1 < 3)) →
    s.exposure? = some x → s.head? = some e → e.image? = some i →
    (∀ c, (s.lcu.get c).state = .ready ∧ beyondFault (s.lcu.get c).settings
      (trackAverage (s.lcu.get c).average (m.get c).toNat (s.lcu.get c).settings.loopShift) = false) →
    let takes : Exposure → LineRecord → State → Exposure → Prop := fun x r t x' =>
      x'.out = .onFilm r.y .exposed ∧ x'.nextOut = r.y + 1 ∧ x'.fifo = x.fifo.tail ∧
      (∀ c, x'.clips.get c = min (x.clips.get c + r.clips.get c) 65535) ∧
      ∀ c, (t.lcu.get c).sweep = ⟨some (s.lcu.get c).settings.refDrive, r.codes.map (Rgb.get · c)⟩
    let bare : State → Prop := fun t => ∀ c, (t.lcu.get c).sweep = ⟨some (s.lcu.get c).settings.refDrive, []⟩
    (x.out = .waiting → ∃ (t : State) (x' : Exposure), exec (.startOfScanMark ticks m o) s = .next t ∧
      t.exposure? = some x' ∧ x'.steps = x.steps ∧ t.pins = s.pins ∧ x'.ctx = x.ctx ∧
      (∀ r, x.fifo.head? = some r → s.stu.facet = some 0 → r.y = 0 → takes x r t x') ∧
      (s.stu.facet ≠ some 0 ∨ (∀ r, x.fifo.head? = some r → r.y ≠ 0) →
        x'.out = .waiting ∧ x'.fifo = x.fifo ∧ x'.clips = x.clips ∧ bare t)) ∧
    (∀ y kind, x.out = .onFilm y kind → y + 1 ≠ i.height → ∃ (t : State) (x' : Exposure),
      exec (.startOfScanMark ticks m o) s = .next t ∧ t.exposure? = some x' ∧
      x'.steps = x.steps + 1 ∧ t.pins = { s.pins with lstep := s.pins.lstep + 1 } ∧
      x'.ctx = (match kind with
        | .exposed => { x.ctx with linesExposed := x.ctx.linesExposed + 1 }
        | .blanked => { x.ctx with linesBlanked := x.ctx.linesBlanked + 1 }) ∧
      (∀ r, x.fifo.head? = some r → r.y = x.nextOut → takes x r t x') ∧
      ((∀ r, x.fifo.head? = some r → r.y ≠ x.nextOut) →
        x'.out = .onFilm x.nextOut .blanked ∧ x'.nextOut = x.nextOut + 1 ∧ x'.fifo = x.fifo ∧ x'.clips = x.clips ∧
        bare t ∧
        let from_ := max x.nextLine (x.nextOut + 1)
        (∀ l, x.line = some l → l.y ≠ x.nextOut → x'.line = some l ∧ x'.nextLine = from_ ∧ t.sr.fetch = s.sr.fetch) ∧
        (x.line = none ∨ (∃ l, x.line = some l ∧ l.y = x.nextOut) →
          (from_ < i.height ∧ x.fifo.length < 4 →
            x'.nextLine = from_ + 1 ∧ ∃ l, x'.line = some l ∧ l.y = from_ ∧ l.clips = ⟨0, 0, 0⟩ ∧
              (e.isStored = true → l.phase = .fetching ∧ ∃ f, t.sr.fetch = some f ∧ f.y = from_) ∧
              ∀ values, e.body = .flat i values → l.phase = .computing (flatSource values)) ∧
          (i.height ≤ from_ ∨ 4 ≤ x.fifo.length → x'.nextLine = from_ ∧ x'.line = none ∧
            ∀ l, x.line = some l → l.phase = .fetching → t.sr.fetch = none))))

/-- The mark that ends line H − 1 ends the frame: one line step, the record with outcome EXPOSED when no line was
blanked and SPOILED UNDERRUN otherwise, the exposure gone, an advance order of 1, the gate ADVANCING or FILM_OUT, and
FRAME_DONE and ADVANCE raised. An EXPOSED frame counts a repeat of the head, which is STAGED again, or retires: a
STORED entry begins leaving with EXPOSED, a FLAT one is removed. A SPOILED one holds the queue and returns the head to
STAGED. When the film is used up with an entry left in the list, the queue is held for FILM_END and FILM_END raised. -/
def Obligations.LastLineEndsFrame : Prop :=
  ∀ (ticks : Nat) (m : Rgb (BitVec 12)) (o : MarkOrder) (x : Exposure) (e : Entry) (i : ImagePart) (kind : LineKind)
    (s : State),
    s.pins.resetLow = false → s.stu.scanner = .locked →
    (∀ full, s.stu.missing = .running full → 1 ≤ ticks ∧ ticks ≤ full ∧
      (goodPeriod s.stu.settings ticks = true ∨ s.stu.badRun + 1 < 3)) →
    s.exposure? = some x → s.head? = some e → e.image? = some i → e.state = .exposing →
    (∀ c, (s.lcu.get c).state = .ready ∧ beyondFault (s.lcu.get c).settings
      (trackAverage (s.lcu.get c).average (m.get c).toNat (s.lcu.get c).settings.loopShift) = false) →
    x.out = .onFilm (i.height - 1) kind → 0 < i.height → s.tablesInRange → s.queueBounded → s.flatsNotRejected →
    let ctx : ExposureContext := match kind with
      | .exposed => { x.ctx with linesExposed := x.ctx.linesExposed + 1 }
      | .blanked => { x.ctx with linesBlanked := x.ctx.linesBlanked + 1 }
    ∃ t : State, exec (.startOfScanMark ticks m o) s = .next t ∧ t.exposure? = none ∧
      t.pins = { s.pins with lstep := s.pins.lstep + 1 } ∧ t.rm.count = s.rm.count + 1 ∧
      t.gc.expected = s.gc.expected + 1 ∧ t.gc.advance = 1 ∧
      t.gc.gate = (if s.lastFrame then .filmOut else .advancing) ∧ t.hasLatched .frameDone ∧ t.hasLatched .advance ∧
      (s.memoryCanonical → s.rm.count < 32768 → t.slotHolds s.rm.count (exposureRecord ctx x.clips
        (if ctx.linesBlanked = 0 then .exposed else .spoiled) (if ctx.linesBlanked = 0 then .none else .underrun))) ∧
      (ctx.linesBlanked ≠ 0 → t.hasLatched .frameSpoiled ∧ t.fq.held.spoiled = true ∧
        t.fq.entries = changeAt s.fq.entries 0 (·.withState .staged)) ∧
      (ctx.linesBlanked = 0 → t.fq.held.spoiled = s.fq.held.spoiled ∧
        (1 < i.remaining ∨ e.isStored = true → ∃ e', t.head? = some e' ∧ e'.key = e.key ∧ e'.state = .staged ∧
          e'.image? = some { i with remaining := i.remaining - 1, exposed := i.exposed + 1 } ∧
          (1 < i.remaining → e'.leaving = e.leaving) ∧
          (i.remaining ≤ 1 → e'.stored?.bind StoredPart.completion = some .exposed)) ∧
        (i.remaining ≤ 1 → e.isStored = false → (∀ e' ∈ t.fq.entries, e'.key ≠ e.key) ∧ t.hasLatched .entryRetired)) ∧
      (s.lastFrame = true → t.fq.entries ≠ [] → t.fq.held.filmEnd = true ∧ t.hasLatched .filmEnd) ∧
      (s.lastFrame = false ∨ t.fq.entries = [] → t.fq.held.filmEnd = s.fq.held.filmEnd)

/-! ### The strip reader and the exposure pipeline -/

/-- A descriptor read of the staging walk of a STAGING entry: the first of the checks it fails (a 17th descriptor,
VALID clear, a length outside 1..134,217,728, a range into the reel-map region, a LAST strip too short or too long)
makes the entry REJECTED with that reason and ends the walk; otherwise the strip joins the walk's list and the entry's
pins, and its bytes are read next. -/
def Obligations.StagingReadsDescriptor : Prop :=
  ∀ (bs : List Byte) (g : Staging) (e : Entry) (s : State), s.pins.resetLow = false →
    s.sr.channel.busy = some (.staging bs) → s.sr.staging = some g → g.place = .descriptor →
    findEntry s.fq.entries g.key = some e → e.isStored = true → e.state = .staging →
    s.noStart = true → s.tablesInRange → s.queueBounded →
    let control := byteField bs 0
    let valid := control.getLsbD 0
    let last := control.getLsbD 1
    let length := beField bs 4 4
    let offset := beField bs 8 4
    let total := g.total + length
    let reason : Option RejectReason :=
      if g.k = 16 then some .stripCount
      else if valid = false ∨ length = 0 ∨ 134217728 < length then some .stripInvalid
      else if 0xFFF00000 < offset + length then some .stripRange
      else if last = true ∧ total < g.expectedLength then some .lengthShort
      else if last = true ∧ g.expectedLength < total then some .lengthLong
      else none
    ∃ t : State, exec .stagingRead s = .next t ∧ t.rm = s.rm ∧ t.dbi = s.dbi ∧ t.lcu = s.lcu ∧
      (∀ r, reason = some r → (∃ e', findEntry t.fq.entries g.key = some e' ∧ e'.state = .rejected r) ∧
        ∀ g', t.sr.staging = some g' → g'.key ≠ g.key) ∧
      (reason = none → t.fq = s.fq ∧ t.au = s.au ∧
        t.sr.staging = some { g with
          strips := g.strips ++ [⟨offset, length, g.total⟩], total := total, place := .strip offset length last } ∧
        (∀ p, s.fmc.pinA = some p → p.key = g.key →
          t.fmc.pinA = some { p with strips := p.strips ++ [⟨offset, length⟩] }) ∧
        (∀ p, s.fmc.pinB = some p → p.key = g.key →
          t.fmc.pinB = some { p with strips := p.strips ++ [⟨offset, length⟩] }))

/-- A read of strip bytes in the staging walk of a STAGING entry: the bytes enter the checksum, the end-around-carry sum
of big-endian words, a byte without a partner being held over for the next read, in whatever strip it lies (within a
strip this is DEDUCED, log entry 24). Within a strip the walk goes on behind them; after a strip that is not LAST it turns to the
next descriptor, or rejects the entry with STRIP_RANGE when that lies in the reel-map region; after the LAST strip the
entry is STAGED with the strip map and the checksum, or REJECTED with CHECKSUM when it expects another. -/
def Obligations.StagingReadsStripBytes : Prop :=
  (∀ (n : Nat) (h b : Byte) (odd : Option Byte) (bs : List Byte),
     sumBytes n odd [] = (n, odd) ∧ sumBytes n none (b :: bs) = sumBytes n (some b) bs ∧
     sumBytes n (some h) (b :: bs) = sumBytes
       (if n + (256 * h.toNat + b.toNat) ≤ 65535 then n + (256 * h.toNat + b.toNat)
         else n + (256 * h.toNat + b.toNat) - 65535) none bs) ∧
  ∀ (bs : List Byte) (g : Staging) (next left : Nat) (last : Bool) (e : Entry) (s : State), s.pins.resetLow = false →
    s.sr.channel.busy = some (.staging bs) → s.sr.staging = some g → g.place = .strip next left last →
    findEntry s.fq.entries g.key = some e → e.isStored = true → e.state = .staging →
    s.noStart = true → s.tablesInRange → s.queueBounded →
    let sum := (sumBytes g.sum g.odd bs).1
    let odd := (sumBytes g.sum g.odd bs).2
    let h : Staging := { g with sum := sum, odd := odd, bytes := g.bytes + bs.length }
    ∃ t : State, exec .stagingRead s = .next t ∧ t.rm = s.rm ∧ t.dbi = s.dbi ∧ t.lcu = s.lcu ∧
      (bs.length < left → t.fq = s.fq ∧
        t.sr.staging = some { h with place := .strip (next + bs.length) (left - bs.length) last }) ∧
      (left ≤ bs.length → last = false → g.tableOffset + 16 * (g.k + 1) < 0xFFF00000 → t.fq = s.fq ∧
        t.sr.staging = some { h with k := g.k + 1, place := .descriptor } ∧
        (∀ p, s.fmc.pinA = some p → p.key = g.key →
          t.fmc.pinA = some { p with table := ⟨p.table.offset, 16 * (g.k + 2)⟩ }) ∧
        (∀ p, s.fmc.pinB = some p → p.key = g.key →
          t.fmc.pinB = some { p with table := ⟨p.table.offset, 16 * (g.k + 2)⟩ })) ∧
      (left ≤ bs.length → last = false → 0xFFF00000 ≤ g.tableOffset + 16 * (g.k + 1) →
        ∃ e', findEntry t.fq.entries g.key = some e' ∧ e'.state = .rejected .stripRange) ∧
      (left ≤ bs.length → last = true → g.expectedSum = none ∨ g.expectedSum.map BitVec.toNat = some sum →
        ∃ e', findEntry t.fq.entries g.key = some e' ∧ e'.state = .staged ∧
          e'.stored? = e.stored?.map (fun p =>
            { p with stripMap := some g.strips, stagedSum := some (BitVec.ofNat 16 sum) })) ∧
      (∀ w : Word16, left ≤ bs.length → last = true → g.expectedSum = some w → w.toNat ≠ sum →
        ∃ e', findEntry t.fq.entries g.key = some e' ∧ e'.state = .rejected .checksum)

/-- A line-fetch read for the frame on the film: its bytes are gathered into pixels, each decoded in its format when its
last byte arrives; while the line is not complete the fetch goes on behind them, in the next item of the strip map when
this one is at its end, and when it holds its W pixels it is handed over, in reversed order with FLIP_H, and the line
moves to COMPUTING. That the bytes count at the
completion is the model's choice (log entry 30). -/
def Obligations.LineFetchHandsOver : Prop :=
  (∀ (bs : List Byte) (f : LineFetch) (x : Exposure) (l : LineProduction) (e : Entry) (i : ImagePart) (p : StoredPart)
     (s : State), s.pins.resetLow = false → s.sr.channel.busy = some (.fetch bs) → s.sr.fetch = some f →
     s.exposure? = some x → x.line = some l → s.head? = some e → e.body = .stored i p →
     let gathered := gatherPixels p.format p.sequence f.carry f.pixels bs
     let pixels := gathered.2
     let ended : Prop := match (p.stripMap.getD [])[f.item]? with
       | some it => it.length ≤ f.within + bs.length
       | none => True
     ∃ t : State, exec .lineFetchRead s = .next t ∧ t.rm = s.rm ∧ t.dbi = s.dbi ∧ t.lcu = s.lcu ∧
       (i.width ≤ pixels.length → t.sr.fetch = none ∧ t.exposure? = some { x with
         line := some { l with phase := .computing (.pixels (if p.flipH then pixels.reverse else pixels)) } }) ∧
       (pixels.length < i.width → t.exposure? = some x ∧
         (ended → t.sr.fetch = some { f with
           carry := gathered.1, pixels := pixels, bytesRead := f.bytesRead + bs.length, item := f.item + 1
           within := 0 }) ∧
         (¬ ended → t.sr.fetch = some { f with
           carry := gathered.1, pixels := pixels, bytesRead := f.bytesRead + bs.length
           within := f.within + bs.length }))) ∧
  (∀ (f : PixelFormat) (q : ChannelSequence) (carry : List Byte) (done : List (Rgb Nat)) (b : Byte) (bs : List Byte),
     let size : Nat := match f with
       | .p16 => 6
       | .p16s => 6
       | .p10 => 4
       | .p10s => 4
     gatherPixels f q carry done [] = (carry, done) ∧
     (carry.length + 1 = size →
       gatherPixels f q carry done (b :: bs) = gatherPixels f q [] (done ++ [decodePixel f q (carry ++ [b])]) bs) ∧
     (carry.length + 1 ≠ size → gatherPixels f q carry done (b :: bs) = gatherPixels f q (carry ++ [b]) done bs)) ∧
  (∀ (a b c d e f : Byte),
     let n : Byte → Nat := BitVec.toNat
     let big := 16777216 * n a + 65536 * n b + 256 * n c + n d
     let little := n a + 256 * n b + 65536 * n c + 16777216 * n d
     let wide : Nat → Nat → Nat := fun w shift => w / 2 ^ shift % 1024 * 64
     decodePixel .p16 .rgb [a, b, c, d, e, f] = ⟨256 * n a + n b, 256 * n c + n d, 256 * n e + n f⟩ ∧
     decodePixel .p16 .bgr [a, b, c, d, e, f] = ⟨256 * n e + n f, 256 * n c + n d, 256 * n a + n b⟩ ∧
     decodePixel .p16s .rgb [a, b, c, d, e, f] = ⟨n a + 256 * n b, n c + 256 * n d, n e + 256 * n f⟩ ∧
     decodePixel .p16s .bgr [a, b, c, d, e, f] = ⟨n e + 256 * n f, n c + 256 * n d, n a + 256 * n b⟩ ∧
     decodePixel .p10 .rgb [a, b, c, d] = ⟨wide big 22, wide big 12, wide big 2⟩ ∧
     decodePixel .p10 .bgr [a, b, c, d] = ⟨wide big 2, wide big 12, wide big 22⟩ ∧
     decodePixel .p10s .rgb [a, b, c, d] = ⟨wide little 22, wide little 12, wide little 2⟩ ∧
     decodePixel .p10s .bgr [a, b, c, d] = ⟨wide little 2, wide little 12, wide little 22⟩)

/-- The end of a line's computation: its record enters the line FIFO behind the others with the line's number, one
drive code triple for each of the W scan positions, each the chain's result for its pixel under the facet gain of y
mod F and the profile gain of its place and none above the latched drive limit, and the counts of clipped positions.
-/
def Obligations.ComputedLineEntersFifo : Prop :=
  ∀ (x : Exposure) (l : LineProduction) (src : LineSource) (e : Entry) (i : ImagePart) (v : SetContent) (s : State),
    s.pins.resetLow = false → s.exposure? = some x → x.line = some l → l.phase = .computing src →
    s.head? = some e → e.image? = some i → (s.setAt x.ctx.set).ready? = some v →
    let code : Nat → Channel → Nat × Bool := fun n c =>
      driveCode ⟨v.curves.get c, v.drives.get c, x.ctx.trims.get c, x.ctx.lights.get c, x.ctx.gains.get c,
          x.ctx.limits.get c⟩
        (s.optics.facet.getD (l.y % s.stu.settings.facetCount) 0)
        (profileGain s.optics.profile (s.optics.centre - i.width / 2 + n)) ((src.at n).get c)
    ∃ (t : State) (x' : Exposure) (r : LineRecord), exec .lineComputed s = .next t ∧ t.exposure? = some x' ∧
      x'.fifo = x.fifo ++ [r] ∧ x'.entered = x.entered + 1 ∧ x'.out = x.out ∧ x'.ctx = x.ctx ∧ x'.clips = x.clips ∧
      r.y = l.y ∧ r.codes.length = i.width ∧
      (∀ n < i.width, ∀ c, (r.codes.getD n ⟨0, 0, 0⟩).get c = (code n c).1) ∧
      (∀ d ∈ r.codes, ∀ c, d.get c ≤ x.ctx.limits.get c) ∧
      (∀ c, r.clips.get c = l.clips.get c + (List.range i.width).countP fun n => (code n c).2) ∧
      t.rm = s.rm ∧ t.dbi = s.dbi ∧ t.lcu = s.lcu ∧ t.pins = s.pins

/-- The completion of a marking of the write-back in progress (its descriptor position has already moved on, log entry
10). Where the marked descriptor is not the walk's last and nothing else waits for the channel, the next descriptor is
marked: VALID clear, DONE set, every other byte of memory as it was. At the last, the entry leaves the list, its pins
are free, its retirement or rejection is completed, and the entry that this brings to position 1 enters the staging
window; the next write-back of the list begins at once with its descriptor 0, where the completion word is written
too, before a staging read asked for at the same event (log entry 29). -/
def Obligations.WriteBackMarksTable : Prop :=
  ∀ (control : Byte) (k : Key) (ks : List Key) (e : Entry) (i : ImagePart) (p : StoredPart) (s : State),
    s.pins.resetLow = false → s.sr.channel.busy = some (.mark control) → s.sr.wbList = k :: ks →
    findEntry s.fq.entries k = some e → e.body = .stored i p → s.noStart = true → s.tablesInRange → s.queueBounded →
    s.lineBegun →
    let address := p.tableOffset + 16 * s.sr.wbPos
    let stops : Prop := control.getLsbD 1 = true ∨ control.getLsbD 0 = false ∨ 16 ≤ s.sr.wbPos ∨ 0xFFF00000 ≤ address
    (¬ stops → p.tableOffset % 16 = 0 → 1 ≤ s.sr.wbPos → s.memoryCanonical → s.sr.channel.waitFetch = false →
      s.sr.channel.waitStage = false → ∃ t : State, exec .writeBackMarking s = .next t ∧
        t.sr.wbList = k :: ks ∧ t.sr.wbPos = s.sr.wbPos + 1 ∧ t.sr.channel.busy = some (.mark (s.readByte address)) ∧
        t.readByte address = (s.readByte address &&& 0xFE) ||| 0x04 ∧
        (∀ b, b ≠ address → t.readByte b = s.readByte b) ∧ t.fq = s.fq ∧ t.rm = s.rm ∧ t.au = s.au) ∧
    (stops → (∀ e' ∈ s.fq.entries, e'.key ≠ k → e'.rejected? = none) → ∃ t : State,
      exec .writeBackMarking s = .next t ∧ t.sr.wbList = ks ∧
      t.fq.entries.map Entry.key = (s.fq.entries.map Entry.key).erase k ∧
      (∀ q, t.holdsPin q → q.key ≠ k) ∧ t.rm = s.rm ∧ t.dbi = s.dbi ∧
      (i.set ≤ 7 → (t.setAt i.set).useCount = (s.setAt i.set).useCount - 1) ∧
      (p.completion = some .exposed → t.hasLatched .entryRetired ∧ t.fq.rejection = s.fq.rejection) ∧
      (p.completion = some .cancelled → t.fq.rejection = s.fq.rejection ∧ t.fq.held = s.fq.held) ∧
      (∀ r, p.completion = some .rejected → e.state = .rejected r → t.fq.rejection = some ⟨e.serial, e.key, r⟩ ∧
        t.fq.held.rejected = true ∧ t.hasLatched .entryRejected) ∧
      (s.pinsInWindow → s.fq.entries[0]? = some e ∨ s.fq.entries[1]? = some e →
        ∀ e2, s.fq.entries[2]? = some e2 → s.sr.staging.map Staging.key ≠ some e2.key → t.windowTook e2) ∧
      (∀ k' ks' e' i' p' c, ks = k' :: ks' → k' ≠ k → findEntry s.fq.entries k' = some e' → e'.body = .stored i' p' →
        p'.completion = some c → p'.tableOffset % 16 = 0 → s.memoryCanonical → s.sr.channel.waitFetch = false →
        s.sr.channel.waitMark = false → s.sr.channel.waitStage = false →
        (s.isExposing = true → ∀ h, s.head? = some h → h.key ≠ k) → s.marksFirst t i' p' c))

/-! ### Arithmetic -/

/-- Node interpolation gives a + floor(((b − a) × f8 + 128) / 256), floor toward minus infinity, and lies between the
two nodes. -/
def Obligations.InterpolationBetweenNodes : Prop :=
  ∀ a b f8 : Nat, f8 ≤ 255 →
    (interpolate a b f8 : Int) = a + Int.fdiv (((b : Int) - a) * f8 + 128) 256 ∧
    min a b ≤ interpolate a b f8 ∧ interpolate a b f8 ≤ max a b ∧ interpolate a b 0 = a

/-- The antilog is 2^24 × 10^((E2 − 65536)/16384) rounded half up, and lies in 1,678..16,774,858. -/
def Obligations.AntilogRoundsHalfUp : Prop :=
  ∀ e2 : Nat, e2 ≤ 65535 →
    (antilog e2 : ℤ) = ⌊(2 : ℝ) ^ (24 : ℕ) * (10 : ℝ) ^ (((e2 : ℝ) - 65536) / 16384) + 1 / 2⌋ ∧
    1678 ≤ antilog e2 ∧ antilog e2 ≤ 16774858

/-- From tables, gains and settings in their ranges every value of the chain lies in its range: the print curve and
the offset in 0..65535, each gain's product at most 16,777,215, the drive code at most 4095 and at most the drive
limit; and a clip is counted at the offset, a gain or the limit exactly where a bound replaces the value. The chain is
the print curve, the offset, the antilog, the facet, profile and power gains, the drive table and the limit, in that
order, and a pixel is clipped when any of them counts one. -/
def Obligations.ChainStaysInRange : Prop :=
  (∀ (curve : List Nat) (v : Nat), curve.length = 257 → (∀ n ∈ curve, n ≤ 65535) → v ≤ 65535 →
    printCurve curve v ≤ 65535) ∧
  (∀ (e : Nat) (trim lights : Int), (offsetExposure e trim lights).1 ≤ 65535 ∧
    ((offsetExposure e trim lights).2 = true ↔ (e : Int) + trim + lights < 0 ∨ 65535 < (e : Int) + trim + lights) ∧
    ((e : Int) + trim + lights < 0 → (offsetExposure e trim lights).1 = 0) ∧
    (65535 < (e : Int) + trim + lights → (offsetExposure e trim lights).1 = 65535) ∧
    ((offsetExposure e trim lights).2 = false → ((offsetExposure e trim lights).1 : Int) = e + trim + lights)) ∧
  (∀ n gain : Nat, (applyGain n gain).1 ≤ 16777215 ∧
    ((applyGain n gain).2 = true ↔ 16777215 < (n * gain + 8192) / 16384) ∧
    ((applyGain n gain).2 = false → (applyGain n gain).1 = (n * gain + 8192) / 16384)) ∧
  (∀ (drive : List Nat) (n : Nat), drive.length = 498 → (∀ d ∈ drive, d ≤ 4095) → n ≤ 16777215 →
    driveTable drive n ≤ 4095) ∧
  (∀ code limit : Nat, (limitDrive code limit).1 = min code limit ∧
    ((limitDrive code limit).2 = true ↔ limit < code)) ∧
  (∀ (o : ChainOperands) (facetGain profGain v : Nat), (driveCode o facetGain profGain v).1 ≤ o.limit) ∧
  (∀ (curve profile drive : List Nat) (v n : Nat),
    printCurve curve v = interpolate (curve.getD (v / 256) 0) (curve.getD (v / 256 + 1) 0) (v % 256) ∧
    profileGain profile v = interpolate (profile.getD (v / 256) 0) (profile.getD (v / 256 + 1) 0) (v % 256) ∧
    (n < 1048576 → driveTable drive n =
      interpolate (drive.getD (n / 4096) 0) (drive.getD (n / 4096 + 1) 0) (n / 16 % 256)) ∧
    (1048576 ≤ n → driveTable drive n =
      interpolate (drive.getD (n / 65536 + 241) 0) (drive.getD (n / 65536 + 242) 0) (n / 256 % 256))) ∧
  (∀ (o : ChainOperands) (facetGain profGain v : Nat),
    let offset := offsetExposure (printCurve o.curve v) o.trim o.lights
    let facet := applyGain (antilog offset.1) facetGain
    let profile := applyGain facet.1 profGain
    let power := applyGain profile.1 o.gain
    let limited := limitDrive (driveTable o.drive power.1) o.limit
    driveCode o facetGain profGain v = (limited.1, offset.2 || facet.2 || profile.2 || power.2 || limited.2))

/-- A frame whose two last bytes are the CRC of those before it, from a sender 1..11, with the payload length its
third byte gives and no more than 48, passes every check of the DBI; the same frame with another CRC fails. On the line
it takes 1 + 10 × (5 + n) bit times, a dominant start mark and then each byte as a character of 10 bits, dominant start
bit, most significant bit first, 0 dominant and 1 recessive, recessive stop bit, never recessive for 10 bit times in a
row; and read back from the line, whatever the line does next, it is the same bytes, received completely. The line is
dominant when any unit drives it so. A reply whose data chapter 12 lays out is sent as such a frame, from the unit
address, with the status byte first in its payload. -/
def Obligations.FrameChecksAcceptCrc : Prop :=
  (∀ (sender target : Addr) (kind : Byte) (payload : List Byte), payload.length ≤ 48 →
    let body := [BitVec.ofNat 8 (16 * sender.toNat + target.toNat), kind, BitVec.ofNat 8 payload.length] ++ payload
    let frame := body ++ beBytes 2 (crc16 body).toNat
    (1 ≤ sender.toNat → sender.toNat ≤ 11 → FrameRx.failure ⟨frame, .complete⟩ = none ∧
      ∀ w : Word16, w ≠ crc16 body → FrameRx.failure ⟨body ++ beBytes 2 w.toNat, .complete⟩ = some .crc) ∧
    (frameLevels frame).length = 1 + 10 * (5 + payload.length) ∧
    (∀ i, i + 10 ≤ (frameLevels frame).length → ∃ j, i ≤ j ∧ j < i + 10 ∧ (frameLevels frame)[j]? = some .dominant) ∧
    ∀ rest : List LineLevel, receiveFrame (frameLevels frame ++ rest) = ⟨frame, .complete⟩) ∧
  (∀ (b : Byte) (bytes : List Byte),
    let level : Nat → LineLevel := fun i => if b.getLsbD i then .recessive else .dominant
    frameLevels [] = [.dominant] ∧ frameLevels (bytes ++ [b]) = frameLevels bytes ++
      [.dominant, level 7, level 6, level 5, level 4, level 3, level 2, level 1, level 0, .recessive]) ∧
  (∀ driven : List LineLevel, lineUnder driven = .dominant ↔ LineLevel.dominant ∈ driven) ∧
  (∀ (r : Reply) (d : List Byte) (s : State), s.dbi.reply = some r → r.data = .bytes d ∨ (r.data = .none ∧ d = []) →
    let body := [BitVec.ofNat 8 (16 * s.dbi.unitAddr + r.target.toNat), r.kind, BitVec.ofNat 8 (1 + d.length),
      r.status.byte] ++ d
    s.replyLevels = some (frameLevels (body ++ beBytes 2 (crc16 body).toNat)))

/-! ### What every step keeps -/

/-- Frame memory, which the model holds as a list of the bytes written (log entry 2), keeps its canonical form:
addresses rising, none beyond the window. -/
def Obligations.StepKeepsMemoryCanonical : Prop :=
  ∀ s t : State, s.memoryCanonical → step s = .next t → t.memoryCanonical

/-- The queue keeps at most 64 entries with keys all different, every set's use count is the number of entries that
name it and only READY sets are named, every strip table lies below the reel-map region, and every pin record held is
one of a STORED entry at position 0 or 1, at most one for each. -/
def Obligations.StepKeepsQueueInvariants : Prop :=
  ∀ s t : State, s.queueBounded ∧ s.useCountsAgree ∧ s.tablesInRange ∧ s.pinsInWindow → step s = .next t →
    t.queueBounded ∧ t.useCountsAgree ∧ t.tablesInRange ∧ t.pinsInWindow

/-- The expected film position stays equal to the record count, a gate that is not NO_FILM has a LOADED magazine, the
frame in the gate stands at the expected position, and no start is left due: a start is taken at the very event that
makes the last of its conditions true. -/
def Obligations.StepKeepsFilmInvariants : Prop :=
  ∀ s t : State, s.positionsAgree ∧ s.filmLoaded ∧ s.gateAtExpected ∧ s.noStartDue → step s = .next t →
    t.positionsAgree ∧ t.filmLoaded ∧ t.gateAtExpected ∧ t.noStartDue

/-- The facet count stays in 4..16 with a known facet counter below it, the channels are OFF while the scanner does
not turn, and an exposure exists only with the scanner LOCKED, three READY channels and the idle timer stopped. -/
def Obligations.StepKeepsScannerInvariants : Prop :=
  ∀ s t : State, s.facetInRange ∧ s.channelsFollowScanner ∧ s.exposureNeedsLock → step s = .next t →
    t.facetInRange ∧ t.channelsFollowScanner ∧ t.exposureNeedsLock

/-- No drive output carries an image code above the limit latched for the frame, nor any code outside an exposure; the
FIFO holds at most 4 lines with the one in production, and the line steps of an exposure equal its completed lines. No
line is left due while the part runs: a line begins at the event that makes its conditions true. -/
def Obligations.StepKeepsOutputInvariants : Prop :=
  ∀ s t : State, s.filmLoaded ∧ s.tablesInRange ∧ s.drivesLimited ∧ s.outputCounts ∧ s.lineBegun →
    step s = .next t → t.filmLoaded ∧ t.tablesInRange ∧ t.drivesLimited ∧ t.outputCounts ∧ t.lineBegun

/-- The map is emptied only by a magazine load and the end of a hard reset: at every other command the record count
does not fall, and the records below it keep their bytes. -/
def Obligations.RecordsStandOnceAppended : Prop :=
  ∀ (c : Instr) (s t : State), s.memoryCanonical → emptiesMap c = false → exec c s = .next t →
    s.rm.count ≤ t.rm.count ∧ ∀ i < s.rm.count, ∀ n < 32, t.readByte (slotOffset i + n) = s.readByte (slotOffset i + n)

/-- At every command but a port write and the end of a hard reset, frame memory below the reel-map region keeps every
byte but the control byte of the descriptor at which a write-back of an entry of the write-back list stands and the
completion word of such an entry's descriptor 0. In the reel-map region every command that does not empty the map
changes only the slots of the records it appends. -/
def Obligations.MemoryChangesOnlyWhereWritten : Prop :=
  ∀ (c : Instr) (s t : State) (b : Nat), (∀ s1 s0, c ≠ .hardResetEnd s1 s0) → (∀ o bs, c ≠ .portWrite o bs) →
    exec c s = .next t →
    (b < 0xFFF00000 →
      (∀ e p, (e ∈ s.fq.entries ∨ e ∈ t.fq.entries) → (e.key ∈ s.sr.wbList ∨ e.key ∈ t.sr.wbList) →
        e.stored? = some p →
        b ≠ p.tableOffset ∧ b ≠ p.tableOffset + 16 * s.sr.wbPos ∧
        ¬ (p.tableOffset + 12 ≤ b ∧ b < p.tableOffset + 16)) →
      t.readByte b = s.readByte b) ∧
    (emptiesMap c = false → 0xFFF00000 ≤ b → b < slotOffset s.rm.count ∨ slotOffset t.rm.count ≤ b →
      t.readByte b = s.readByte b)

/-- A latched event stays latched until an acknowledgement, a binding of the line, a recorder reset or the end of a
hard reset. -/
def Obligations.EventsStayLatched : Prop :=
  ∀ (c : Instr) (s t : State) (n : Fin 4) (b : Nat), clearsEvents c = false → exec c s = .next t →
    (s.au[n]).latched.getLsbD b = true → (t.au[n]).latched.getLsbD b = true

end
end

