-- ==== Sys2Proof/Laws/State.lean ====
section
/-! SUPPORT. One lemma per field per update of State: what an update of one block leaves in every block. -/

namespace Sys2Proof.Machine

@[simp] theorem State.withDbi_dbi (s : State) (v : DeckBus) : (s.withDbi v).dbi = v := rfl
@[simp] theorem State.withDbi_port (s : State) (v : DeckBus) : (s.withDbi v).port = s.port := rfl
@[simp] theorem State.withDbi_fmc (s : State) (v : DeckBus) : (s.withDbi v).fmc = s.fmc := rfl
@[simp] theorem State.withDbi_fq (s : State) (v : DeckBus) : (s.withDbi v).fq = s.fq := rfl
@[simp] theorem State.withDbi_sr (s : State) (v : DeckBus) : (s.withDbi v).sr = s.sr := rfl
@[simp] theorem State.withDbi_optics (s : State) (v : DeckBus) : (s.withDbi v).optics = s.optics := rfl
@[simp] theorem State.withDbi_cs (s : State) (v : DeckBus) : (s.withDbi v).cs = s.cs := rfl
@[simp] theorem State.withDbi_stu (s : State) (v : DeckBus) : (s.withDbi v).stu = s.stu := rfl
@[simp] theorem State.withDbi_lcu (s : State) (v : DeckBus) : (s.withDbi v).lcu = s.lcu := rfl
@[simp] theorem State.withDbi_gc (s : State) (v : DeckBus) : (s.withDbi v).gc = s.gc := rfl
@[simp] theorem State.withDbi_rm (s : State) (v : DeckBus) : (s.withDbi v).rm = s.rm := rfl
@[simp] theorem State.withDbi_au (s : State) (v : DeckBus) : (s.withDbi v).au = s.au := rfl
@[simp] theorem State.withDbi_pins (s : State) (v : DeckBus) : (s.withDbi v).pins = s.pins := rfl
@[simp] theorem State.withDbi_free (s : State) (v : DeckBus) : (s.withDbi v).free = s.free := rfl
@[simp] theorem State.withDbi_pending (s : State) (v : DeckBus) : (s.withDbi v).pending = s.pending := rfl

@[simp] theorem State.withPort_dbi (s : State) (v : FramePort) : (s.withPort v).dbi = s.dbi := rfl
@[simp] theorem State.withPort_port (s : State) (v : FramePort) : (s.withPort v).port = v := rfl
@[simp] theorem State.withPort_fmc (s : State) (v : FramePort) : (s.withPort v).fmc = s.fmc := rfl
@[simp] theorem State.withPort_fq (s : State) (v : FramePort) : (s.withPort v).fq = s.fq := rfl
@[simp] theorem State.withPort_sr (s : State) (v : FramePort) : (s.withPort v).sr = s.sr := rfl
@[simp] theorem State.withPort_optics (s : State) (v : FramePort) : (s.withPort v).optics = s.optics := rfl
@[simp] theorem State.withPort_cs (s : State) (v : FramePort) : (s.withPort v).cs = s.cs := rfl
@[simp] theorem State.withPort_stu (s : State) (v : FramePort) : (s.withPort v).stu = s.stu := rfl
@[simp] theorem State.withPort_lcu (s : State) (v : FramePort) : (s.withPort v).lcu = s.lcu := rfl
@[simp] theorem State.withPort_gc (s : State) (v : FramePort) : (s.withPort v).gc = s.gc := rfl
@[simp] theorem State.withPort_rm (s : State) (v : FramePort) : (s.withPort v).rm = s.rm := rfl
@[simp] theorem State.withPort_au (s : State) (v : FramePort) : (s.withPort v).au = s.au := rfl
@[simp] theorem State.withPort_pins (s : State) (v : FramePort) : (s.withPort v).pins = s.pins := rfl
@[simp] theorem State.withPort_free (s : State) (v : FramePort) : (s.withPort v).free = s.free := rfl
@[simp] theorem State.withPort_pending (s : State) (v : FramePort) : (s.withPort v).pending = s.pending := rfl

@[simp] theorem State.withFmc_dbi (s : State) (v : MemoryController) : (s.withFmc v).dbi = s.dbi := rfl
@[simp] theorem State.withFmc_port (s : State) (v : MemoryController) : (s.withFmc v).port = s.port := rfl
@[simp] theorem State.withFmc_fmc (s : State) (v : MemoryController) : (s.withFmc v).fmc = v := rfl
@[simp] theorem State.withFmc_fq (s : State) (v : MemoryController) : (s.withFmc v).fq = s.fq := rfl
@[simp] theorem State.withFmc_sr (s : State) (v : MemoryController) : (s.withFmc v).sr = s.sr := rfl
@[simp] theorem State.withFmc_optics (s : State) (v : MemoryController) : (s.withFmc v).optics = s.optics := rfl
@[simp] theorem State.withFmc_cs (s : State) (v : MemoryController) : (s.withFmc v).cs = s.cs := rfl
@[simp] theorem State.withFmc_stu (s : State) (v : MemoryController) : (s.withFmc v).stu = s.stu := rfl
@[simp] theorem State.withFmc_lcu (s : State) (v : MemoryController) : (s.withFmc v).lcu = s.lcu := rfl
@[simp] theorem State.withFmc_gc (s : State) (v : MemoryController) : (s.withFmc v).gc = s.gc := rfl
@[simp] theorem State.withFmc_rm (s : State) (v : MemoryController) : (s.withFmc v).rm = s.rm := rfl
@[simp] theorem State.withFmc_au (s : State) (v : MemoryController) : (s.withFmc v).au = s.au := rfl
@[simp] theorem State.withFmc_pins (s : State) (v : MemoryController) : (s.withFmc v).pins = s.pins := rfl
@[simp] theorem State.withFmc_free (s : State) (v : MemoryController) : (s.withFmc v).free = s.free := rfl
@[simp] theorem State.withFmc_pending (s : State) (v : MemoryController) : (s.withFmc v).pending = s.pending := rfl

@[simp] theorem State.withFq_dbi (s : State) (v : FrameQueue) : (s.withFq v).dbi = s.dbi := rfl
@[simp] theorem State.withFq_port (s : State) (v : FrameQueue) : (s.withFq v).port = s.port := rfl
@[simp] theorem State.withFq_fmc (s : State) (v : FrameQueue) : (s.withFq v).fmc = s.fmc := rfl
@[simp] theorem State.withFq_fq (s : State) (v : FrameQueue) : (s.withFq v).fq = v := rfl
@[simp] theorem State.withFq_sr (s : State) (v : FrameQueue) : (s.withFq v).sr = s.sr := rfl
@[simp] theorem State.withFq_optics (s : State) (v : FrameQueue) : (s.withFq v).optics = s.optics := rfl
@[simp] theorem State.withFq_cs (s : State) (v : FrameQueue) : (s.withFq v).cs = s.cs := rfl
@[simp] theorem State.withFq_stu (s : State) (v : FrameQueue) : (s.withFq v).stu = s.stu := rfl
@[simp] theorem State.withFq_lcu (s : State) (v : FrameQueue) : (s.withFq v).lcu = s.lcu := rfl
@[simp] theorem State.withFq_gc (s : State) (v : FrameQueue) : (s.withFq v).gc = s.gc := rfl
@[simp] theorem State.withFq_rm (s : State) (v : FrameQueue) : (s.withFq v).rm = s.rm := rfl
@[simp] theorem State.withFq_au (s : State) (v : FrameQueue) : (s.withFq v).au = s.au := rfl
@[simp] theorem State.withFq_pins (s : State) (v : FrameQueue) : (s.withFq v).pins = s.pins := rfl
@[simp] theorem State.withFq_free (s : State) (v : FrameQueue) : (s.withFq v).free = s.free := rfl
@[simp] theorem State.withFq_pending (s : State) (v : FrameQueue) : (s.withFq v).pending = s.pending := rfl

@[simp] theorem State.withSr_dbi (s : State) (v : StripReader) : (s.withSr v).dbi = s.dbi := rfl
@[simp] theorem State.withSr_port (s : State) (v : StripReader) : (s.withSr v).port = s.port := rfl
@[simp] theorem State.withSr_fmc (s : State) (v : StripReader) : (s.withSr v).fmc = s.fmc := rfl
@[simp] theorem State.withSr_fq (s : State) (v : StripReader) : (s.withSr v).fq = s.fq := rfl
@[simp] theorem State.withSr_sr (s : State) (v : StripReader) : (s.withSr v).sr = v := rfl
@[simp] theorem State.withSr_optics (s : State) (v : StripReader) : (s.withSr v).optics = s.optics := rfl
@[simp] theorem State.withSr_cs (s : State) (v : StripReader) : (s.withSr v).cs = s.cs := rfl
@[simp] theorem State.withSr_stu (s : State) (v : StripReader) : (s.withSr v).stu = s.stu := rfl
@[simp] theorem State.withSr_lcu (s : State) (v : StripReader) : (s.withSr v).lcu = s.lcu := rfl
@[simp] theorem State.withSr_gc (s : State) (v : StripReader) : (s.withSr v).gc = s.gc := rfl
@[simp] theorem State.withSr_rm (s : State) (v : StripReader) : (s.withSr v).rm = s.rm := rfl
@[simp] theorem State.withSr_au (s : State) (v : StripReader) : (s.withSr v).au = s.au := rfl
@[simp] theorem State.withSr_pins (s : State) (v : StripReader) : (s.withSr v).pins = s.pins := rfl
@[simp] theorem State.withSr_free (s : State) (v : StripReader) : (s.withSr v).free = s.free := rfl
@[simp] theorem State.withSr_pending (s : State) (v : StripReader) : (s.withSr v).pending = s.pending := rfl

@[simp] theorem State.withOptics_dbi (s : State) (v : Optics) : (s.withOptics v).dbi = s.dbi := rfl
@[simp] theorem State.withOptics_port (s : State) (v : Optics) : (s.withOptics v).port = s.port := rfl
@[simp] theorem State.withOptics_fmc (s : State) (v : Optics) : (s.withOptics v).fmc = s.fmc := rfl
@[simp] theorem State.withOptics_fq (s : State) (v : Optics) : (s.withOptics v).fq = s.fq := rfl
@[simp] theorem State.withOptics_sr (s : State) (v : Optics) : (s.withOptics v).sr = s.sr := rfl
@[simp] theorem State.withOptics_optics (s : State) (v : Optics) : (s.withOptics v).optics = v := rfl
@[simp] theorem State.withOptics_cs (s : State) (v : Optics) : (s.withOptics v).cs = s.cs := rfl
@[simp] theorem State.withOptics_stu (s : State) (v : Optics) : (s.withOptics v).stu = s.stu := rfl
@[simp] theorem State.withOptics_lcu (s : State) (v : Optics) : (s.withOptics v).lcu = s.lcu := rfl
@[simp] theorem State.withOptics_gc (s : State) (v : Optics) : (s.withOptics v).gc = s.gc := rfl
@[simp] theorem State.withOptics_rm (s : State) (v : Optics) : (s.withOptics v).rm = s.rm := rfl
@[simp] theorem State.withOptics_au (s : State) (v : Optics) : (s.withOptics v).au = s.au := rfl
@[simp] theorem State.withOptics_pins (s : State) (v : Optics) : (s.withOptics v).pins = s.pins := rfl
@[simp] theorem State.withOptics_free (s : State) (v : Optics) : (s.withOptics v).free = s.free := rfl
@[simp] theorem State.withOptics_pending (s : State) (v : Optics) : (s.withOptics v).pending = s.pending := rfl

@[simp] theorem State.withCs_dbi (s : State) (v : Vector SetRecord 8) : (s.withCs v).dbi = s.dbi := rfl
@[simp] theorem State.withCs_port (s : State) (v : Vector SetRecord 8) : (s.withCs v).port = s.port := rfl
@[simp] theorem State.withCs_fmc (s : State) (v : Vector SetRecord 8) : (s.withCs v).fmc = s.fmc := rfl
@[simp] theorem State.withCs_fq (s : State) (v : Vector SetRecord 8) : (s.withCs v).fq = s.fq := rfl
@[simp] theorem State.withCs_sr (s : State) (v : Vector SetRecord 8) : (s.withCs v).sr = s.sr := rfl
@[simp] theorem State.withCs_optics (s : State) (v : Vector SetRecord 8) : (s.withCs v).optics = s.optics := rfl
@[simp] theorem State.withCs_cs (s : State) (v : Vector SetRecord 8) : (s.withCs v).cs = v := rfl
@[simp] theorem State.withCs_stu (s : State) (v : Vector SetRecord 8) : (s.withCs v).stu = s.stu := rfl
@[simp] theorem State.withCs_lcu (s : State) (v : Vector SetRecord 8) : (s.withCs v).lcu = s.lcu := rfl
@[simp] theorem State.withCs_gc (s : State) (v : Vector SetRecord 8) : (s.withCs v).gc = s.gc := rfl
@[simp] theorem State.withCs_rm (s : State) (v : Vector SetRecord 8) : (s.withCs v).rm = s.rm := rfl
@[simp] theorem State.withCs_au (s : State) (v : Vector SetRecord 8) : (s.withCs v).au = s.au := rfl
@[simp] theorem State.withCs_pins (s : State) (v : Vector SetRecord 8) : (s.withCs v).pins = s.pins := rfl
@[simp] theorem State.withCs_free (s : State) (v : Vector SetRecord 8) : (s.withCs v).free = s.free := rfl
@[simp] theorem State.withCs_pending (s : State) (v : Vector SetRecord 8) : (s.withCs v).pending = s.pending := rfl

@[simp] theorem State.withStu_dbi (s : State) (v : ScanTiming) : (s.withStu v).dbi = s.dbi := rfl
@[simp] theorem State.withStu_port (s : State) (v : ScanTiming) : (s.withStu v).port = s.port := rfl
@[simp] theorem State.withStu_fmc (s : State) (v : ScanTiming) : (s.withStu v).fmc = s.fmc := rfl
@[simp] theorem State.withStu_fq (s : State) (v : ScanTiming) : (s.withStu v).fq = s.fq := rfl
@[simp] theorem State.withStu_sr (s : State) (v : ScanTiming) : (s.withStu v).sr = s.sr := rfl
@[simp] theorem State.withStu_optics (s : State) (v : ScanTiming) : (s.withStu v).optics = s.optics := rfl
@[simp] theorem State.withStu_cs (s : State) (v : ScanTiming) : (s.withStu v).cs = s.cs := rfl
@[simp] theorem State.withStu_stu (s : State) (v : ScanTiming) : (s.withStu v).stu = v := rfl
@[simp] theorem State.withStu_lcu (s : State) (v : ScanTiming) : (s.withStu v).lcu = s.lcu := rfl
@[simp] theorem State.withStu_gc (s : State) (v : ScanTiming) : (s.withStu v).gc = s.gc := rfl
@[simp] theorem State.withStu_rm (s : State) (v : ScanTiming) : (s.withStu v).rm = s.rm := rfl
@[simp] theorem State.withStu_au (s : State) (v : ScanTiming) : (s.withStu v).au = s.au := rfl
@[simp] theorem State.withStu_pins (s : State) (v : ScanTiming) : (s.withStu v).pins = s.pins := rfl
@[simp] theorem State.withStu_free (s : State) (v : ScanTiming) : (s.withStu v).free = s.free := rfl
@[simp] theorem State.withStu_pending (s : State) (v : ScanTiming) : (s.withStu v).pending = s.pending := rfl

@[simp] theorem State.withLcu_dbi (s : State) (v : Rgb LaserUnit) : (s.withLcu v).dbi = s.dbi := rfl
@[simp] theorem State.withLcu_port (s : State) (v : Rgb LaserUnit) : (s.withLcu v).port = s.port := rfl
@[simp] theorem State.withLcu_fmc (s : State) (v : Rgb LaserUnit) : (s.withLcu v).fmc = s.fmc := rfl
@[simp] theorem State.withLcu_fq (s : State) (v : Rgb LaserUnit) : (s.withLcu v).fq = s.fq := rfl
@[simp] theorem State.withLcu_sr (s : State) (v : Rgb LaserUnit) : (s.withLcu v).sr = s.sr := rfl
@[simp] theorem State.withLcu_optics (s : State) (v : Rgb LaserUnit) : (s.withLcu v).optics = s.optics := rfl
@[simp] theorem State.withLcu_cs (s : State) (v : Rgb LaserUnit) : (s.withLcu v).cs = s.cs := rfl
@[simp] theorem State.withLcu_stu (s : State) (v : Rgb LaserUnit) : (s.withLcu v).stu = s.stu := rfl
@[simp] theorem State.withLcu_lcu (s : State) (v : Rgb LaserUnit) : (s.withLcu v).lcu = v := rfl
@[simp] theorem State.withLcu_gc (s : State) (v : Rgb LaserUnit) : (s.withLcu v).gc = s.gc := rfl
@[simp] theorem State.withLcu_rm (s : State) (v : Rgb LaserUnit) : (s.withLcu v).rm = s.rm := rfl
@[simp] theorem State.withLcu_au (s : State) (v : Rgb LaserUnit) : (s.withLcu v).au = s.au := rfl
@[simp] theorem State.withLcu_pins (s : State) (v : Rgb LaserUnit) : (s.withLcu v).pins = s.pins := rfl
@[simp] theorem State.withLcu_free (s : State) (v : Rgb LaserUnit) : (s.withLcu v).free = s.free := rfl
@[simp] theorem State.withLcu_pending (s : State) (v : Rgb LaserUnit) : (s.withLcu v).pending = s.pending := rfl

@[simp] theorem State.withGc_dbi (s : State) (v : GateController) : (s.withGc v).dbi = s.dbi := rfl
@[simp] theorem State.withGc_port (s : State) (v : GateController) : (s.withGc v).port = s.port := rfl
@[simp] theorem State.withGc_fmc (s : State) (v : GateController) : (s.withGc v).fmc = s.fmc := rfl
@[simp] theorem State.withGc_fq (s : State) (v : GateController) : (s.withGc v).fq = s.fq := rfl
@[simp] theorem State.withGc_sr (s : State) (v : GateController) : (s.withGc v).sr = s.sr := rfl
@[simp] theorem State.withGc_optics (s : State) (v : GateController) : (s.withGc v).optics = s.optics := rfl
@[simp] theorem State.withGc_cs (s : State) (v : GateController) : (s.withGc v).cs = s.cs := rfl
@[simp] theorem State.withGc_stu (s : State) (v : GateController) : (s.withGc v).stu = s.stu := rfl
@[simp] theorem State.withGc_lcu (s : State) (v : GateController) : (s.withGc v).lcu = s.lcu := rfl
@[simp] theorem State.withGc_gc (s : State) (v : GateController) : (s.withGc v).gc = v := rfl
@[simp] theorem State.withGc_rm (s : State) (v : GateController) : (s.withGc v).rm = s.rm := rfl
@[simp] theorem State.withGc_au (s : State) (v : GateController) : (s.withGc v).au = s.au := rfl
@[simp] theorem State.withGc_pins (s : State) (v : GateController) : (s.withGc v).pins = s.pins := rfl
@[simp] theorem State.withGc_free (s : State) (v : GateController) : (s.withGc v).free = s.free := rfl
@[simp] theorem State.withGc_pending (s : State) (v : GateController) : (s.withGc v).pending = s.pending := rfl

@[simp] theorem State.withRm_dbi (s : State) (v : ReelMap) : (s.withRm v).dbi = s.dbi := rfl
@[simp] theorem State.withRm_port (s : State) (v : ReelMap) : (s.withRm v).port = s.port := rfl
@[simp] theorem State.withRm_fmc (s : State) (v : ReelMap) : (s.withRm v).fmc = s.fmc := rfl
@[simp] theorem State.withRm_fq (s : State) (v : ReelMap) : (s.withRm v).fq = s.fq := rfl
@[simp] theorem State.withRm_sr (s : State) (v : ReelMap) : (s.withRm v).sr = s.sr := rfl
@[simp] theorem State.withRm_optics (s : State) (v : ReelMap) : (s.withRm v).optics = s.optics := rfl
@[simp] theorem State.withRm_cs (s : State) (v : ReelMap) : (s.withRm v).cs = s.cs := rfl
@[simp] theorem State.withRm_stu (s : State) (v : ReelMap) : (s.withRm v).stu = s.stu := rfl
@[simp] theorem State.withRm_lcu (s : State) (v : ReelMap) : (s.withRm v).lcu = s.lcu := rfl
@[simp] theorem State.withRm_gc (s : State) (v : ReelMap) : (s.withRm v).gc = s.gc := rfl
@[simp] theorem State.withRm_rm (s : State) (v : ReelMap) : (s.withRm v).rm = v := rfl
@[simp] theorem State.withRm_au (s : State) (v : ReelMap) : (s.withRm v).au = s.au := rfl
@[simp] theorem State.withRm_pins (s : State) (v : ReelMap) : (s.withRm v).pins = s.pins := rfl
@[simp] theorem State.withRm_free (s : State) (v : ReelMap) : (s.withRm v).free = s.free := rfl
@[simp] theorem State.withRm_pending (s : State) (v : ReelMap) : (s.withRm v).pending = s.pending := rfl

@[simp] theorem State.withAu_dbi (s : State) (v : Vector AttentionLine 4) : (s.withAu v).dbi = s.dbi := rfl
@[simp] theorem State.withAu_port (s : State) (v : Vector AttentionLine 4) : (s.withAu v).port = s.port := rfl
@[simp] theorem State.withAu_fmc (s : State) (v : Vector AttentionLine 4) : (s.withAu v).fmc = s.fmc := rfl
@[simp] theorem State.withAu_fq (s : State) (v : Vector AttentionLine 4) : (s.withAu v).fq = s.fq := rfl
@[simp] theorem State.withAu_sr (s : State) (v : Vector AttentionLine 4) : (s.withAu v).sr = s.sr := rfl
@[simp] theorem State.withAu_optics (s : State) (v : Vector AttentionLine 4) : (s.withAu v).optics = s.optics := rfl
@[simp] theorem State.withAu_cs (s : State) (v : Vector AttentionLine 4) : (s.withAu v).cs = s.cs := rfl
@[simp] theorem State.withAu_stu (s : State) (v : Vector AttentionLine 4) : (s.withAu v).stu = s.stu := rfl
@[simp] theorem State.withAu_lcu (s : State) (v : Vector AttentionLine 4) : (s.withAu v).lcu = s.lcu := rfl
@[simp] theorem State.withAu_gc (s : State) (v : Vector AttentionLine 4) : (s.withAu v).gc = s.gc := rfl
@[simp] theorem State.withAu_rm (s : State) (v : Vector AttentionLine 4) : (s.withAu v).rm = s.rm := rfl
@[simp] theorem State.withAu_au (s : State) (v : Vector AttentionLine 4) : (s.withAu v).au = v := rfl
@[simp] theorem State.withAu_pins (s : State) (v : Vector AttentionLine 4) : (s.withAu v).pins = s.pins := rfl
@[simp] theorem State.withAu_free (s : State) (v : Vector AttentionLine 4) : (s.withAu v).free = s.free := rfl
@[simp] theorem State.withAu_pending (s : State) (v : Vector AttentionLine 4) : (s.withAu v).pending = s.pending := rfl

@[simp] theorem State.withPins_dbi (s : State) (v : Pins) : (s.withPins v).dbi = s.dbi := rfl
@[simp] theorem State.withPins_port (s : State) (v : Pins) : (s.withPins v).port = s.port := rfl
@[simp] theorem State.withPins_fmc (s : State) (v : Pins) : (s.withPins v).fmc = s.fmc := rfl
@[simp] theorem State.withPins_fq (s : State) (v : Pins) : (s.withPins v).fq = s.fq := rfl
@[simp] theorem State.withPins_sr (s : State) (v : Pins) : (s.withPins v).sr = s.sr := rfl
@[simp] theorem State.withPins_optics (s : State) (v : Pins) : (s.withPins v).optics = s.optics := rfl
@[simp] theorem State.withPins_cs (s : State) (v : Pins) : (s.withPins v).cs = s.cs := rfl
@[simp] theorem State.withPins_stu (s : State) (v : Pins) : (s.withPins v).stu = s.stu := rfl
@[simp] theorem State.withPins_lcu (s : State) (v : Pins) : (s.withPins v).lcu = s.lcu := rfl
@[simp] theorem State.withPins_gc (s : State) (v : Pins) : (s.withPins v).gc = s.gc := rfl
@[simp] theorem State.withPins_rm (s : State) (v : Pins) : (s.withPins v).rm = s.rm := rfl
@[simp] theorem State.withPins_au (s : State) (v : Pins) : (s.withPins v).au = s.au := rfl
@[simp] theorem State.withPins_pins (s : State) (v : Pins) : (s.withPins v).pins = v := rfl
@[simp] theorem State.withPins_free (s : State) (v : Pins) : (s.withPins v).free = s.free := rfl
@[simp] theorem State.withPins_pending (s : State) (v : Pins) : (s.withPins v).pending = s.pending := rfl

@[simp] theorem State.withFree_dbi (s : State) (v : Nat) : (s.withFree v).dbi = s.dbi := rfl
@[simp] theorem State.withFree_port (s : State) (v : Nat) : (s.withFree v).port = s.port := rfl
@[simp] theorem State.withFree_fmc (s : State) (v : Nat) : (s.withFree v).fmc = s.fmc := rfl
@[simp] theorem State.withFree_fq (s : State) (v : Nat) : (s.withFree v).fq = s.fq := rfl
@[simp] theorem State.withFree_sr (s : State) (v : Nat) : (s.withFree v).sr = s.sr := rfl
@[simp] theorem State.withFree_optics (s : State) (v : Nat) : (s.withFree v).optics = s.optics := rfl
@[simp] theorem State.withFree_cs (s : State) (v : Nat) : (s.withFree v).cs = s.cs := rfl
@[simp] theorem State.withFree_stu (s : State) (v : Nat) : (s.withFree v).stu = s.stu := rfl
@[simp] theorem State.withFree_lcu (s : State) (v : Nat) : (s.withFree v).lcu = s.lcu := rfl
@[simp] theorem State.withFree_gc (s : State) (v : Nat) : (s.withFree v).gc = s.gc := rfl
@[simp] theorem State.withFree_rm (s : State) (v : Nat) : (s.withFree v).rm = s.rm := rfl
@[simp] theorem State.withFree_au (s : State) (v : Nat) : (s.withFree v).au = s.au := rfl
@[simp] theorem State.withFree_pins (s : State) (v : Nat) : (s.withFree v).pins = s.pins := rfl
@[simp] theorem State.withFree_free (s : State) (v : Nat) : (s.withFree v).free = v := rfl
@[simp] theorem State.withFree_pending (s : State) (v : Nat) : (s.withFree v).pending = s.pending := rfl

@[simp] theorem State.withPending_dbi (s : State) (v : List Instr) : (s.withPending v).dbi = s.dbi := rfl
@[simp] theorem State.withPending_port (s : State) (v : List Instr) : (s.withPending v).port = s.port := rfl
@[simp] theorem State.withPending_fmc (s : State) (v : List Instr) : (s.withPending v).fmc = s.fmc := rfl
@[simp] theorem State.withPending_fq (s : State) (v : List Instr) : (s.withPending v).fq = s.fq := rfl
@[simp] theorem State.withPending_sr (s : State) (v : List Instr) : (s.withPending v).sr = s.sr := rfl
@[simp] theorem State.withPending_optics (s : State) (v : List Instr) : (s.withPending v).optics = s.optics := rfl
@[simp] theorem State.withPending_cs (s : State) (v : List Instr) : (s.withPending v).cs = s.cs := rfl
@[simp] theorem State.withPending_stu (s : State) (v : List Instr) : (s.withPending v).stu = s.stu := rfl
@[simp] theorem State.withPending_lcu (s : State) (v : List Instr) : (s.withPending v).lcu = s.lcu := rfl
@[simp] theorem State.withPending_gc (s : State) (v : List Instr) : (s.withPending v).gc = s.gc := rfl
@[simp] theorem State.withPending_rm (s : State) (v : List Instr) : (s.withPending v).rm = s.rm := rfl
@[simp] theorem State.withPending_au (s : State) (v : List Instr) : (s.withPending v).au = s.au := rfl
@[simp] theorem State.withPending_pins (s : State) (v : List Instr) : (s.withPending v).pins = s.pins := rfl
@[simp] theorem State.withPending_free (s : State) (v : List Instr) : (s.withPending v).free = s.free := rfl
@[simp] theorem State.withPending_pending (s : State) (v : List Instr) : (s.withPending v).pending = v := rfl

end Sys2Proof.Machine
end

