-- ==== Sys2Proof/Laws/Frames.lean ====
section
/-! SUPPORT. What each shared operation leaves alone, said once and in the simp set: the blocks outside the core
(deck bus, port, optics, free-value counter, queue of commands) as outer, the gate controller and the reel map as
film, and the scan timing unit, the laser channel units and the pins. -/

namespace Sys2Proof.Machine

/-- The parts that only messages, port accesses and resets write. -/
def State.outer (s : State) : DeckBus × FramePort × Optics × Nat × List Instr :=
  (s.dbi, s.port, s.optics, s.free, s.pending)

/-- The same but for the port, which an append of several records may serve a read of (R176). -/
def State.bus (s : State) : DeckBus × Optics × Nat × List Instr := (s.outer.1, s.outer.2.2)

/-- The gate controller and the reel map. -/
def State.film (s : State) : GateController × ReelMap := (s.gc, s.rm)

@[simp] theorem State.withFmc_outer (s : State) (v : MemoryController) : (s.withFmc v).outer = s.outer := rfl
@[simp] theorem State.withFmc_film (s : State) (v : MemoryController) : (s.withFmc v).film = s.film := rfl
@[simp] theorem State.withFq_outer (s : State) (v : FrameQueue) : (s.withFq v).outer = s.outer := rfl
@[simp] theorem State.withFq_film (s : State) (v : FrameQueue) : (s.withFq v).film = s.film := rfl
@[simp] theorem State.withSr_outer (s : State) (v : StripReader) : (s.withSr v).outer = s.outer := rfl
@[simp] theorem State.withSr_film (s : State) (v : StripReader) : (s.withSr v).film = s.film := rfl
@[simp] theorem State.withCs_outer (s : State) (v : Vector SetRecord 8) : (s.withCs v).outer = s.outer := rfl
@[simp] theorem State.withCs_film (s : State) (v : Vector SetRecord 8) : (s.withCs v).film = s.film := rfl
@[simp] theorem State.withStu_outer (s : State) (v : ScanTiming) : (s.withStu v).outer = s.outer := rfl
@[simp] theorem State.withStu_film (s : State) (v : ScanTiming) : (s.withStu v).film = s.film := rfl
@[simp] theorem State.withLcu_outer (s : State) (v : Rgb LaserUnit) : (s.withLcu v).outer = s.outer := rfl
@[simp] theorem State.withLcu_film (s : State) (v : Rgb LaserUnit) : (s.withLcu v).film = s.film := rfl
@[simp] theorem State.withGc_outer (s : State) (v : GateController) : (s.withGc v).outer = s.outer := rfl
@[simp] theorem State.withRm_outer (s : State) (v : ReelMap) : (s.withRm v).outer = s.outer := rfl
@[simp] theorem State.withAu_outer (s : State) (v : Vector AttentionLine 4) : (s.withAu v).outer = s.outer := rfl
@[simp] theorem State.withAu_film (s : State) (v : Vector AttentionLine 4) : (s.withAu v).film = s.film := rfl
@[simp] theorem State.withPins_outer (s : State) (v : Pins) : (s.withPins v).outer = s.outer := rfl
@[simp] theorem State.withPins_film (s : State) (v : Pins) : (s.withPins v).film = s.film := rfl

@[simp] theorem State.raise_outer (s : State) (e : Event) : (s.raise e).outer = s.outer := by
  rfl
@[simp] theorem State.raise_film (s : State) (e : Event) : (s.raise e).film = s.film := by
  rfl
@[simp] theorem State.raise_stu (s : State) (e : Event) : (s.raise e).stu = s.stu := by
  rfl
@[simp] theorem State.raise_lcu (s : State) (e : Event) : (s.raise e).lcu = s.lcu := by
  rfl
@[simp] theorem State.raise_pins (s : State) (e : Event) : (s.raise e).pins = s.pins := by
  rfl
@[simp] theorem State.raiseAll_outer (s : State) (es : List Event) : (s.raiseAll es).outer = s.outer := by
  induction es generalizing s with
  | nil => rfl
  | cons e es ih => simp [State.raiseAll, ih]
@[simp] theorem State.raiseAll_film (s : State) (es : List Event) : (s.raiseAll es).film = s.film := by
  induction es generalizing s with
  | nil => rfl
  | cons e es ih => simp [State.raiseAll, ih]
@[simp] theorem State.raiseAll_stu (s : State) (es : List Event) : (s.raiseAll es).stu = s.stu := by
  induction es generalizing s with
  | nil => rfl
  | cons e es ih => simp [State.raiseAll, ih]
@[simp] theorem State.raiseAll_lcu (s : State) (es : List Event) : (s.raiseAll es).lcu = s.lcu := by
  induction es generalizing s with
  | nil => rfl
  | cons e es ih => simp [State.raiseAll, ih]
@[simp] theorem State.raiseAll_pins (s : State) (es : List Event) : (s.raiseAll es).pins = s.pins := by
  induction es generalizing s with
  | nil => rfl
  | cons e es ih => simp [State.raiseAll, ih]
@[simp] theorem State.writeBytes_outer (s : State) (a : Nat) (bs : List Byte) : (s.writeBytes a bs).outer = s.outer := by
  rfl
@[simp] theorem State.writeBytes_film (s : State) (a : Nat) (bs : List Byte) : (s.writeBytes a bs).film = s.film := by
  rfl
@[simp] theorem State.writeBytes_stu (s : State) (a : Nat) (bs : List Byte) : (s.writeBytes a bs).stu = s.stu := by
  rfl
@[simp] theorem State.writeBytes_lcu (s : State) (a : Nat) (bs : List Byte) : (s.writeBytes a bs).lcu = s.lcu := by
  rfl
@[simp] theorem State.writeBytes_pins (s : State) (a : Nat) (bs : List Byte) : (s.writeBytes a bs).pins = s.pins := by
  rfl
@[simp] theorem State.withEntries_outer (s : State) (es : List Entry) : (s.withEntries es).outer = s.outer := by
  rfl
@[simp] theorem State.withEntries_film (s : State) (es : List Entry) : (s.withEntries es).film = s.film := by
  rfl
@[simp] theorem State.withEntries_stu (s : State) (es : List Entry) : (s.withEntries es).stu = s.stu := by
  rfl
@[simp] theorem State.withEntries_lcu (s : State) (es : List Entry) : (s.withEntries es).lcu = s.lcu := by
  rfl
@[simp] theorem State.withEntries_pins (s : State) (es : List Entry) : (s.withEntries es).pins = s.pins := by
  rfl
@[simp] theorem State.withSet_outer (s : State) (id : Nat) (r : SetRecord) : (s.withSet id r).outer = s.outer := by
  rfl
@[simp] theorem State.withSet_film (s : State) (id : Nat) (r : SetRecord) : (s.withSet id r).film = s.film := by
  rfl
@[simp] theorem State.withSet_stu (s : State) (id : Nat) (r : SetRecord) : (s.withSet id r).stu = s.stu := by
  rfl
@[simp] theorem State.withSet_lcu (s : State) (id : Nat) (r : SetRecord) : (s.withSet id r).lcu = s.lcu := by
  rfl
@[simp] theorem State.withSet_pins (s : State) (id : Nat) (r : SetRecord) : (s.withSet id r).pins = s.pins := by
  rfl
@[simp] theorem State.addReference_outer (s : State) (id : Nat) : (s.addReference id).outer = s.outer := by
  rfl
@[simp] theorem State.addReference_film (s : State) (id : Nat) : (s.addReference id).film = s.film := by
  rfl
@[simp] theorem State.addReference_stu (s : State) (id : Nat) : (s.addReference id).stu = s.stu := by
  rfl
@[simp] theorem State.addReference_lcu (s : State) (id : Nat) : (s.addReference id).lcu = s.lcu := by
  rfl
@[simp] theorem State.addReference_pins (s : State) (id : Nat) : (s.addReference id).pins = s.pins := by
  rfl
@[simp] theorem State.dropReference_outer (s : State) (id : Nat) : (s.dropReference id).outer = s.outer := by
  rfl
@[simp] theorem State.dropReference_film (s : State) (id : Nat) : (s.dropReference id).film = s.film := by
  rfl
@[simp] theorem State.dropReference_stu (s : State) (id : Nat) : (s.dropReference id).stu = s.stu := by
  rfl
@[simp] theorem State.dropReference_lcu (s : State) (id : Nat) : (s.dropReference id).lcu = s.lcu := by
  rfl
@[simp] theorem State.dropReference_pins (s : State) (id : Nat) : (s.dropReference id).pins = s.pins := by
  rfl
@[simp] theorem State.takePin_outer (s : State) (r : PinRecord) : (s.takePin r).outer = s.outer := by
  unfold State.takePin; try dsimp only
  repeat' split
  all_goals first | (simp; done) | (split <;> simp)
@[simp] theorem State.takePin_film (s : State) (r : PinRecord) : (s.takePin r).film = s.film := by
  unfold State.takePin; try dsimp only
  repeat' split
  all_goals first | (simp; done) | (split <;> simp)
@[simp] theorem State.takePin_stu (s : State) (r : PinRecord) : (s.takePin r).stu = s.stu := by
  unfold State.takePin; try dsimp only
  repeat' split
  all_goals first | (simp; done) | (split <;> simp)
@[simp] theorem State.takePin_lcu (s : State) (r : PinRecord) : (s.takePin r).lcu = s.lcu := by
  unfold State.takePin; try dsimp only
  repeat' split
  all_goals first | (simp; done) | (split <;> simp)
@[simp] theorem State.takePin_pins (s : State) (r : PinRecord) : (s.takePin r).pins = s.pins := by
  unfold State.takePin; try dsimp only
  repeat' split
  all_goals first | (simp; done) | (split <;> simp)
@[simp] theorem State.releasePin_outer (s : State) (k : Key) : (s.releasePin k).outer = s.outer := by
  rfl
@[simp] theorem State.releasePin_film (s : State) (k : Key) : (s.releasePin k).film = s.film := by
  rfl
@[simp] theorem State.releasePin_stu (s : State) (k : Key) : (s.releasePin k).stu = s.stu := by
  rfl
@[simp] theorem State.releasePin_lcu (s : State) (k : Key) : (s.releasePin k).lcu = s.lcu := by
  rfl
@[simp] theorem State.releasePin_pins (s : State) (k : Key) : (s.releasePin k).pins = s.pins := by
  rfl
@[simp] theorem State.releaseAllPins_outer (s : State) : (s.releaseAllPins).outer = s.outer := by
  rfl
@[simp] theorem State.releaseAllPins_film (s : State) : (s.releaseAllPins).film = s.film := by
  rfl
@[simp] theorem State.releaseAllPins_stu (s : State) : (s.releaseAllPins).stu = s.stu := by
  rfl
@[simp] theorem State.releaseAllPins_lcu (s : State) : (s.releaseAllPins).lcu = s.lcu := by
  rfl
@[simp] theorem State.releaseAllPins_pins (s : State) : (s.releaseAllPins).pins = s.pins := by
  rfl
@[simp] theorem State.mapPin_outer (s : State) (k : Key) (f : PinRecord → PinRecord) : (s.mapPin k f).outer = s.outer := by
  rfl
@[simp] theorem State.mapPin_film (s : State) (k : Key) (f : PinRecord → PinRecord) : (s.mapPin k f).film = s.film := by
  rfl
@[simp] theorem State.mapPin_stu (s : State) (k : Key) (f : PinRecord → PinRecord) : (s.mapPin k f).stu = s.stu := by
  rfl
@[simp] theorem State.mapPin_lcu (s : State) (k : Key) (f : PinRecord → PinRecord) : (s.mapPin k f).lcu = s.lcu := by
  rfl
@[simp] theorem State.mapPin_pins (s : State) (k : Key) (f : PinRecord → PinRecord) : (s.mapPin k f).pins = s.pins := by
  rfl
@[simp] theorem State.withChannel_outer (s : State) (c : ReadChannel) : (s.withChannel c).outer = s.outer := by
  rfl
@[simp] theorem State.withChannel_film (s : State) (c : ReadChannel) : (s.withChannel c).film = s.film := by
  rfl
@[simp] theorem State.withChannel_stu (s : State) (c : ReadChannel) : (s.withChannel c).stu = s.stu := by
  rfl
@[simp] theorem State.withChannel_lcu (s : State) (c : ReadChannel) : (s.withChannel c).lcu = s.lcu := by
  rfl
@[simp] theorem State.withChannel_pins (s : State) (c : ReadChannel) : (s.withChannel c).pins = s.pins := by
  rfl
@[simp] theorem State.grantFetch_outer (s : State) : (s.grantFetch).outer = s.outer := by
  unfold State.grantFetch; try dsimp only
  repeat' split
  all_goals first | (simp; done) | (split <;> simp)
@[simp] theorem State.grantFetch_film (s : State) : (s.grantFetch).film = s.film := by
  unfold State.grantFetch; try dsimp only
  repeat' split
  all_goals first | (simp; done) | (split <;> simp)
@[simp] theorem State.grantFetch_stu (s : State) : (s.grantFetch).stu = s.stu := by
  unfold State.grantFetch; try dsimp only
  repeat' split
  all_goals first | (simp; done) | (split <;> simp)
@[simp] theorem State.grantFetch_lcu (s : State) : (s.grantFetch).lcu = s.lcu := by
  unfold State.grantFetch; try dsimp only
  repeat' split
  all_goals first | (simp; done) | (split <;> simp)
@[simp] theorem State.grantFetch_pins (s : State) : (s.grantFetch).pins = s.pins := by
  unfold State.grantFetch; try dsimp only
  repeat' split
  all_goals first | (simp; done) | (split <;> simp)
@[simp] theorem State.writeMark_outer (s : State) (a : Nat) (c : Byte) (w : Option (List Byte)) : (s.writeMark a c w).outer = s.outer := by
  unfold State.writeMark; cases w <;> simp
@[simp] theorem State.writeMark_film (s : State) (a : Nat) (c : Byte) (w : Option (List Byte)) : (s.writeMark a c w).film = s.film := by
  unfold State.writeMark; cases w <;> simp
@[simp] theorem State.writeMark_stu (s : State) (a : Nat) (c : Byte) (w : Option (List Byte)) : (s.writeMark a c w).stu = s.stu := by
  unfold State.writeMark; cases w <;> simp
@[simp] theorem State.writeMark_lcu (s : State) (a : Nat) (c : Byte) (w : Option (List Byte)) : (s.writeMark a c w).lcu = s.lcu := by
  unfold State.writeMark; cases w <;> simp
@[simp] theorem State.writeMark_pins (s : State) (a : Nat) (c : Byte) (w : Option (List Byte)) : (s.writeMark a c w).pins = s.pins := by
  unfold State.writeMark; cases w <;> simp
@[simp] theorem State.grantMark_outer (s : State) : (s.grantMark).outer = s.outer := by
  unfold State.grantMark; try dsimp only
  repeat' split
  all_goals first | (simp; done) | (split <;> simp)
@[simp] theorem State.grantMark_film (s : State) : (s.grantMark).film = s.film := by
  unfold State.grantMark; try dsimp only
  repeat' split
  all_goals first | (simp; done) | (split <;> simp)
@[simp] theorem State.grantMark_stu (s : State) : (s.grantMark).stu = s.stu := by
  unfold State.grantMark; try dsimp only
  repeat' split
  all_goals first | (simp; done) | (split <;> simp)
@[simp] theorem State.grantMark_lcu (s : State) : (s.grantMark).lcu = s.lcu := by
  unfold State.grantMark; try dsimp only
  repeat' split
  all_goals first | (simp; done) | (split <;> simp)
@[simp] theorem State.grantMark_pins (s : State) : (s.grantMark).pins = s.pins := by
  unfold State.grantMark; try dsimp only
  repeat' split
  all_goals first | (simp; done) | (split <;> simp)
@[simp] theorem State.grantStage_outer (s : State) : (s.grantStage).outer = s.outer := by
  unfold State.grantStage; try dsimp only
  repeat' split
  all_goals first | (simp; done) | (split <;> simp)
@[simp] theorem State.grantStage_film (s : State) : (s.grantStage).film = s.film := by
  unfold State.grantStage; try dsimp only
  repeat' split
  all_goals first | (simp; done) | (split <;> simp)
@[simp] theorem State.grantStage_stu (s : State) : (s.grantStage).stu = s.stu := by
  unfold State.grantStage; try dsimp only
  repeat' split
  all_goals first | (simp; done) | (split <;> simp)
@[simp] theorem State.grantStage_lcu (s : State) : (s.grantStage).lcu = s.lcu := by
  unfold State.grantStage; try dsimp only
  repeat' split
  all_goals first | (simp; done) | (split <;> simp)
@[simp] theorem State.grantStage_pins (s : State) : (s.grantStage).pins = s.pins := by
  unfold State.grantStage; try dsimp only
  repeat' split
  all_goals first | (simp; done) | (split <;> simp)
@[simp] theorem State.grant_outer (s : State) : (s.grant).outer = s.outer := by
  unfold State.grant; try dsimp only
  repeat' split
  all_goals first | (simp; done) | (split <;> simp)
@[simp] theorem State.grant_film (s : State) : (s.grant).film = s.film := by
  unfold State.grant; try dsimp only
  repeat' split
  all_goals first | (simp; done) | (split <;> simp)
@[simp] theorem State.grant_stu (s : State) : (s.grant).stu = s.stu := by
  unfold State.grant; try dsimp only
  repeat' split
  all_goals first | (simp; done) | (split <;> simp)
@[simp] theorem State.grant_lcu (s : State) : (s.grant).lcu = s.lcu := by
  unfold State.grant; try dsimp only
  repeat' split
  all_goals first | (simp; done) | (split <;> simp)
@[simp] theorem State.grant_pins (s : State) : (s.grant).pins = s.pins := by
  unfold State.grant; try dsimp only
  repeat' split
  all_goals first | (simp; done) | (split <;> simp)
@[simp] theorem State.freeChannel_outer (s : State) : (s.freeChannel).outer = s.outer := by
  unfold State.freeChannel; try dsimp only
  repeat' split
  all_goals first | (simp; done) | (split <;> simp)
@[simp] theorem State.freeChannel_film (s : State) : (s.freeChannel).film = s.film := by
  unfold State.freeChannel; try dsimp only
  repeat' split
  all_goals first | (simp; done) | (split <;> simp)
@[simp] theorem State.freeChannel_stu (s : State) : (s.freeChannel).stu = s.stu := by
  unfold State.freeChannel; try dsimp only
  repeat' split
  all_goals first | (simp; done) | (split <;> simp)
@[simp] theorem State.freeChannel_lcu (s : State) : (s.freeChannel).lcu = s.lcu := by
  unfold State.freeChannel; try dsimp only
  repeat' split
  all_goals first | (simp; done) | (split <;> simp)
@[simp] theorem State.freeChannel_pins (s : State) : (s.freeChannel).pins = s.pins := by
  unfold State.freeChannel; try dsimp only
  repeat' split
  all_goals first | (simp; done) | (split <;> simp)
@[simp] theorem State.discardStaging_outer (s : State) : (s.discardStaging).outer = s.outer := by
  unfold State.discardStaging; dsimp only; split <;> simp
@[simp] theorem State.discardStaging_film (s : State) : (s.discardStaging).film = s.film := by
  unfold State.discardStaging; dsimp only; split <;> simp
@[simp] theorem State.discardStaging_stu (s : State) : (s.discardStaging).stu = s.stu := by
  unfold State.discardStaging; dsimp only; split <;> simp
@[simp] theorem State.discardStaging_lcu (s : State) : (s.discardStaging).lcu = s.lcu := by
  unfold State.discardStaging; dsimp only; split <;> simp
@[simp] theorem State.discardStaging_pins (s : State) : (s.discardStaging).pins = s.pins := by
  unfold State.discardStaging; dsimp only; split <;> simp
@[simp] theorem State.stopWalk_outer (s : State) (k : Key) : (s.stopWalk k).outer = s.outer := by
  unfold State.stopWalk; try dsimp only
  repeat' split
  all_goals first | (simp; done) | (split <;> simp)
@[simp] theorem State.stopWalk_film (s : State) (k : Key) : (s.stopWalk k).film = s.film := by
  unfold State.stopWalk; try dsimp only
  repeat' split
  all_goals first | (simp; done) | (split <;> simp)
@[simp] theorem State.stopWalk_stu (s : State) (k : Key) : (s.stopWalk k).stu = s.stu := by
  unfold State.stopWalk; try dsimp only
  repeat' split
  all_goals first | (simp; done) | (split <;> simp)
@[simp] theorem State.stopWalk_lcu (s : State) (k : Key) : (s.stopWalk k).lcu = s.lcu := by
  unfold State.stopWalk; try dsimp only
  repeat' split
  all_goals first | (simp; done) | (split <;> simp)
@[simp] theorem State.stopWalk_pins (s : State) (k : Key) : (s.stopWalk k).pins = s.pins := by
  unfold State.stopWalk; try dsimp only
  repeat' split
  all_goals first | (simp; done) | (split <;> simp)
@[simp] theorem State.withdrawFetch_outer (s : State) : (s.withdrawFetch).outer = s.outer := by
  unfold State.withdrawFetch; dsimp only; split <;> simp
@[simp] theorem State.withdrawFetch_film (s : State) : (s.withdrawFetch).film = s.film := by
  unfold State.withdrawFetch; dsimp only; split <;> simp
@[simp] theorem State.withdrawFetch_stu (s : State) : (s.withdrawFetch).stu = s.stu := by
  unfold State.withdrawFetch; dsimp only; split <;> simp
@[simp] theorem State.withdrawFetch_lcu (s : State) : (s.withdrawFetch).lcu = s.lcu := by
  unfold State.withdrawFetch; dsimp only; split <;> simp
@[simp] theorem State.withdrawFetch_pins (s : State) : (s.withdrawFetch).pins = s.pins := by
  unfold State.withdrawFetch; dsimp only; split <;> simp
@[simp] theorem State.requestWriteBack_outer (s : State) (k : Key) : (s.requestWriteBack k).outer = s.outer := by
  rfl
@[simp] theorem State.requestWriteBack_film (s : State) (k : Key) : (s.requestWriteBack k).film = s.film := by
  rfl
@[simp] theorem State.requestWriteBack_stu (s : State) (k : Key) : (s.requestWriteBack k).stu = s.stu := by
  rfl
@[simp] theorem State.requestWriteBack_lcu (s : State) (k : Key) : (s.requestWriteBack k).lcu = s.lcu := by
  rfl
@[simp] theorem State.requestWriteBack_pins (s : State) (k : Key) : (s.requestWriteBack k).pins = s.pins := by
  rfl
@[simp] theorem State.requestMarking_outer (s : State) : (s.requestMarking).outer = s.outer := by
  unfold State.requestMarking; try dsimp only
  repeat' split
  all_goals first | (simp; done) | (split <;> simp)
@[simp] theorem State.requestMarking_film (s : State) : (s.requestMarking).film = s.film := by
  unfold State.requestMarking; try dsimp only
  repeat' split
  all_goals first | (simp; done) | (split <;> simp)
@[simp] theorem State.requestMarking_stu (s : State) : (s.requestMarking).stu = s.stu := by
  unfold State.requestMarking; try dsimp only
  repeat' split
  all_goals first | (simp; done) | (split <;> simp)
@[simp] theorem State.requestMarking_lcu (s : State) : (s.requestMarking).lcu = s.lcu := by
  unfold State.requestMarking; try dsimp only
  repeat' split
  all_goals first | (simp; done) | (split <;> simp)
@[simp] theorem State.requestMarking_pins (s : State) : (s.requestMarking).pins = s.pins := by
  unfold State.requestMarking; try dsimp only
  repeat' split
  all_goals first | (simp; done) | (split <;> simp)
@[simp] theorem State.addHeld_outer (s : State) (r : HeldReason) : (s.addHeld r).outer = s.outer := by
  unfold State.addHeld; try dsimp only
  repeat' split
  all_goals first | (simp; done) | (split <;> simp)
@[simp] theorem State.addHeld_film (s : State) (r : HeldReason) : (s.addHeld r).film = s.film := by
  unfold State.addHeld; try dsimp only
  repeat' split
  all_goals first | (simp; done) | (split <;> simp)
@[simp] theorem State.addHeld_stu (s : State) (r : HeldReason) : (s.addHeld r).stu = s.stu := by
  unfold State.addHeld; try dsimp only
  repeat' split
  all_goals first | (simp; done) | (split <;> simp)
@[simp] theorem State.addHeld_lcu (s : State) (r : HeldReason) : (s.addHeld r).lcu = s.lcu := by
  unfold State.addHeld; try dsimp only
  repeat' split
  all_goals first | (simp; done) | (split <;> simp)
@[simp] theorem State.addHeld_pins (s : State) (r : HeldReason) : (s.addHeld r).pins = s.pins := by
  unfold State.addHeld; try dsimp only
  repeat' split
  all_goals first | (simp; done) | (split <;> simp)
@[simp] theorem State.beginLeaving_outer (s : State) (k : Key) (c : Completion) : (s.beginLeaving k c).outer = s.outer := by
  unfold State.beginLeaving; try dsimp only
  repeat' split
  all_goals first | (simp; done) | (split <;> simp)
@[simp] theorem State.beginLeaving_film (s : State) (k : Key) (c : Completion) : (s.beginLeaving k c).film = s.film := by
  unfold State.beginLeaving; try dsimp only
  repeat' split
  all_goals first | (simp; done) | (split <;> simp)
@[simp] theorem State.beginLeaving_stu (s : State) (k : Key) (c : Completion) : (s.beginLeaving k c).stu = s.stu := by
  unfold State.beginLeaving; try dsimp only
  repeat' split
  all_goals first | (simp; done) | (split <;> simp)
@[simp] theorem State.beginLeaving_lcu (s : State) (k : Key) (c : Completion) : (s.beginLeaving k c).lcu = s.lcu := by
  unfold State.beginLeaving; try dsimp only
  repeat' split
  all_goals first | (simp; done) | (split <;> simp)
@[simp] theorem State.beginLeaving_pins (s : State) (k : Key) (c : Completion) : (s.beginLeaving k c).pins = s.pins := by
  unfold State.beginLeaving; try dsimp only
  repeat' split
  all_goals first | (simp; done) | (split <;> simp)
@[simp] theorem State.enterWindow_outer (s : State) (p : Nat) : (s.enterWindow p).outer = s.outer := by
  unfold State.enterWindow; try dsimp only
  repeat' split
  all_goals first | (simp; done) | (split <;> simp)
@[simp] theorem State.enterWindow_film (s : State) (p : Nat) : (s.enterWindow p).film = s.film := by
  unfold State.enterWindow; try dsimp only
  repeat' split
  all_goals first | (simp; done) | (split <;> simp)
@[simp] theorem State.enterWindow_stu (s : State) (p : Nat) : (s.enterWindow p).stu = s.stu := by
  unfold State.enterWindow; try dsimp only
  repeat' split
  all_goals first | (simp; done) | (split <;> simp)
@[simp] theorem State.enterWindow_lcu (s : State) (p : Nat) : (s.enterWindow p).lcu = s.lcu := by
  unfold State.enterWindow; try dsimp only
  repeat' split
  all_goals first | (simp; done) | (split <;> simp)
@[simp] theorem State.enterWindow_pins (s : State) (p : Nat) : (s.enterWindow p).pins = s.pins := by
  unfold State.enterWindow; try dsimp only
  repeat' split
  all_goals first | (simp; done) | (split <;> simp)
@[simp] theorem State.removeAt_outer (s : State) (p : Nat) : (s.removeAt p).outer = s.outer := by
  unfold State.removeAt; cases s.fq.entries[p]? with
  | none => rfl
  | some e => dsimp only; repeat' split
              all_goals simp
@[simp] theorem State.removeAt_film (s : State) (p : Nat) : (s.removeAt p).film = s.film := by
  unfold State.removeAt; cases s.fq.entries[p]? with
  | none => rfl
  | some e => dsimp only; repeat' split
              all_goals simp
@[simp] theorem State.removeAt_stu (s : State) (p : Nat) : (s.removeAt p).stu = s.stu := by
  unfold State.removeAt; cases s.fq.entries[p]? with
  | none => rfl
  | some e => dsimp only; repeat' split
              all_goals simp
@[simp] theorem State.removeAt_lcu (s : State) (p : Nat) : (s.removeAt p).lcu = s.lcu := by
  unfold State.removeAt; cases s.fq.entries[p]? with
  | none => rfl
  | some e => dsimp only; repeat' split
              all_goals simp
@[simp] theorem State.removeAt_pins (s : State) (p : Nat) : (s.removeAt p).pins = s.pins := by
  unfold State.removeAt; cases s.fq.entries[p]? with
  | none => rfl
  | some e => dsimp only; repeat' split
              all_goals simp
@[simp] theorem State.completeRejection_outer (s : State) (e : Entry) (r : RejectReason) : (s.completeRejection e r).outer = s.outer := by
  unfold State.completeRejection; try dsimp only
  repeat' split
  all_goals first | (simp; done) | (split <;> simp)
@[simp] theorem State.completeRejection_film (s : State) (e : Entry) (r : RejectReason) : (s.completeRejection e r).film = s.film := by
  unfold State.completeRejection; try dsimp only
  repeat' split
  all_goals first | (simp; done) | (split <;> simp)
@[simp] theorem State.completeRejection_stu (s : State) (e : Entry) (r : RejectReason) : (s.completeRejection e r).stu = s.stu := by
  unfold State.completeRejection; try dsimp only
  repeat' split
  all_goals first | (simp; done) | (split <;> simp)
@[simp] theorem State.completeRejection_lcu (s : State) (e : Entry) (r : RejectReason) : (s.completeRejection e r).lcu = s.lcu := by
  unfold State.completeRejection; try dsimp only
  repeat' split
  all_goals first | (simp; done) | (split <;> simp)
@[simp] theorem State.completeRejection_pins (s : State) (e : Entry) (r : RejectReason) : (s.completeRejection e r).pins = s.pins := by
  unfold State.completeRejection; try dsimp only
  repeat' split
  all_goals first | (simp; done) | (split <;> simp)
@[simp] theorem State.takeRejectedHead_outer (s : State) (n : Nat) : (s.takeRejectedHead n).outer = s.outer := by
  induction n generalizing s with
  | zero => rfl
  | succ n ih => unfold State.takeRejectedHead; repeat' split
                 all_goals simp [ih]
@[simp] theorem State.takeRejectedHead_film (s : State) (n : Nat) : (s.takeRejectedHead n).film = s.film := by
  induction n generalizing s with
  | zero => rfl
  | succ n ih => unfold State.takeRejectedHead; repeat' split
                 all_goals simp [ih]
@[simp] theorem State.takeRejectedHead_stu (s : State) (n : Nat) : (s.takeRejectedHead n).stu = s.stu := by
  induction n generalizing s with
  | zero => rfl
  | succ n ih => unfold State.takeRejectedHead; repeat' split
                 all_goals simp [ih]
@[simp] theorem State.takeRejectedHead_lcu (s : State) (n : Nat) : (s.takeRejectedHead n).lcu = s.lcu := by
  induction n generalizing s with
  | zero => rfl
  | succ n ih => unfold State.takeRejectedHead; repeat' split
                 all_goals simp [ih]
@[simp] theorem State.takeRejectedHead_pins (s : State) (n : Nat) : (s.takeRejectedHead n).pins = s.pins := by
  induction n generalizing s with
  | zero => rfl
  | succ n ih => unfold State.takeRejectedHead; repeat' split
                 all_goals simp [ih]
@[simp] theorem State.settleHead_outer (s : State) : (s.settleHead).outer = s.outer := by
  unfold State.settleHead; try dsimp only
  repeat' split
  all_goals first | (simp; done) | (split <;> simp)
@[simp] theorem State.settleHead_film (s : State) : (s.settleHead).film = s.film := by
  unfold State.settleHead; try dsimp only
  repeat' split
  all_goals first | (simp; done) | (split <;> simp)
@[simp] theorem State.settleHead_stu (s : State) : (s.settleHead).stu = s.stu := by
  unfold State.settleHead; try dsimp only
  repeat' split
  all_goals first | (simp; done) | (split <;> simp)
@[simp] theorem State.settleHead_lcu (s : State) : (s.settleHead).lcu = s.lcu := by
  unfold State.settleHead; try dsimp only
  repeat' split
  all_goals first | (simp; done) | (split <;> simp)
@[simp] theorem State.settleHead_pins (s : State) : (s.settleHead).pins = s.pins := by
  unfold State.settleHead; try dsimp only
  repeat' split
  all_goals first | (simp; done) | (split <;> simp)
@[simp] theorem State.removeEntry_outer (s : State) (k : Key) : (s.removeEntry k).outer = s.outer := by
  unfold State.removeEntry; try dsimp only
  repeat' split
  all_goals first | (simp; done) | (split <;> simp)
@[simp] theorem State.removeEntry_film (s : State) (k : Key) : (s.removeEntry k).film = s.film := by
  unfold State.removeEntry; try dsimp only
  repeat' split
  all_goals first | (simp; done) | (split <;> simp)
@[simp] theorem State.removeEntry_stu (s : State) (k : Key) : (s.removeEntry k).stu = s.stu := by
  unfold State.removeEntry; try dsimp only
  repeat' split
  all_goals first | (simp; done) | (split <;> simp)
@[simp] theorem State.removeEntry_lcu (s : State) (k : Key) : (s.removeEntry k).lcu = s.lcu := by
  unfold State.removeEntry; try dsimp only
  repeat' split
  all_goals first | (simp; done) | (split <;> simp)
@[simp] theorem State.removeEntry_pins (s : State) (k : Key) : (s.removeEntry k).pins = s.pins := by
  unfold State.removeEntry; try dsimp only
  repeat' split
  all_goals first | (simp; done) | (split <;> simp)
@[simp] theorem State.cancelEntry_outer (s : State) (e : Entry) : (s.cancelEntry e).outer = s.outer := by
  unfold State.cancelEntry; try dsimp only
  repeat' split
  all_goals first | (simp; done) | (split <;> simp)
@[simp] theorem State.cancelEntry_film (s : State) (e : Entry) : (s.cancelEntry e).film = s.film := by
  unfold State.cancelEntry; try dsimp only
  repeat' split
  all_goals first | (simp; done) | (split <;> simp)
@[simp] theorem State.cancelEntry_stu (s : State) (e : Entry) : (s.cancelEntry e).stu = s.stu := by
  unfold State.cancelEntry; try dsimp only
  repeat' split
  all_goals first | (simp; done) | (split <;> simp)
@[simp] theorem State.cancelEntry_lcu (s : State) (e : Entry) : (s.cancelEntry e).lcu = s.lcu := by
  unfold State.cancelEntry; try dsimp only
  repeat' split
  all_goals first | (simp; done) | (split <;> simp)
@[simp] theorem State.cancelEntry_pins (s : State) (e : Entry) : (s.cancelEntry e).pins = s.pins := by
  unfold State.cancelEntry; try dsimp only
  repeat' split
  all_goals first | (simp; done) | (split <;> simp)
@[simp] theorem State.cancelAll_outer (s : State) (ks : List Key) : ((s.cancelAll ks).1).outer = s.outer := by
  induction ks generalizing s with
  | nil => rfl
  | cons k ks ih => unfold State.cancelAll; repeat' split
                    all_goals simp [ih]
@[simp] theorem State.cancelAll_film (s : State) (ks : List Key) : ((s.cancelAll ks).1).film = s.film := by
  induction ks generalizing s with
  | nil => rfl
  | cons k ks ih => unfold State.cancelAll; repeat' split
                    all_goals simp [ih]
@[simp] theorem State.cancelAll_stu (s : State) (ks : List Key) : ((s.cancelAll ks).1).stu = s.stu := by
  induction ks generalizing s with
  | nil => rfl
  | cons k ks ih => unfold State.cancelAll; repeat' split
                    all_goals simp [ih]
@[simp] theorem State.cancelAll_lcu (s : State) (ks : List Key) : ((s.cancelAll ks).1).lcu = s.lcu := by
  induction ks generalizing s with
  | nil => rfl
  | cons k ks ih => unfold State.cancelAll; repeat' split
                    all_goals simp [ih]
@[simp] theorem State.cancelAll_pins (s : State) (ks : List Key) : ((s.cancelAll ks).1).pins = s.pins := by
  induction ks generalizing s with
  | nil => rfl
  | cons k ks ih => unfold State.cancelAll; repeat' split
                    all_goals simp [ih]
@[simp] theorem State.pushOut_outer (s : State) : (s.pushOut).outer = s.outer := by
  unfold State.pushOut; try dsimp only
  repeat' split
  all_goals first | (simp; done) | (split <;> simp)
@[simp] theorem State.pushOut_film (s : State) : (s.pushOut).film = s.film := by
  unfold State.pushOut; try dsimp only
  repeat' split
  all_goals first | (simp; done) | (split <;> simp)
@[simp] theorem State.pushOut_stu (s : State) : (s.pushOut).stu = s.stu := by
  unfold State.pushOut; try dsimp only
  repeat' split
  all_goals first | (simp; done) | (split <;> simp)
@[simp] theorem State.pushOut_lcu (s : State) : (s.pushOut).lcu = s.lcu := by
  unfold State.pushOut; try dsimp only
  repeat' split
  all_goals first | (simp; done) | (split <;> simp)
@[simp] theorem State.pushOut_pins (s : State) : (s.pushOut).pins = s.pins := by
  unfold State.pushOut; try dsimp only
  repeat' split
  all_goals first | (simp; done) | (split <;> simp)
@[simp] theorem State.headExposed_outer (s : State) : (s.headExposed).outer = s.outer := by
  unfold State.headExposed; dsimp only; repeat' split
  all_goals simp
@[simp] theorem State.headExposed_film (s : State) : (s.headExposed).film = s.film := by
  unfold State.headExposed; dsimp only; repeat' split
  all_goals simp
@[simp] theorem State.headExposed_stu (s : State) : (s.headExposed).stu = s.stu := by
  unfold State.headExposed; dsimp only; repeat' split
  all_goals simp
@[simp] theorem State.headExposed_lcu (s : State) : (s.headExposed).lcu = s.lcu := by
  unfold State.headExposed; dsimp only; repeat' split
  all_goals simp
@[simp] theorem State.headExposed_pins (s : State) : (s.headExposed).pins = s.pins := by
  unfold State.headExposed; dsimp only; repeat' split
  all_goals simp
@[simp] theorem State.headSpoiled_outer (s : State) : (s.headSpoiled).outer = s.outer := by
  unfold State.headSpoiled; try dsimp only
  repeat' split
  all_goals first | (simp; done) | (split <;> simp)
@[simp] theorem State.headSpoiled_film (s : State) : (s.headSpoiled).film = s.film := by
  unfold State.headSpoiled; try dsimp only
  repeat' split
  all_goals first | (simp; done) | (split <;> simp)
@[simp] theorem State.headSpoiled_stu (s : State) : (s.headSpoiled).stu = s.stu := by
  unfold State.headSpoiled; try dsimp only
  repeat' split
  all_goals first | (simp; done) | (split <;> simp)
@[simp] theorem State.headSpoiled_lcu (s : State) : (s.headSpoiled).lcu = s.lcu := by
  unfold State.headSpoiled; try dsimp only
  repeat' split
  all_goals first | (simp; done) | (split <;> simp)
@[simp] theorem State.headSpoiled_pins (s : State) : (s.headSpoiled).pins = s.pins := by
  unfold State.headSpoiled; try dsimp only
  repeat' split
  all_goals first | (simp; done) | (split <;> simp)
@[simp] theorem State.headRunOut_outer (s : State) (n : Nat) : (s.headRunOut n).outer = s.outer := by
  unfold State.headRunOut; dsimp only; repeat' split
  all_goals simp
@[simp] theorem State.headRunOut_film (s : State) (n : Nat) : (s.headRunOut n).film = s.film := by
  unfold State.headRunOut; dsimp only; repeat' split
  all_goals simp
@[simp] theorem State.headRunOut_stu (s : State) (n : Nat) : (s.headRunOut n).stu = s.stu := by
  unfold State.headRunOut; dsimp only; repeat' split
  all_goals simp
@[simp] theorem State.headRunOut_lcu (s : State) (n : Nat) : (s.headRunOut n).lcu = s.lcu := by
  unfold State.headRunOut; dsimp only; repeat' split
  all_goals simp
@[simp] theorem State.headRunOut_pins (s : State) (n : Nat) : (s.headRunOut n).pins = s.pins := by
  unfold State.headRunOut; dsimp only; repeat' split
  all_goals simp
@[simp] theorem State.endWriteBack_outer (s : State) : (s.endWriteBack).outer = s.outer := by
  unfold State.endWriteBack; dsimp only; repeat' split
  all_goals simp
@[simp] theorem State.endWriteBack_film (s : State) : (s.endWriteBack).film = s.film := by
  unfold State.endWriteBack; dsimp only; repeat' split
  all_goals simp
@[simp] theorem State.endWriteBack_stu (s : State) : (s.endWriteBack).stu = s.stu := by
  unfold State.endWriteBack; dsimp only; repeat' split
  all_goals simp
@[simp] theorem State.endWriteBack_lcu (s : State) : (s.endWriteBack).lcu = s.lcu := by
  unfold State.endWriteBack; dsimp only; repeat' split
  all_goals simp
@[simp] theorem State.endWriteBack_pins (s : State) : (s.endWriteBack).pins = s.pins := by
  unfold State.endWriteBack; dsimp only; repeat' split
  all_goals simp
@[simp] theorem State.stagingFailed_outer (s : State) (g : Staging) (r : RejectReason) : (s.stagingFailed g r).outer = s.outer := by
  unfold State.stagingFailed; try dsimp only
  repeat' split
  all_goals first | (simp; done) | (split <;> simp)
@[simp] theorem State.stagingFailed_film (s : State) (g : Staging) (r : RejectReason) : (s.stagingFailed g r).film = s.film := by
  unfold State.stagingFailed; try dsimp only
  repeat' split
  all_goals first | (simp; done) | (split <;> simp)
@[simp] theorem State.stagingFailed_stu (s : State) (g : Staging) (r : RejectReason) : (s.stagingFailed g r).stu = s.stu := by
  unfold State.stagingFailed; try dsimp only
  repeat' split
  all_goals first | (simp; done) | (split <;> simp)
@[simp] theorem State.stagingFailed_lcu (s : State) (g : Staging) (r : RejectReason) : (s.stagingFailed g r).lcu = s.lcu := by
  unfold State.stagingFailed; try dsimp only
  repeat' split
  all_goals first | (simp; done) | (split <;> simp)
@[simp] theorem State.stagingFailed_pins (s : State) (g : Staging) (r : RejectReason) : (s.stagingFailed g r).pins = s.pins := by
  unfold State.stagingFailed; try dsimp only
  repeat' split
  all_goals first | (simp; done) | (split <;> simp)
@[simp] theorem State.stagingComplete_outer (s : State) (g : Staging) : (s.stagingComplete g).outer = s.outer := by
  rfl
@[simp] theorem State.stagingComplete_film (s : State) (g : Staging) : (s.stagingComplete g).film = s.film := by
  rfl
@[simp] theorem State.stagingComplete_stu (s : State) (g : Staging) : (s.stagingComplete g).stu = s.stu := by
  rfl
@[simp] theorem State.stagingComplete_lcu (s : State) (g : Staging) : (s.stagingComplete g).lcu = s.lcu := by
  rfl
@[simp] theorem State.stagingComplete_pins (s : State) (g : Staging) : (s.stagingComplete g).pins = s.pins := by
  rfl
@[simp] theorem State.stagingContinue_outer (s : State) (g : Staging) : (s.stagingContinue g).outer = s.outer := by
  rfl
@[simp] theorem State.stagingContinue_film (s : State) (g : Staging) : (s.stagingContinue g).film = s.film := by
  rfl
@[simp] theorem State.stagingContinue_stu (s : State) (g : Staging) : (s.stagingContinue g).stu = s.stu := by
  rfl
@[simp] theorem State.stagingContinue_lcu (s : State) (g : Staging) : (s.stagingContinue g).lcu = s.lcu := by
  rfl
@[simp] theorem State.stagingContinue_pins (s : State) (g : Staging) : (s.stagingContinue g).pins = s.pins := by
  rfl
@[simp] theorem State.walkToDescriptor_outer (s : State) (g : Staging) : (s.walkToDescriptor g).outer = s.outer := by
  unfold State.walkToDescriptor; try dsimp only
  repeat' split
  all_goals first | (simp; done) | (split <;> simp)
@[simp] theorem State.walkToDescriptor_film (s : State) (g : Staging) : (s.walkToDescriptor g).film = s.film := by
  unfold State.walkToDescriptor; try dsimp only
  repeat' split
  all_goals first | (simp; done) | (split <;> simp)
@[simp] theorem State.walkToDescriptor_stu (s : State) (g : Staging) : (s.walkToDescriptor g).stu = s.stu := by
  unfold State.walkToDescriptor; try dsimp only
  repeat' split
  all_goals first | (simp; done) | (split <;> simp)
@[simp] theorem State.walkToDescriptor_lcu (s : State) (g : Staging) : (s.walkToDescriptor g).lcu = s.lcu := by
  unfold State.walkToDescriptor; try dsimp only
  repeat' split
  all_goals first | (simp; done) | (split <;> simp)
@[simp] theorem State.walkToDescriptor_pins (s : State) (g : Staging) : (s.walkToDescriptor g).pins = s.pins := by
  unfold State.walkToDescriptor; try dsimp only
  repeat' split
  all_goals first | (simp; done) | (split <;> simp)
@[simp] theorem State.onDescriptor_outer (s : State) (g : Staging) (bs : List Byte) : (s.onDescriptor g bs).outer = s.outer := by
  unfold State.onDescriptor; dsimp only; repeat' split
  all_goals simp
@[simp] theorem State.onDescriptor_film (s : State) (g : Staging) (bs : List Byte) : (s.onDescriptor g bs).film = s.film := by
  unfold State.onDescriptor; dsimp only; repeat' split
  all_goals simp
@[simp] theorem State.onDescriptor_stu (s : State) (g : Staging) (bs : List Byte) : (s.onDescriptor g bs).stu = s.stu := by
  unfold State.onDescriptor; dsimp only; repeat' split
  all_goals simp
@[simp] theorem State.onDescriptor_lcu (s : State) (g : Staging) (bs : List Byte) : (s.onDescriptor g bs).lcu = s.lcu := by
  unfold State.onDescriptor; dsimp only; repeat' split
  all_goals simp
@[simp] theorem State.onDescriptor_pins (s : State) (g : Staging) (bs : List Byte) : (s.onDescriptor g bs).pins = s.pins := by
  unfold State.onDescriptor; dsimp only; repeat' split
  all_goals simp
@[simp] theorem State.compareChecksum_outer (s : State) (g : Staging) : (s.compareChecksum g).outer = s.outer := by
  unfold State.compareChecksum; try dsimp only
  repeat' split
  all_goals first | (simp; done) | (split <;> simp)
@[simp] theorem State.compareChecksum_film (s : State) (g : Staging) : (s.compareChecksum g).film = s.film := by
  unfold State.compareChecksum; try dsimp only
  repeat' split
  all_goals first | (simp; done) | (split <;> simp)
@[simp] theorem State.compareChecksum_stu (s : State) (g : Staging) : (s.compareChecksum g).stu = s.stu := by
  unfold State.compareChecksum; try dsimp only
  repeat' split
  all_goals first | (simp; done) | (split <;> simp)
@[simp] theorem State.compareChecksum_lcu (s : State) (g : Staging) : (s.compareChecksum g).lcu = s.lcu := by
  unfold State.compareChecksum; try dsimp only
  repeat' split
  all_goals first | (simp; done) | (split <;> simp)
@[simp] theorem State.compareChecksum_pins (s : State) (g : Staging) : (s.compareChecksum g).pins = s.pins := by
  unfold State.compareChecksum; try dsimp only
  repeat' split
  all_goals first | (simp; done) | (split <;> simp)
@[simp] theorem State.onStripBytes_outer (s : State) (g : Staging) (bs : List Byte) (n l : Nat) (last : Bool) : (s.onStripBytes g bs n l last).outer = s.outer := by
  unfold State.onStripBytes; dsimp only; repeat' split
  all_goals simp
@[simp] theorem State.onStripBytes_film (s : State) (g : Staging) (bs : List Byte) (n l : Nat) (last : Bool) : (s.onStripBytes g bs n l last).film = s.film := by
  unfold State.onStripBytes; dsimp only; repeat' split
  all_goals simp
@[simp] theorem State.onStripBytes_stu (s : State) (g : Staging) (bs : List Byte) (n l : Nat) (last : Bool) : (s.onStripBytes g bs n l last).stu = s.stu := by
  unfold State.onStripBytes; dsimp only; repeat' split
  all_goals simp
@[simp] theorem State.onStripBytes_lcu (s : State) (g : Staging) (bs : List Byte) (n l : Nat) (last : Bool) : (s.onStripBytes g bs n l last).lcu = s.lcu := by
  unfold State.onStripBytes; dsimp only; repeat' split
  all_goals simp
@[simp] theorem State.onStripBytes_pins (s : State) (g : Staging) (bs : List Byte) (n l : Nat) (last : Bool) : (s.onStripBytes g bs n l last).pins = s.pins := by
  unfold State.onStripBytes; dsimp only; repeat' split
  all_goals simp
@[simp] theorem State.offerStaging_outer (s : State) : (s.offerStaging).outer = s.outer := by
  unfold State.offerStaging; try dsimp only
  repeat' split
  all_goals first | (simp; done) | (split <;> simp)
@[simp] theorem State.offerStaging_film (s : State) : (s.offerStaging).film = s.film := by
  unfold State.offerStaging; try dsimp only
  repeat' split
  all_goals first | (simp; done) | (split <;> simp)
@[simp] theorem State.offerStaging_stu (s : State) : (s.offerStaging).stu = s.stu := by
  unfold State.offerStaging; try dsimp only
  repeat' split
  all_goals first | (simp; done) | (split <;> simp)
@[simp] theorem State.offerStaging_lcu (s : State) : (s.offerStaging).lcu = s.lcu := by
  unfold State.offerStaging; try dsimp only
  repeat' split
  all_goals first | (simp; done) | (split <;> simp)
@[simp] theorem State.offerStaging_pins (s : State) : (s.offerStaging).pins = s.pins := by
  unfold State.offerStaging; try dsimp only
  repeat' split
  all_goals first | (simp; done) | (split <;> simp)
@[simp] theorem State.rejectStock_outer (s : State) : (s.rejectStock).outer = s.outer := by
  unfold State.rejectStock; try dsimp only
  repeat' split
  all_goals first | (simp; done) | (split <;> simp)
@[simp] theorem State.rejectStock_film (s : State) : (s.rejectStock).film = s.film := by
  unfold State.rejectStock; try dsimp only
  repeat' split
  all_goals first | (simp; done) | (split <;> simp)
@[simp] theorem State.rejectStock_stu (s : State) : (s.rejectStock).stu = s.stu := by
  unfold State.rejectStock; try dsimp only
  repeat' split
  all_goals first | (simp; done) | (split <;> simp)
@[simp] theorem State.rejectStock_lcu (s : State) : (s.rejectStock).lcu = s.lcu := by
  unfold State.rejectStock; try dsimp only
  repeat' split
  all_goals first | (simp; done) | (split <;> simp)
@[simp] theorem State.rejectStock_pins (s : State) : (s.rejectStock).pins = s.pins := by
  unfold State.rejectStock; try dsimp only
  repeat' split
  all_goals first | (simp; done) | (split <;> simp)
@[simp] theorem State.requestLine_outer (s : State) (f : LineFetch) : (s.requestLine f).outer = s.outer := by
  rfl
@[simp] theorem State.requestLine_film (s : State) (f : LineFetch) : (s.requestLine f).film = s.film := by
  rfl
@[simp] theorem State.requestLine_stu (s : State) (f : LineFetch) : (s.requestLine f).stu = s.stu := by
  rfl
@[simp] theorem State.requestLine_lcu (s : State) (f : LineFetch) : (s.requestLine f).lcu = s.lcu := by
  rfl
@[simp] theorem State.requestLine_pins (s : State) (f : LineFetch) : (s.requestLine f).pins = s.pins := by
  rfl
@[simp] theorem State.filmEnd_outer (s : State) : (s.filmEnd).outer = s.outer := by
  unfold State.filmEnd; try dsimp only
  repeat' split
  all_goals first | (simp; done) | (split <;> simp)
@[simp] theorem State.filmEnd_film (s : State) : (s.filmEnd).film = s.film := by
  unfold State.filmEnd; try dsimp only
  repeat' split
  all_goals first | (simp; done) | (split <;> simp)
@[simp] theorem State.filmEnd_stu (s : State) : (s.filmEnd).stu = s.stu := by
  unfold State.filmEnd; try dsimp only
  repeat' split
  all_goals first | (simp; done) | (split <;> simp)
@[simp] theorem State.filmEnd_lcu (s : State) : (s.filmEnd).lcu = s.lcu := by
  unfold State.filmEnd; try dsimp only
  repeat' split
  all_goals first | (simp; done) | (split <;> simp)
@[simp] theorem State.filmEnd_pins (s : State) : (s.filmEnd).pins = s.pins := by
  unfold State.filmEnd; try dsimp only
  repeat' split
  all_goals first | (simp; done) | (split <;> simp)
@[simp] theorem State.appendRecord_outer (s : State) (r : MapRecord) : (s.appendRecord r).outer = s.outer := by
  simp [State.appendRecord]
@[simp] theorem State.appendRecord_stu (s : State) (r : MapRecord) : (s.appendRecord r).stu = s.stu := by
  simp [State.appendRecord]
@[simp] theorem State.appendRecord_lcu (s : State) (r : MapRecord) : (s.appendRecord r).lcu = s.lcu := by
  simp [State.appendRecord]
@[simp] theorem State.appendRecord_pins (s : State) (r : MapRecord) : (s.appendRecord r).pins = s.pins := by
  simp [State.appendRecord]

/-- Without a read in flight there is none to serve. -/
theorem State.serveWaiting_idle {s : State} (h : s.port.waiting = none) : s.serveWaiting = s := by
  unfold State.serveWaiting
  rw [h]

/-- The service of the read in flight writes the port alone, keeps its link and leaves no read in flight. -/
theorem State.serveWaiting_spec (s : State) :
    ∃ p : FramePort, s.serveWaiting = s.withPort p ∧ p.linkUp = s.port.linkUp ∧ p.waiting = none := by
  unfold State.serveWaiting
  split
  · exact ⟨_, rfl, rfl, rfl⟩
  · next h => exact ⟨s.port, rfl, rfl, h⟩

/-- A port read that arrives writes the port alone and keeps its link (R30, R176). -/
theorem State.takeRead_spec (s : State) (offset length records : Nat) :
    ∃ p : FramePort, s.takeRead offset length records = s.withPort p ∧ p.linkUp = s.port.linkUp := by
  obtain ⟨p, h, hl, _⟩ := s.serveWaiting_spec
  unfold State.takeRead
  rw [h]
  dsimp only
  split
  · exact ⟨_, rfl, hl⟩
  · exact ⟨_, rfl, hl⟩

/-- What the read in flight and its service write is the port alone, and never its link (R176). -/
theorem State.recordWritten_port (s : State) :
    ∃ p : FramePort, s.recordWritten = s.withPort p ∧ p.linkUp = s.port.linkUp := by
  unfold State.recordWritten State.serveWaiting
  split
  · split
    · split
      · exact ⟨_, rfl, rfl⟩
      · exact ⟨s.port, rfl, rfl⟩
    · exact ⟨_, rfl, rfl⟩
  · exact ⟨s.port, rfl, rfl⟩
/-- Without a read in flight the writing of a record serves none. -/
theorem State.recordWritten_idle {s : State} (h : s.port.waiting = none) : s.recordWritten = s := by
  unfold State.recordWritten
  rw [h]
@[simp] theorem State.recordWritten_dbi (s : State) : (s.recordWritten).dbi = s.dbi := by
  obtain ⟨p, h, _⟩ := s.recordWritten_port
  rw [h]
  rfl
@[simp] theorem State.recordWritten_fmc (s : State) : (s.recordWritten).fmc = s.fmc := by
  obtain ⟨p, h, _⟩ := s.recordWritten_port
  rw [h]
  rfl
@[simp] theorem State.recordWritten_fq (s : State) : (s.recordWritten).fq = s.fq := by
  obtain ⟨p, h, _⟩ := s.recordWritten_port
  rw [h]
  rfl
@[simp] theorem State.recordWritten_sr (s : State) : (s.recordWritten).sr = s.sr := by
  obtain ⟨p, h, _⟩ := s.recordWritten_port
  rw [h]
  rfl
@[simp] theorem State.recordWritten_optics (s : State) : (s.recordWritten).optics = s.optics := by
  obtain ⟨p, h, _⟩ := s.recordWritten_port
  rw [h]
  rfl
@[simp] theorem State.recordWritten_cs (s : State) : (s.recordWritten).cs = s.cs := by
  obtain ⟨p, h, _⟩ := s.recordWritten_port
  rw [h]
  rfl
@[simp] theorem State.recordWritten_stu (s : State) : (s.recordWritten).stu = s.stu := by
  obtain ⟨p, h, _⟩ := s.recordWritten_port
  rw [h]
  rfl
@[simp] theorem State.recordWritten_lcu (s : State) : (s.recordWritten).lcu = s.lcu := by
  obtain ⟨p, h, _⟩ := s.recordWritten_port
  rw [h]
  rfl
@[simp] theorem State.recordWritten_gc (s : State) : (s.recordWritten).gc = s.gc := by
  obtain ⟨p, h, _⟩ := s.recordWritten_port
  rw [h]
  rfl
@[simp] theorem State.recordWritten_rm (s : State) : (s.recordWritten).rm = s.rm := by
  obtain ⟨p, h, _⟩ := s.recordWritten_port
  rw [h]
  rfl
@[simp] theorem State.recordWritten_au (s : State) : (s.recordWritten).au = s.au := by
  obtain ⟨p, h, _⟩ := s.recordWritten_port
  rw [h]
  rfl
@[simp] theorem State.recordWritten_pins (s : State) : (s.recordWritten).pins = s.pins := by
  obtain ⟨p, h, _⟩ := s.recordWritten_port
  rw [h]
  rfl
@[simp] theorem State.recordWritten_free (s : State) : (s.recordWritten).free = s.free := by
  obtain ⟨p, h, _⟩ := s.recordWritten_port
  rw [h]
  rfl
@[simp] theorem State.recordWritten_pending (s : State) : (s.recordWritten).pending = s.pending := by
  obtain ⟨p, h, _⟩ := s.recordWritten_port
  rw [h]
  rfl
@[simp] theorem State.recordWritten_bus (s : State) : (s.recordWritten).bus = s.bus := by
  simp [State.bus, State.outer]
/-- The end of an event's records writes the port alone, and never its link (R176). -/
theorem State.recordsEnd_port (b s : State) :
    ∃ p : FramePort, State.recordsEnd b s = s.withPort p ∧ p.linkUp = s.port.linkUp := by
  unfold State.recordsEnd
  split
  · exact ⟨s.port, rfl, rfl⟩
  · obtain ⟨p, h, hl, _⟩ := s.serveWaiting_spec
    exact ⟨p, h, hl⟩
/-- Without a read in flight the end of the records serves none. -/
theorem State.recordsEnd_idle (b : State) {s : State} (h : s.port.waiting = none) : State.recordsEnd b s = s := by
  unfold State.recordsEnd
  rw [State.serveWaiting_idle h]
  split <;> rfl
@[simp] theorem State.recordsEnd_dbi (b s : State) : (State.recordsEnd b s).dbi = s.dbi := by
  obtain ⟨p, h, _⟩ := State.recordsEnd_port b s
  rw [h]
  rfl
@[simp] theorem State.recordsEnd_fmc (b s : State) : (State.recordsEnd b s).fmc = s.fmc := by
  obtain ⟨p, h, _⟩ := State.recordsEnd_port b s
  rw [h]
  rfl
@[simp] theorem State.recordsEnd_fq (b s : State) : (State.recordsEnd b s).fq = s.fq := by
  obtain ⟨p, h, _⟩ := State.recordsEnd_port b s
  rw [h]
  rfl
@[simp] theorem State.recordsEnd_sr (b s : State) : (State.recordsEnd b s).sr = s.sr := by
  obtain ⟨p, h, _⟩ := State.recordsEnd_port b s
  rw [h]
  rfl
@[simp] theorem State.recordsEnd_optics (b s : State) : (State.recordsEnd b s).optics = s.optics := by
  obtain ⟨p, h, _⟩ := State.recordsEnd_port b s
  rw [h]
  rfl
@[simp] theorem State.recordsEnd_cs (b s : State) : (State.recordsEnd b s).cs = s.cs := by
  obtain ⟨p, h, _⟩ := State.recordsEnd_port b s
  rw [h]
  rfl
@[simp] theorem State.recordsEnd_stu (b s : State) : (State.recordsEnd b s).stu = s.stu := by
  obtain ⟨p, h, _⟩ := State.recordsEnd_port b s
  rw [h]
  rfl
@[simp] theorem State.recordsEnd_lcu (b s : State) : (State.recordsEnd b s).lcu = s.lcu := by
  obtain ⟨p, h, _⟩ := State.recordsEnd_port b s
  rw [h]
  rfl
@[simp] theorem State.recordsEnd_gc (b s : State) : (State.recordsEnd b s).gc = s.gc := by
  obtain ⟨p, h, _⟩ := State.recordsEnd_port b s
  rw [h]
  rfl
@[simp] theorem State.recordsEnd_rm (b s : State) : (State.recordsEnd b s).rm = s.rm := by
  obtain ⟨p, h, _⟩ := State.recordsEnd_port b s
  rw [h]
  rfl
@[simp] theorem State.recordsEnd_au (b s : State) : (State.recordsEnd b s).au = s.au := by
  obtain ⟨p, h, _⟩ := State.recordsEnd_port b s
  rw [h]
  rfl
@[simp] theorem State.recordsEnd_pins (b s : State) : (State.recordsEnd b s).pins = s.pins := by
  obtain ⟨p, h, _⟩ := State.recordsEnd_port b s
  rw [h]
  rfl
@[simp] theorem State.recordsEnd_free (b s : State) : (State.recordsEnd b s).free = s.free := by
  obtain ⟨p, h, _⟩ := State.recordsEnd_port b s
  rw [h]
  rfl
@[simp] theorem State.recordsEnd_pending (b s : State) : (State.recordsEnd b s).pending = s.pending := by
  obtain ⟨p, h, _⟩ := State.recordsEnd_port b s
  rw [h]
  rfl
@[simp] theorem State.recordsEnd_bus (b s : State) : (State.recordsEnd b s).bus = s.bus := by
  simp [State.bus, State.outer]
@[simp] theorem State.appendRecord_port (s : State) (r : MapRecord) : (s.appendRecord r).port = s.port := by
  simp [State.appendRecord, State.writeBytes]
@[simp] theorem State.appendUnknown_stu (s : State) (n : Nat) : (s.appendUnknown n).stu = s.stu := by
  induction n generalizing s with
  | zero => rfl
  | succ n ih => simp [State.appendUnknown, ih]
@[simp] theorem State.appendUnknown_lcu (s : State) (n : Nat) : (s.appendUnknown n).lcu = s.lcu := by
  induction n generalizing s with
  | zero => rfl
  | succ n ih => simp [State.appendUnknown, ih]
@[simp] theorem State.appendUnknown_pins (s : State) (n : Nat) : (s.appendUnknown n).pins = s.pins := by
  induction n generalizing s with
  | zero => rfl
  | succ n ih => simp [State.appendUnknown, ih]
@[simp] theorem State.appendUnknown_bus (s : State) (n : Nat) : (s.appendUnknown n).bus = s.bus := by
  induction n generalizing s with
  | zero => rfl
  | succ n ih => rw [State.appendUnknown, ih, State.recordWritten_bus]; simp [State.bus]
theorem State.appendUnknown_outer (s : State) (n : Nat) (h : s.port.waiting = none) : (s.appendUnknown n).outer = s.outer := by
  induction n generalizing s with
  | zero => rfl
  | succ n ih =>
    rw [State.appendUnknown, State.recordWritten_idle (by simpa using h), ih _ (by simpa using h)]
    simp
@[simp] theorem State.appendBlank_stu (s : State) (e : Entry) (n q : Nat) : (s.appendBlank e n q).stu = s.stu := by
  induction n generalizing s q with
  | zero => rfl
  | succ n ih => simp [State.appendBlank, ih]
@[simp] theorem State.appendBlank_lcu (s : State) (e : Entry) (n q : Nat) : (s.appendBlank e n q).lcu = s.lcu := by
  induction n generalizing s q with
  | zero => rfl
  | succ n ih => simp [State.appendBlank, ih]
@[simp] theorem State.appendBlank_pins (s : State) (e : Entry) (n q : Nat) : (s.appendBlank e n q).pins = s.pins := by
  induction n generalizing s q with
  | zero => rfl
  | succ n ih => simp [State.appendBlank, ih]
@[simp] theorem State.appendBlank_bus (s : State) (e : Entry) (n q : Nat) : (s.appendBlank e n q).bus = s.bus := by
  induction n generalizing s q with
  | zero => rfl
  | succ n ih => rw [State.appendBlank, ih, State.recordWritten_bus]; simp [State.bus]
theorem State.appendBlank_outer (s : State) (e : Entry) (n q : Nat) (h : s.port.waiting = none) : (s.appendBlank e n q).outer = s.outer := by
  induction n generalizing s q with
  | zero => rfl
  | succ n ih =>
    rw [State.appendBlank, State.recordWritten_idle (by simpa using h), ih _ _ (by simpa using h)]
    simp
@[simp] theorem State.withGate_outer (s : State) (g : GateCycle) : (s.withGate g).outer = s.outer := by
  rfl
@[simp] theorem State.withGate_stu (s : State) (g : GateCycle) : (s.withGate g).stu = s.stu := by
  rfl
@[simp] theorem State.withGate_lcu (s : State) (g : GateCycle) : (s.withGate g).lcu = s.lcu := by
  rfl
@[simp] theorem State.withGate_pins (s : State) (g : GateCycle) : (s.withGate g).pins = s.pins := by
  rfl
@[simp] theorem State.mapExposure_outer (s : State) (f : Exposure → Exposure) : (s.mapExposure f).outer = s.outer := by
  unfold State.mapExposure; split <;> rfl
@[simp] theorem State.mapExposure_stu (s : State) (f : Exposure → Exposure) : (s.mapExposure f).stu = s.stu := by
  unfold State.mapExposure; split <;> rfl
@[simp] theorem State.mapExposure_lcu (s : State) (f : Exposure → Exposure) : (s.mapExposure f).lcu = s.lcu := by
  unfold State.mapExposure; split <;> rfl
@[simp] theorem State.mapExposure_pins (s : State) (f : Exposure → Exposure) : (s.mapExposure f).pins = s.pins := by
  unfold State.mapExposure; split <;> rfl
@[simp] theorem State.advanceFilm_outer (s : State) (n : Nat) : (s.advanceFilm n).outer = s.outer := by
  rfl
@[simp] theorem State.advanceFilm_stu (s : State) (n : Nat) : (s.advanceFilm n).stu = s.stu := by
  rfl
@[simp] theorem State.advanceFilm_lcu (s : State) (n : Nat) : (s.advanceFilm n).lcu = s.lcu := by
  rfl
@[simp] theorem State.advanceFilm_pins (s : State) (n : Nat) : (s.advanceFilm n).pins = s.pins := by
  rfl
@[simp] theorem State.gateAfterAbort_outer (s : State) (r : SpoilReason) : (s.gateAfterAbort r).outer = s.outer := by
  cases r <;> rfl
@[simp] theorem State.gateAfterAbort_stu (s : State) (r : SpoilReason) : (s.gateAfterAbort r).stu = s.stu := by
  cases r <;> rfl
@[simp] theorem State.gateAfterAbort_lcu (s : State) (r : SpoilReason) : (s.gateAfterAbort r).lcu = s.lcu := by
  cases r <;> rfl
@[simp] theorem State.gateAfterAbort_pins (s : State) (r : SpoilReason) : (s.gateAfterAbort r).pins = s.pins := by
  cases r <;> rfl
@[simp] theorem State.mapLasers_outer (s : State) (f : LaserUnit → LaserUnit) : (s.mapLasers f).outer = s.outer := by
  rfl
@[simp] theorem State.mapLasers_film (s : State) (f : LaserUnit → LaserUnit) : (s.mapLasers f).film = s.film := by
  rfl
@[simp] theorem State.mapLasers_stu (s : State) (f : LaserUnit → LaserUnit) : (s.mapLasers f).stu = s.stu := by
  rfl
@[simp] theorem State.mapLasers_pins (s : State) (f : LaserUnit → LaserUnit) : (s.mapLasers f).pins = s.pins := by
  rfl
@[simp] theorem State.mapLaser_outer (s : State) (c : Channel) (f : LaserUnit → LaserUnit) : (s.mapLaser c f).outer = s.outer := by
  rfl
@[simp] theorem State.mapLaser_film (s : State) (c : Channel) (f : LaserUnit → LaserUnit) : (s.mapLaser c f).film = s.film := by
  rfl
@[simp] theorem State.mapLaser_stu (s : State) (c : Channel) (f : LaserUnit → LaserUnit) : (s.mapLaser c f).stu = s.stu := by
  rfl
@[simp] theorem State.mapLaser_pins (s : State) (c : Channel) (f : LaserUnit → LaserUnit) : (s.mapLaser c f).pins = s.pins := by
  rfl
@[simp] theorem State.dropDrives_outer (s : State) : (s.dropDrives).outer = s.outer := by
  rfl
@[simp] theorem State.dropDrives_film (s : State) : (s.dropDrives).film = s.film := by
  rfl
@[simp] theorem State.dropDrives_stu (s : State) : (s.dropDrives).stu = s.stu := by
  rfl
@[simp] theorem State.dropDrives_pins (s : State) : (s.dropDrives).pins = s.pins := by
  rfl
@[simp] theorem State.abort_outer (s : State) (r : SpoilReason) : (s.abort r).outer = s.outer := by
  unfold State.abort; cases s.exposure? with
  | none => rfl
  | some x => by_cases h : r = .magRemoved <;> by_cases k : r = .reset <;> simp [h, k]
@[simp] theorem State.abort_stu (s : State) (r : SpoilReason) : (s.abort r).stu = s.stu := by
  unfold State.abort; cases s.exposure? with
  | none => rfl
  | some x => by_cases h : r = .magRemoved <;> by_cases k : r = .reset <;> simp [h, k]
@[simp] theorem State.abort_pins (s : State) (r : SpoilReason) : (s.abort r).pins = s.pins := by
  unfold State.abort; cases s.exposure? with
  | none => rfl
  | some x => by_cases h : r = .magRemoved <;> by_cases k : r = .reset <;> simp [h, k]
@[simp] theorem State.frameEnd_outer (s : State) : (s.frameEnd).outer = s.outer := by
  unfold State.frameEnd; dsimp only; repeat' split
  all_goals simp
@[simp] theorem State.frameEnd_stu (s : State) : (s.frameEnd).stu = s.stu := by
  unfold State.frameEnd; dsimp only; repeat' split
  all_goals simp
@[simp] theorem State.frameEnd_lcu (s : State) : (s.frameEnd).lcu = s.lcu := by
  unfold State.frameEnd; dsimp only; repeat' split
  all_goals simp
@[simp] theorem State.frameEnd_pins (s : State) : (s.frameEnd).pins = s.pins := by
  unfold State.frameEnd; dsimp only; repeat' split
  all_goals simp
@[simp] theorem State.beginExposure_outer (s : State) (e : Entry) (i : ImagePart) (c : SetContent) (q : Nat) : (s.beginExposure e i c q).outer = s.outer := by
  rfl
@[simp] theorem State.beginExposure_stu (s : State) (e : Entry) (i : ImagePart) (c : SetContent) (q : Nat) : (s.beginExposure e i c q).stu = s.stu := by
  rfl
@[simp] theorem State.beginExposure_lcu (s : State) (e : Entry) (i : ImagePart) (c : SetContent) (q : Nat) : (s.beginExposure e i c q).lcu = s.lcu := by
  rfl
@[simp] theorem State.beginExposure_pins (s : State) (e : Entry) (i : ImagePart) (c : SetContent) (q : Nat) : (s.beginExposure e i c q).pins = s.pins := by
  rfl
@[simp] theorem State.frameStart_outer (s : State) : (s.frameStart).outer = s.outer := by
  unfold State.frameStart; try dsimp only
  repeat' split
  all_goals first | (simp; done) | (split <;> simp)
@[simp] theorem State.frameStart_stu (s : State) : (s.frameStart).stu = s.stu := by
  unfold State.frameStart; try dsimp only
  repeat' split
  all_goals first | (simp; done) | (split <;> simp)
@[simp] theorem State.frameStart_lcu (s : State) : (s.frameStart).lcu = s.lcu := by
  unfold State.frameStart; try dsimp only
  repeat' split
  all_goals first | (simp; done) | (split <;> simp)
@[simp] theorem State.frameStart_pins (s : State) : (s.frameStart).pins = s.pins := by
  unfold State.frameStart; try dsimp only
  repeat' split
  all_goals first | (simp; done) | (split <;> simp)
@[simp] theorem State.runoutStart_bus (s : State) : (s.runoutStart).bus = s.bus := by
  unfold State.runoutStart; dsimp only; repeat' split
  · have h := fun e n q => s.appendBlank_bus e n q
    simpa [State.bus] using h _ _ _
  all_goals rfl
theorem State.runoutStart_outer {s : State} (h : s.port.waiting = none) : (s.runoutStart).outer = s.outer := by
  unfold State.runoutStart; dsimp only; repeat' split
  · have h' := fun e n q => s.appendBlank_outer e n q h
    simpa using h' _ _ _
  all_goals rfl
@[simp] theorem State.runoutStart_stu (s : State) : (s.runoutStart).stu = s.stu := by
  unfold State.runoutStart; dsimp only; repeat' split
  all_goals simp
@[simp] theorem State.runoutStart_lcu (s : State) : (s.runoutStart).lcu = s.lcu := by
  unfold State.runoutStart; dsimp only; repeat' split
  all_goals simp
@[simp] theorem State.runoutStart_pins (s : State) : (s.runoutStart).pins = s.pins := by
  unfold State.runoutStart; dsimp only; repeat' split
  all_goals simp
@[simp] theorem State.startIfDue_bus (b s : State) : (State.startIfDue b s).bus = s.bus := by
  unfold State.startIfDue
  split
  · simp [State.bus]
  · split
    · exact s.runoutStart_bus
    · rfl
theorem State.startIfDue_outer (b : State) {s : State} (h : s.port.waiting = none) :
    (State.startIfDue b s).outer = s.outer := by
  unfold State.startIfDue
  split
  · simp
  · split
    · exact State.runoutStart_outer h
    · rfl
@[simp] theorem State.startIfDue_stu (b s : State) : (State.startIfDue b s).stu = s.stu := by
  unfold State.startIfDue; try dsimp only
  repeat' split
  all_goals first | (simp; done) | (split <;> simp)
@[simp] theorem State.startIfDue_lcu (b s : State) : (State.startIfDue b s).lcu = s.lcu := by
  unfold State.startIfDue; try dsimp only
  repeat' split
  all_goals first | (simp; done) | (split <;> simp)
@[simp] theorem State.startIfDue_pins (b s : State) : (State.startIfDue b s).pins = s.pins := by
  unfold State.startIfDue; try dsimp only
  repeat' split
  all_goals first | (simp; done) | (split <;> simp)
@[simp] theorem State.beginLine_outer (s : State) : (s.beginLine).outer = s.outer := by
  unfold State.beginLine; try dsimp only
  repeat' split
  all_goals first | (simp; done) | (split <;> simp)
@[simp] theorem State.beginLine_stu (s : State) : (s.beginLine).stu = s.stu := by
  unfold State.beginLine; try dsimp only
  repeat' split
  all_goals first | (simp; done) | (split <;> simp)
@[simp] theorem State.beginLine_lcu (s : State) : (s.beginLine).lcu = s.lcu := by
  unfold State.beginLine; try dsimp only
  repeat' split
  all_goals first | (simp; done) | (split <;> simp)
@[simp] theorem State.beginLine_pins (s : State) : (s.beginLine).pins = s.pins := by
  unfold State.beginLine; try dsimp only
  repeat' split
  all_goals first | (simp; done) | (split <;> simp)
@[simp] theorem State.dropLine_outer (s : State) (y : Nat) : (s.dropLine y).outer = s.outer := by
  unfold State.dropLine; dsimp only; repeat' split
  all_goals simp
@[simp] theorem State.dropLine_stu (s : State) (y : Nat) : (s.dropLine y).stu = s.stu := by
  unfold State.dropLine; dsimp only; repeat' split
  all_goals simp
@[simp] theorem State.dropLine_lcu (s : State) (y : Nat) : (s.dropLine y).lcu = s.lcu := by
  unfold State.dropLine; dsimp only; repeat' split
  all_goals simp
@[simp] theorem State.dropLine_pins (s : State) (y : Nat) : (s.dropLine y).pins = s.pins := by
  unfold State.dropLine; dsimp only; repeat' split
  all_goals simp
@[simp] theorem State.takeLine_outer (s : State) (r : LineRecord) : (s.takeLine r).outer = s.outer := by
  simp [State.takeLine]
@[simp] theorem State.takeLine_stu (s : State) (r : LineRecord) : (s.takeLine r).stu = s.stu := by
  simp [State.takeLine]
@[simp] theorem State.takeLine_pins (s : State) (r : LineRecord) : (s.takeLine r).pins = s.pins := by
  simp [State.takeLine]
@[simp] theorem State.blankLine_outer (s : State) (y : Nat) : (s.blankLine y).outer = s.outer := by
  unfold State.blankLine; try dsimp only
  repeat' split
  all_goals first | (simp; done) | (split <;> simp)
@[simp] theorem State.blankLine_stu (s : State) (y : Nat) : (s.blankLine y).stu = s.stu := by
  unfold State.blankLine; try dsimp only
  repeat' split
  all_goals first | (simp; done) | (split <;> simp)
@[simp] theorem State.blankLine_lcu (s : State) (y : Nat) : (s.blankLine y).lcu = s.lcu := by
  unfold State.blankLine; try dsimp only
  repeat' split
  all_goals first | (simp; done) | (split <;> simp)
@[simp] theorem State.blankLine_pins (s : State) (y : Nat) : (s.blankLine y).pins = s.pins := by
  unfold State.blankLine; try dsimp only
  repeat' split
  all_goals first | (simp; done) | (split <;> simp)
@[simp] theorem State.putLine_outer (s : State) (x : Exposure) : (s.putLine x).outer = s.outer := by
  unfold State.putLine; try dsimp only
  repeat' split
  all_goals first | (simp; done) | (split <;> simp)
@[simp] theorem State.putLine_stu (s : State) (x : Exposure) : (s.putLine x).stu = s.stu := by
  unfold State.putLine; try dsimp only
  repeat' split
  all_goals first | (simp; done) | (split <;> simp)
@[simp] theorem State.putLine_pins (s : State) (x : Exposure) : (s.putLine x).pins = s.pins := by
  unfold State.putLine; try dsimp only
  repeat' split
  all_goals first | (simp; done) | (split <;> simp)
@[simp] theorem State.endLine_outer (s : State) (k : LineKind) : (s.endLine k).outer = s.outer := by
  unfold State.endLine; try dsimp only
  repeat' split
  all_goals first | (simp; done) | (split <;> simp)
@[simp] theorem State.endLine_stu (s : State) (k : LineKind) : (s.endLine k).stu = s.stu := by
  unfold State.endLine; try dsimp only
  repeat' split
  all_goals first | (simp; done) | (split <;> simp)
@[simp] theorem State.endLine_lcu (s : State) (k : LineKind) : (s.endLine k).lcu = s.lcu := by
  unfold State.endLine; try dsimp only
  repeat' split
  all_goals first | (simp; done) | (split <;> simp)
@[simp] theorem State.lineOut_outer (s : State) (f : Option Nat) : (s.lineOut f).outer = s.outer := by
  unfold State.lineOut; dsimp only; repeat' split
  all_goals simp
@[simp] theorem State.lineOut_stu (s : State) (f : Option Nat) : (s.lineOut f).stu = s.stu := by
  unfold State.lineOut; dsimp only; repeat' split
  all_goals simp
@[simp] theorem State.updateIdle_outer (s : State) : (s.updateIdle).outer = s.outer := by
  unfold State.updateIdle; try dsimp only
  repeat' split
  all_goals first | (simp; done) | (split <;> simp)
@[simp] theorem State.updateIdle_film (s : State) : (s.updateIdle).film = s.film := by
  unfold State.updateIdle; try dsimp only
  repeat' split
  all_goals first | (simp; done) | (split <;> simp)
@[simp] theorem State.updateIdle_lcu (s : State) : (s.updateIdle).lcu = s.lcu := by
  unfold State.updateIdle; try dsimp only
  repeat' split
  all_goals first | (simp; done) | (split <;> simp)
@[simp] theorem State.updateIdle_pins (s : State) : (s.updateIdle).pins = s.pins := by
  unfold State.updateIdle; try dsimp only
  repeat' split
  all_goals first | (simp; done) | (split <;> simp)
@[simp] theorem State.quiesce_outer (s : State) : (s.quiesce).outer = s.outer := by
  unfold State.quiesce; try dsimp only
  repeat' split
  all_goals first | (simp; done) | (split <;> simp)
@[simp] theorem State.quiesce_lcu (s : State) : (s.quiesce).lcu = s.lcu := by
  unfold State.quiesce; try dsimp only
  repeat' split
  all_goals first | (simp; done) | (split <;> simp)
@[simp] theorem State.quiesce_pins (s : State) : (s.quiesce).pins = s.pins := by
  unfold State.quiesce; try dsimp only
  repeat' split
  all_goals first | (simp; done) | (split <;> simp)
@[simp] theorem State.settle_bus (b s : State) : (State.settle b s).bus = s.bus := by
  have h : (State.recordsEnd b (State.startIfDue b s)).bus = s.bus := by
    rw [State.recordsEnd_bus, State.startIfDue_bus]
  simpa [State.settle, State.bus] using h
theorem State.settle_outer (b : State) {s : State} (h : s.port.waiting = none) :
    (State.settle b s).outer = s.outer := by
  have h' := State.startIfDue_outer b h
  have hp : (State.startIfDue b s).port.waiting = none :=
    (congrArg (fun o => o.2.1.waiting) h').trans h
  rw [State.settle, State.recordsEnd_idle b hp]
  simpa using h'
@[simp] theorem State.settle_lcu (b s : State) : (State.settle b s).lcu = s.lcu := by
  unfold State.settle; try dsimp only
  repeat' split
  all_goals first | (simp; done) | (split <;> simp)
@[simp] theorem State.settle_pins (b s : State) : (State.settle b s).pins = s.pins := by
  unfold State.settle; try dsimp only
  repeat' split
  all_goals first | (simp; done) | (split <;> simp)
@[simp] theorem State.wake_outer (s : State) : (s.wake).outer = s.outer := by
  rfl
@[simp] theorem State.wake_film (s : State) : (s.wake).film = s.film := by
  rfl
@[simp] theorem State.wake_lcu (s : State) : (s.wake).lcu = s.lcu := by
  rfl
@[simp] theorem State.wake_pins (s : State) : (s.wake).pins = s.pins := by
  rfl
@[simp] theorem State.wakeIfDue_outer (s : State) : (s.wakeIfDue).outer = s.outer := by
  unfold State.wakeIfDue; try dsimp only
  repeat' split
  all_goals first | (simp; done) | (split <;> simp)
@[simp] theorem State.wakeIfDue_film (s : State) : (s.wakeIfDue).film = s.film := by
  unfold State.wakeIfDue; try dsimp only
  repeat' split
  all_goals first | (simp; done) | (split <;> simp)
@[simp] theorem State.wakeIfDue_lcu (s : State) : (s.wakeIfDue).lcu = s.lcu := by
  unfold State.wakeIfDue; try dsimp only
  repeat' split
  all_goals first | (simp; done) | (split <;> simp)
@[simp] theorem State.wakeIfDue_pins (s : State) : (s.wakeIfDue).pins = s.pins := by
  unfold State.wakeIfDue; try dsimp only
  repeat' split
  all_goals first | (simp; done) | (split <;> simp)
@[simp] theorem State.channelsOff_outer (s : State) : (s.channelsOff).outer = s.outer := by
  rfl
@[simp] theorem State.channelsOff_film (s : State) : (s.channelsOff).film = s.film := by
  rfl
@[simp] theorem State.channelsOff_stu (s : State) : (s.channelsOff).stu = s.stu := by
  rfl
@[simp] theorem State.channelsOff_pins (s : State) : (s.channelsOff).pins = s.pins := by
  rfl
@[simp] theorem State.stopScanner_outer (s : State) : (s.stopScanner).outer = s.outer := by
  rfl
@[simp] theorem State.stopScanner_film (s : State) : (s.stopScanner).film = s.film := by
  rfl
@[simp] theorem State.stopScanner_pins (s : State) : (s.stopScanner).pins = s.pins := by
  rfl
@[simp] theorem State.haltScanner_outer (s : State) : (s.haltScanner).outer = s.outer := by
  unfold State.haltScanner; try dsimp only
  repeat' split
  all_goals first | (simp; done) | (split <;> simp)
@[simp] theorem State.haltScanner_film (s : State) : (s.haltScanner).film = s.film := by
  unfold State.haltScanner; try dsimp only
  repeat' split
  all_goals first | (simp; done) | (split <;> simp)
@[simp] theorem State.haltScanner_pins (s : State) : (s.haltScanner).pins = s.pins := by
  unfold State.haltScanner; try dsimp only
  repeat' split
  all_goals first | (simp; done) | (split <;> simp)
@[simp] theorem State.loseLock_outer (s : State) : (s.loseLock).outer = s.outer := by
  simp [State.loseLock]
@[simp] theorem State.loseLock_pins (s : State) : (s.loseLock).pins = s.pins := by
  simp [State.loseLock]
@[simp] theorem State.lock_outer (s : State) : (s.lock).outer = s.outer := by
  unfold State.lock; dsimp only; split <;> simp
@[simp] theorem State.lock_film (s : State) : (s.lock).film = s.film := by
  unfold State.lock; dsimp only; split <;> simp
@[simp] theorem State.lock_pins (s : State) : (s.lock).pins = s.pins := by
  unfold State.lock; dsimp only; split <;> simp
@[simp] theorem State.scannerFault_outer (s : State) : (s.scannerFault).outer = s.outer := by
  rfl
@[simp] theorem State.scannerFault_film (s : State) : (s.scannerFault).film = s.film := by
  rfl
@[simp] theorem State.scannerFault_pins (s : State) : (s.scannerFault).pins = s.pins := by
  rfl
@[simp] theorem State.halt_outer (s : State) : (s.halt).outer = s.outer := by
  unfold State.halt; dsimp only; split <;> simp
@[simp] theorem State.halt_pins (s : State) : (s.halt).pins = s.pins := by
  unfold State.halt; dsimp only; split <;> simp
@[simp] theorem State.faultChannel_outer (s : State) (c : Channel) : (s.faultChannel c).outer = s.outer := by
  simp [State.faultChannel]
@[simp] theorem State.faultChannel_stu (s : State) (c : Channel) : (s.faultChannel c).stu = s.stu := by
  simp [State.faultChannel]
@[simp] theorem State.faultChannel_pins (s : State) (c : Channel) : (s.faultChannel c).pins = s.pins := by
  simp [State.faultChannel]
@[simp] theorem State.sampleChannel_outer (s : State) (c : Channel) (m : BitVec 12) : (s.sampleChannel c m).outer = s.outer := by
  unfold State.sampleChannel; dsimp only; repeat' split
  all_goals simp
@[simp] theorem State.sampleChannel_stu (s : State) (c : Channel) (m : BitVec 12) : (s.sampleChannel c m).stu = s.stu := by
  unfold State.sampleChannel; dsimp only; repeat' split
  all_goals simp
@[simp] theorem State.sampleChannel_pins (s : State) (c : Channel) (m : BitVec 12) : (s.sampleChannel c m).pins = s.pins := by
  unfold State.sampleChannel; dsimp only; repeat' split
  all_goals simp
@[simp] theorem State.countMark_outer (s : State) (p : Option Nat) : (s.countMark p).outer = s.outer := by
  rfl
@[simp] theorem State.countMark_film (s : State) (p : Option Nat) : (s.countMark p).film = s.film := by
  rfl
@[simp] theorem State.countMark_lcu (s : State) (p : Option Nat) : (s.countMark p).lcu = s.lcu := by
  rfl
@[simp] theorem State.countMark_pins (s : State) (p : Option Nat) : (s.countMark p).pins = s.pins := by
  rfl
@[simp] theorem State.judgeAcquiring_outer (s : State) (p : Option Nat) (k : Bool) : (s.judgeAcquiring p k).outer = s.outer := by
  unfold State.judgeAcquiring; dsimp only; repeat' split
  all_goals simp
@[simp] theorem State.judgeAcquiring_film (s : State) (p : Option Nat) (k : Bool) : (s.judgeAcquiring p k).film = s.film := by
  unfold State.judgeAcquiring; dsimp only; repeat' split
  all_goals simp
@[simp] theorem State.judgeAcquiring_pins (s : State) (p : Option Nat) (k : Bool) : (s.judgeAcquiring p k).pins = s.pins := by
  unfold State.judgeAcquiring; dsimp only; repeat' split
  all_goals simp
@[simp] theorem State.judgeLocked_outer (s : State) (p : Option Nat) : (s.judgeLocked p).outer = s.outer := by
  unfold State.judgeLocked; dsimp only; repeat' split
  all_goals simp
@[simp] theorem State.judgeLocked_pins (s : State) (p : Option Nat) : (s.judgeLocked p).pins = s.pins := by
  unfold State.judgeLocked; dsimp only; repeat' split
  all_goals simp
@[simp] theorem State.firstMark_outer (s : State) : (s.firstMark).outer = s.outer := by
  rfl
@[simp] theorem State.firstMark_film (s : State) : (s.firstMark).film = s.film := by
  rfl
@[simp] theorem State.firstMark_lcu (s : State) : (s.firstMark).lcu = s.lcu := by
  rfl
@[simp] theorem State.firstMark_pins (s : State) : (s.firstMark).pins = s.pins := by
  rfl
@[simp] theorem State.judgeMark_outer (s : State) (p : Option Nat) : (s.judgeMark p).outer = s.outer := by
  unfold State.judgeMark; try dsimp only
  repeat' split
  all_goals first | (simp; done) | (split <;> simp)
@[simp] theorem State.judgeMark_pins (s : State) (p : Option Nat) : (s.judgeMark p).pins = s.pins := by
  unfold State.judgeMark; try dsimp only
  repeat' split
  all_goals first | (simp; done) | (split <;> simp)
@[simp] theorem State.takeIndex_outer (s : State) : (s.takeIndex).outer = s.outer := by
  unfold State.takeIndex; dsimp only; repeat' split
  all_goals simp
@[simp] theorem State.takeIndex_pins (s : State) : (s.takeIndex).pins = s.pins := by
  unfold State.takeIndex; dsimp only; repeat' split
  all_goals simp
@[simp] theorem State.missMark_outer (s : State) : (s.missMark).outer = s.outer := by
  unfold State.missMark; dsimp only; repeat' split
  all_goals simp
@[simp] theorem State.missMark_pins (s : State) : (s.missMark).pins = s.pins := by
  unfold State.missMark; dsimp only; repeat' split
  all_goals simp

end Sys2Proof.Machine
end

