-- ==== Sys2Proof/Laws/Memory.lean ====
section
/-! SUPPORT. Frame memory: its canonical form is kept, what a byte reads after a write, and that every queue
operation leaves the reel-map region, the epoch and the canonical form as they were. -/

namespace Sys2Proof.Machine

/-! ### The list of cells -/

/-- The first address of a memory lies above a bound. -/
def Memory.above (b : Nat) : Memory → Prop
  | [] => True
  | c :: _ => b < c.1

theorem Memory.wf_cons (c : Host.Cell) (m : Memory) :
    Memory.wf (c :: m) = true ↔ c.1 < Config.windowSize ∧ Memory.above c.1 m ∧ Memory.wf m = true := by
  induction m generalizing c with
  | nil => simp [Memory.wf, Memory.above]
  | cons d m ih =>
    have hd := ih d
    simp only [Memory.wf, Memory.above, Bool.and_eq_true, decide_eq_true_eq] at hd ⊢
    constructor
    · rintro ⟨h1, h2⟩
      exact ⟨by have := (hd.mp h2).1; omega, h1, h2⟩
    · rintro ⟨_, h1, h2⟩
      exact ⟨h1, h2⟩

theorem Memory.insert_above (b : Nat) (m : Memory) (a : Nat) (v : Byte) (h : Memory.above b m) (ha : b < a) :
    Memory.above b (m.insert a v) := by
  cases m with
  | nil => exact ha
  | cons c m => unfold Memory.insert; repeat' split
                all_goals first | exact ha | exact h

theorem Memory.insert_wf (m : Memory) (a : Nat) (v : Byte) (ha : a < Config.windowSize) (h : m.wf = true) :
    (m.insert a v).wf = true := by
  induction m with
  | nil => simpa [Memory.insert, Memory.wf] using ha
  | cons c m ih =>
    have hc := (Memory.wf_cons c m).mp h
    unfold Memory.insert
    split
    · rename_i h1
      exact (Memory.wf_cons _ _).mpr ⟨ha, h1, h⟩
    · split
      · rename_i h2
        subst h2
        exact (Memory.wf_cons _ _).mpr ⟨ha, hc.2⟩
      · exact (Memory.wf_cons _ _).mpr ⟨hc.1, Memory.insert_above _ _ _ _ hc.2.1 (by omega), ih hc.2.2⟩

theorem Memory.put_wf (m : Memory) (a : Nat) (v : Byte) (h : m.wf = true) : (m.put a v).wf = true := by
  unfold Memory.put
  split
  · exact Memory.insert_wf m a v (by assumption) h
  · exact h

/-- Every write keeps the canonical form. -/
theorem Memory.write_wf (m : Memory) (a : Nat) (bs : List Byte) (h : m.wf = true) : (m.write a bs).wf = true := by
  induction bs generalizing m a with
  | nil => exact h
  | cons b bs ih => exact ih _ _ (Memory.put_wf m a b h)

theorem Memory.find_insert (m : Memory) (a x : Nat) (v : Byte) (h : m.wf = true) :
    (m.insert a v).find x = if x = a then some v else m.find x := by
  induction m with
  | nil => by_cases hx : a = x <;> simp [Memory.insert, Memory.find, hx, eq_comm]
  | cons c m ih =>
    have hc := (Memory.wf_cons c m).mp h
    unfold Memory.insert
    split
    · by_cases hx : a = x
      · simp [Memory.find, hx]
      · simp [Memory.find, hx, Ne.symm hx]
    · split
      · rename_i h2
        subst h2
        by_cases hx : c.1 = x
        · simp [Memory.find, hx]
        · simp [Memory.find, hx, Ne.symm hx]
      · rename_i h1 h2
        by_cases hc1 : c.1 = x
        · have : x ≠ a := fun e => h2 (by rw [hc1, e])
          simp [Memory.find, hc1, this]
        · simp [Memory.find, hc1, ih hc.2.2]

theorem Memory.insert_other (m : Memory) (a x : Nat) (v : Byte) (hx : x ≠ a) : (m.insert a v).find x = m.find x := by
  induction m with
  | nil => simp [Memory.insert, Memory.find, Ne.symm hx]
  | cons c m ih =>
    unfold Memory.insert
    split
    · simp [Memory.find, Ne.symm hx]
    · split
      · rename_i h2
        subst h2
        simp [Memory.find, Ne.symm hx]
      · simp [Memory.find, ih]

theorem Memory.put_other (m : Memory) (a x : Nat) (v : Byte) (hx : x ≠ a) : (m.put a v).find x = m.find x := by
  unfold Memory.put
  split
  · exact Memory.insert_other m a x v hx
  · rfl

/-- A write leaves every byte outside its addresses as it was. -/
theorem Memory.write_other (m : Memory) (a x : Nat) (bs : List Byte) (hx : x < a ∨ a + bs.length ≤ x) :
    (m.write a bs).find x = m.find x := by
  induction bs generalizing m a with
  | nil => rfl
  | cons b bs ih =>
    simp only [List.length_cons] at hx
    unfold Memory.write
    rw [ih _ _ (by omega), Memory.put_other _ _ _ _ (by omega)]

/-- A write puts its bytes at their addresses. -/
theorem Memory.write_inside (m : Memory) (a : Nat) (bs : List Byte) (i : Nat) (hw : m.wf = true)
    (hi : i < bs.length) (ha : a + bs.length ≤ Config.windowSize) : (m.write a bs).find (a + i) = bs[i]? := by
  induction bs generalizing m a i with
  | nil => simp at hi
  | cons b bs ih =>
    simp only [List.length_cons] at hi ha
    unfold Memory.write
    cases i with
    | zero =>
      rw [Memory.write_other _ _ _ _ (by omega)]
      unfold Memory.put
      rw [if_pos (by omega), Nat.add_zero, Memory.find_insert _ _ _ _ hw]
      simp
    | succ i =>
      have := ih (m.put a b) (a + 1) i (Memory.put_wf m a b hw) (by omega) (by omega)
      rw [show a + (i + 1) = a + 1 + i by omega, this]
      rfl

/-! ### Bytes of the state -/

@[simp] theorem State.writeBytes_epoch (s : State) (a : Nat) (bs : List Byte) :
    (s.writeBytes a bs).fmc.epoch = s.fmc.epoch := rfl

@[simp] theorem State.writeBytes_mem (s : State) (a : Nat) (bs : List Byte) :
    (s.writeBytes a bs).fmc.mem = s.fmc.mem.write a bs := rfl

@[simp] theorem State.writeBytes_rm (s : State) (a : Nat) (bs : List Byte) : (s.writeBytes a bs).rm = s.rm := rfl

@[simp] theorem State.writeBytes_gc (s : State) (a : Nat) (bs : List Byte) : (s.writeBytes a bs).gc = s.gc := rfl

/-- A byte read depends on frame memory and the epoch alone. -/
theorem State.readByte_congr (s t : State) (a : Nat) (hm : t.fmc.mem = s.fmc.mem) (he : t.fmc.epoch = s.fmc.epoch) :
    t.readByte a = s.readByte a := by
  unfold State.readByte
  rw [hm, he]

theorem State.readByte_writeBytes_other (s : State) (a x : Nat) (bs : List Byte) (hx : x < a ∨ a + bs.length ≤ x) :
    (s.writeBytes a bs).readByte x = s.readByte x := by
  unfold State.readByte
  rw [State.writeBytes_mem, Memory.write_other _ _ _ _ hx]
  rfl

theorem State.readByte_writeBytes_inside (s : State) (a i : Nat) (bs : List Byte) (hw : s.fmc.mem.wf = true)
    (hi : i < bs.length) (ha : a + bs.length ≤ Config.windowSize) :
    (s.writeBytes a bs).readByte (a + i) = bs.getD i 0 := by
  unfold State.readByte
  rw [State.writeBytes_mem, Memory.write_inside _ _ _ _ hw hi ha]
  simp [List.getD_eq_getElem?_getD, hi]

theorem State.readBytes_length (s : State) (a n : Nat) : (s.readBytes a n).length = n := by
  induction n generalizing a with
  | zero => rfl
  | succ n ih => simp [State.readBytes, ih]

theorem State.readBytes_getD (s : State) (a n i : Nat) (hi : i < n) :
    (s.readBytes a n).getD i 0 = s.readByte (a + i) := by
  induction n generalizing a i with
  | zero => omega
  | succ n ih =>
    cases i with
    | zero => simp [State.readBytes]
    | succ i =>
      have := ih (a + 1) i (by omega)
      simp only [State.readBytes, List.getD_cons_succ]
      rw [this, show a + 1 + i = a + (i + 1) by omega]

theorem beBytes_length (k n : Nat) : (beBytes k n).length = k := by
  induction k generalizing n with
  | zero => rfl
  | succ k ih => simp [beBytes, ih]

/-- R171: a record occupies 32 bytes. -/
theorem MapRecord.bytes_length (r : MapRecord) : r.bytes.length = 32 := by
  simp [MapRecord.bytes, beBytes_length]

/-! ### The reel-map region under the queue's operations -/

/-- Frame memory of the second state is canonical if that of the first is, belongs to the same epoch, and holds the
same bytes in the reel-map region. -/
def State.mapKept (s t : State) : Prop :=
  t.fmc.epoch = s.fmc.epoch ∧ (s.fmc.mem.wf = true → t.fmc.mem.wf = true) ∧
    ∀ a, Config.mapBase ≤ a → t.readByte a = s.readByte a

theorem State.mapKept_refl (s : State) : s.mapKept s := ⟨rfl, id, fun _ _ => rfl⟩

theorem State.mapKept_trans {s t u : State} (h : s.mapKept t) (k : t.mapKept u) : s.mapKept u :=
  ⟨k.1.trans h.1, fun w => k.2.1 (h.2.1 w), fun a ha => (k.2.2 a ha).trans (h.2.2 a ha)⟩

theorem State.mapKept_of_fmc {s t u : State} (h : s.mapKept t) (hm : u.fmc.mem = t.fmc.mem)
    (he : u.fmc.epoch = t.fmc.epoch) : s.mapKept u :=
  State.mapKept_trans h ⟨he, fun w => by rw [hm]; exact w, fun a _ => State.readByte_congr t u a hm he⟩

theorem State.writeBytes_mapKept {s t : State} (h : s.mapKept t) (a : Nat) (bs : List Byte)
    (ha : a + bs.length ≤ Config.mapBase) : s.mapKept (t.writeBytes a bs) :=
  State.mapKept_trans h ⟨rfl, fun w => Memory.write_wf _ _ _ w,
    fun x hx => State.readByte_writeBytes_other t a x bs (by omega)⟩

theorem State.withFq_mapKept {s t : State} (h : s.mapKept t) (v : FrameQueue) : s.mapKept (t.withFq v) := by
  exact State.mapKept_of_fmc h rfl rfl
theorem State.withSr_mapKept {s t : State} (h : s.mapKept t) (v : StripReader) : s.mapKept (t.withSr v) := by
  exact State.mapKept_of_fmc h rfl rfl
theorem State.withCs_mapKept {s t : State} (h : s.mapKept t) (v : Vector SetRecord 8) : s.mapKept (t.withCs v) := by
  exact State.mapKept_of_fmc h rfl rfl
theorem State.withStu_mapKept {s t : State} (h : s.mapKept t) (v : ScanTiming) : s.mapKept (t.withStu v) := by
  exact State.mapKept_of_fmc h rfl rfl
theorem State.withLcu_mapKept {s t : State} (h : s.mapKept t) (v : Rgb LaserUnit) : s.mapKept (t.withLcu v) := by
  exact State.mapKept_of_fmc h rfl rfl
theorem State.withGc_mapKept {s t : State} (h : s.mapKept t) (v : GateController) : s.mapKept (t.withGc v) := by
  exact State.mapKept_of_fmc h rfl rfl
theorem State.withRm_mapKept {s t : State} (h : s.mapKept t) (v : ReelMap) : s.mapKept (t.withRm v) := by
  exact State.mapKept_of_fmc h rfl rfl
theorem State.withAu_mapKept {s t : State} (h : s.mapKept t) (v : Vector AttentionLine 4) : s.mapKept (t.withAu v) := by
  exact State.mapKept_of_fmc h rfl rfl
theorem State.withPins_mapKept {s t : State} (h : s.mapKept t) (v : Pins) : s.mapKept (t.withPins v) := by
  exact State.mapKept_of_fmc h rfl rfl
theorem State.withDbi_mapKept {s t : State} (h : s.mapKept t) (v : DeckBus) : s.mapKept (t.withDbi v) := by
  exact State.mapKept_of_fmc h rfl rfl
theorem State.withPort_mapKept {s t : State} (h : s.mapKept t) (v : FramePort) : s.mapKept (t.withPort v) := by
  exact State.mapKept_of_fmc h rfl rfl
theorem State.withOptics_mapKept {s t : State} (h : s.mapKept t) (v : Optics) : s.mapKept (t.withOptics v) := by
  exact State.mapKept_of_fmc h rfl rfl
theorem State.withFree_mapKept {s t : State} (h : s.mapKept t) (v : Nat) : s.mapKept (t.withFree v) := by
  exact State.mapKept_of_fmc h rfl rfl
theorem State.withPending_mapKept {s t : State} (h : s.mapKept t) (v : List Instr) : s.mapKept (t.withPending v) := by
  exact State.mapKept_of_fmc h rfl rfl
theorem State.raise_mapKept {s t : State} (h : s.mapKept t) (e : Event) : s.mapKept (t.raise e) := by
  exact State.mapKept_of_fmc h rfl rfl
theorem State.withEntries_mapKept {s t : State} (h : s.mapKept t) (es : List Entry) : s.mapKept (t.withEntries es) := by
  exact State.mapKept_of_fmc h rfl rfl
theorem State.withSet_mapKept {s t : State} (h : s.mapKept t) (id : Nat) (r : SetRecord) : s.mapKept (t.withSet id r) := by
  exact State.mapKept_of_fmc h rfl rfl
theorem State.addReference_mapKept {s t : State} (h : s.mapKept t) (id : Nat) : s.mapKept (t.addReference id) := by
  exact State.mapKept_of_fmc h rfl rfl
theorem State.dropReference_mapKept {s t : State} (h : s.mapKept t) (id : Nat) : s.mapKept (t.dropReference id) := by
  exact State.mapKept_of_fmc h rfl rfl
theorem State.releasePin_mapKept {s t : State} (h : s.mapKept t) (k : Key) : s.mapKept (t.releasePin k) := by
  exact State.mapKept_of_fmc h rfl rfl
theorem State.releaseAllPins_mapKept {s t : State} (h : s.mapKept t) : s.mapKept (t.releaseAllPins) := by
  exact State.mapKept_of_fmc h rfl rfl
theorem State.mapPin_mapKept {s t : State} (h : s.mapKept t) (k : Key) (f : PinRecord → PinRecord) : s.mapKept (t.mapPin k f) := by
  exact State.mapKept_of_fmc h rfl rfl
theorem State.takePin_mapKept {s t : State} (h : s.mapKept t) (r : PinRecord) : s.mapKept (t.takePin r) := by
  unfold State.takePin; split <;> exact State.mapKept_of_fmc h rfl rfl
theorem State.withChannel_mapKept {s t : State} (h : s.mapKept t) (c : ReadChannel) : s.mapKept (t.withChannel c) := by
  exact State.mapKept_of_fmc h rfl rfl
theorem State.withGate_mapKept {s t : State} (h : s.mapKept t) (g : GateCycle) : s.mapKept (t.withGate g) := by
  exact State.mapKept_of_fmc h rfl rfl
theorem State.requestWriteBack_mapKept {s t : State} (h : s.mapKept t) (k : Key) : s.mapKept (t.requestWriteBack k) := by
  exact State.mapKept_of_fmc h rfl rfl
theorem State.requestLine_mapKept {s t : State} (h : s.mapKept t) (f : LineFetch) : s.mapKept (t.requestLine f) := by
  exact State.mapKept_of_fmc h rfl rfl
theorem State.mapExposure_mapKept {s t : State} (h : s.mapKept t) (f : Exposure → Exposure) : s.mapKept (t.mapExposure f) := by
  unfold State.mapExposure; split <;> exact State.mapKept_of_fmc h rfl rfl
theorem State.grantFetch_mapKept {s t : State} (h : s.mapKept t) : s.mapKept (t.grantFetch) := by
  unfold State.grantFetch; repeat' split
  all_goals exact State.mapKept_of_fmc h rfl rfl
theorem State.grantStage_mapKept {s t : State} (h : s.mapKept t) : s.mapKept (t.grantStage) := by
  unfold State.grantStage; repeat' split
  all_goals exact State.mapKept_of_fmc h rfl rfl
theorem State.writeMark_mapKept {s t : State} (h : s.mapKept t) (a : Nat) (c : Byte) (w : Option Completion)
    (n : Nat) (ha : a + Config.descriptorSize ≤ Config.mapBase) :
    s.mapKept (t.writeMark a c (w.map (completionWord · n))) := by
  have h1 : s.mapKept (t.writeBytes a [markedControl c]) :=
    State.writeBytes_mapKept h a _ (by simp only [List.length_singleton, Config.descriptorSize] at *; omega)
  unfold State.writeMark
  cases w with
  | none => exact h1
  | some w => exact State.writeBytes_mapKept h1 _ _ (by simpa [completionWord, Config.descriptorSize] using ha)
theorem State.grantMark_mapKept {s t : State} (h : s.mapKept t) : s.mapKept t.grantMark := by
  unfold State.grantMark
  split
  · split
    · dsimp only
      split
      · split
        · exact State.withSr_mapKept (State.writeMark_mapKept h _ _ _ _ (by assumption)) _
        · exact State.withSr_mapKept (State.writeMark_mapKept (w := none) h _ _ 0 (by assumption)) _
      · exact State.withChannel_mapKept h _
    · exact State.withChannel_mapKept h _
    · exact State.withChannel_mapKept h _
  · exact State.withChannel_mapKept h _
theorem State.grant_mapKept {s t : State} (h : s.mapKept t) : s.mapKept (t.grant) := by
  unfold State.grant; try dsimp only
  repeat' split
  all_goals repeat (first | with_reducible exact h | with_reducible apply State.grantFetch_mapKept | with_reducible apply State.grantStage_mapKept | with_reducible apply State.grantMark_mapKept)
theorem State.freeChannel_mapKept {s t : State} (h : s.mapKept t) : s.mapKept (t.freeChannel) := by
  unfold State.freeChannel; try dsimp only
  all_goals repeat (first | with_reducible exact h | with_reducible apply State.withChannel_mapKept | with_reducible apply State.grant_mapKept)
theorem State.discardStaging_mapKept {s t : State} (h : s.mapKept t) : s.mapKept (t.discardStaging) := by
  unfold State.discardStaging; try dsimp only
  repeat' split
  all_goals repeat (first | with_reducible exact h | with_reducible apply State.withSr_mapKept | with_reducible apply State.freeChannel_mapKept)
theorem State.stopWalk_mapKept {s t : State} (h : s.mapKept t) (k : Key) : s.mapKept (t.stopWalk k) := by
  unfold State.stopWalk; try dsimp only
  repeat' split
  all_goals repeat (first | with_reducible exact h | with_reducible apply State.discardStaging_mapKept)
theorem State.withdrawFetch_mapKept {s t : State} (h : s.mapKept t) : s.mapKept (t.withdrawFetch) := by
  unfold State.withdrawFetch; try dsimp only
  repeat' split
  all_goals repeat (first | with_reducible exact h | with_reducible apply State.withSr_mapKept | with_reducible apply State.freeChannel_mapKept)
theorem State.requestMarking_mapKept {s t : State} (h : s.mapKept t) : s.mapKept (t.requestMarking) := by
  unfold State.requestMarking; try dsimp only
  repeat' split
  all_goals repeat (first | with_reducible exact h | with_reducible apply State.withChannel_mapKept)
theorem State.addHeld_mapKept {s t : State} (h : s.mapKept t) (r : HeldReason) : s.mapKept (t.addHeld r) := by
  unfold State.addHeld; try dsimp only
  repeat' split
  all_goals repeat (first | with_reducible exact h | with_reducible apply State.withFq_mapKept | with_reducible apply State.raise_mapKept)
theorem State.beginLeaving_mapKept {s t : State} (h : s.mapKept t) (k : Key) (c : Completion) : s.mapKept (t.beginLeaving k c) := by
  unfold State.beginLeaving; try dsimp only
  repeat' split
  all_goals repeat (first | with_reducible exact h | with_reducible apply State.withEntries_mapKept | with_reducible apply State.requestWriteBack_mapKept | with_reducible apply State.stopWalk_mapKept)
theorem State.enterWindow_mapKept {s t : State} (h : s.mapKept t) (p : Nat) : s.mapKept (t.enterWindow p) := by
  unfold State.enterWindow; try dsimp only
  repeat' split
  all_goals repeat (first | with_reducible exact h | with_reducible apply State.withEntries_mapKept | with_reducible apply State.takePin_mapKept)
theorem State.removeAt_mapKept {s t : State} (h : s.mapKept t) (p : Nat) : s.mapKept (t.removeAt p) := by
  unfold State.removeAt; try dsimp only
  repeat' split
  all_goals repeat (first | with_reducible exact h | with_reducible apply State.raise_mapKept | with_reducible apply State.withEntries_mapKept | with_reducible apply State.dropReference_mapKept | with_reducible apply State.releasePin_mapKept | with_reducible apply State.enterWindow_mapKept)
theorem State.completeRejection_mapKept {s t : State} (h : s.mapKept t) (e : Entry) (r : RejectReason) : s.mapKept (t.completeRejection e r) := by
  unfold State.completeRejection; try dsimp only
  all_goals repeat (first | with_reducible exact h | with_reducible apply State.withFq_mapKept | with_reducible apply State.raise_mapKept | with_reducible apply State.addHeld_mapKept)
theorem State.takeRejectedHead_mapKept {s t : State} (h : s.mapKept t) (n : Nat) : s.mapKept (t.takeRejectedHead n) := by
  induction n generalizing t with
  | zero => exact h
  | succ n ih =>
    unfold State.takeRejectedHead
    repeat' split
    all_goals first | exact h | exact State.beginLeaving_mapKept h _ _ | skip
    exact ih (State.completeRejection_mapKept (State.removeAt_mapKept h 0) _ _)
theorem State.settleHead_mapKept {s t : State} (h : s.mapKept t) : s.mapKept (t.settleHead) := by
  unfold State.settleHead; try dsimp only
  all_goals repeat (first | with_reducible exact h | with_reducible apply State.takeRejectedHead_mapKept)
theorem State.removeEntry_mapKept {s t : State} (h : s.mapKept t) (k : Key) : s.mapKept (t.removeEntry k) := by
  unfold State.removeEntry; try dsimp only
  repeat' split
  all_goals repeat (first | with_reducible exact h | with_reducible apply State.removeAt_mapKept | with_reducible apply State.settleHead_mapKept)
theorem State.cancelEntry_mapKept {s t : State} (h : s.mapKept t) (e : Entry) : s.mapKept (t.cancelEntry e) := by
  unfold State.cancelEntry; try dsimp only
  repeat' split
  all_goals repeat (first | with_reducible exact h | with_reducible apply State.beginLeaving_mapKept | with_reducible apply State.removeEntry_mapKept)
theorem State.cancelAll_mapKept {s t : State} (h : s.mapKept t) (ks : List Key) : s.mapKept ((t.cancelAll ks).1) := by
  induction ks generalizing t with
  | nil => exact h
  | cons k ks ih =>
    unfold State.cancelAll
    repeat' split
    · exact ih (State.cancelEntry_mapKept h _)
    · exact ih h
    · exact ih h
theorem State.pushOut_mapKept {s t : State} (h : s.mapKept t) : s.mapKept (t.pushOut) := by
  unfold State.pushOut; try dsimp only
  repeat' split
  all_goals repeat (first | with_reducible exact h | with_reducible apply State.withEntries_mapKept | with_reducible apply State.releasePin_mapKept | with_reducible apply State.stopWalk_mapKept)
theorem State.headExposed_mapKept {s t : State} (h : s.mapKept t) : s.mapKept (t.headExposed) := by
  unfold State.headExposed; try dsimp only
  repeat' split
  all_goals repeat (first | with_reducible exact h | with_reducible apply State.raise_mapKept | with_reducible apply State.withEntries_mapKept | with_reducible apply State.beginLeaving_mapKept | with_reducible apply State.removeEntry_mapKept)
theorem State.headSpoiled_mapKept {s t : State} (h : s.mapKept t) : s.mapKept (t.headSpoiled) := by
  unfold State.headSpoiled; try dsimp only
  all_goals repeat (first | with_reducible exact h | with_reducible apply State.withEntries_mapKept | with_reducible apply State.addHeld_mapKept)
theorem State.headRunOut_mapKept {s t : State} (h : s.mapKept t) (n : Nat) : s.mapKept (t.headRunOut n) := by
  unfold State.headRunOut; try dsimp only
  repeat' split
  all_goals repeat (first | with_reducible exact h | with_reducible apply State.raise_mapKept | with_reducible apply State.withEntries_mapKept | with_reducible apply State.removeEntry_mapKept)
theorem State.endWriteBack_mapKept {s t : State} (h : s.mapKept t) : s.mapKept (t.endWriteBack) := by
  unfold State.endWriteBack; try dsimp only
  repeat' split
  all_goals repeat (first | with_reducible exact h | with_reducible apply State.withSr_mapKept | with_reducible apply State.raise_mapKept | with_reducible apply State.releasePin_mapKept | with_reducible apply State.removeAt_mapKept | with_reducible apply State.completeRejection_mapKept | with_reducible apply State.settleHead_mapKept)
theorem State.stagingFailed_mapKept {s t : State} (h : s.mapKept t) (g : Staging) (r : RejectReason) : s.mapKept (t.stagingFailed g r) := by
  unfold State.stagingFailed; try dsimp only
  all_goals repeat (first | with_reducible exact h | with_reducible apply State.withSr_mapKept | with_reducible apply State.withEntries_mapKept | with_reducible apply State.settleHead_mapKept)
theorem State.stagingComplete_mapKept {s t : State} (h : s.mapKept t) (g : Staging) : s.mapKept (t.stagingComplete g) := by
  unfold State.stagingComplete; try dsimp only
  all_goals repeat (first | with_reducible exact h | with_reducible apply State.withSr_mapKept | with_reducible apply State.withEntries_mapKept)
theorem State.stagingContinue_mapKept {s t : State} (h : s.mapKept t) (g : Staging) : s.mapKept (t.stagingContinue g) := by
  unfold State.stagingContinue; try dsimp only
  all_goals repeat (first | with_reducible exact h | with_reducible apply State.withSr_mapKept)
theorem State.walkToDescriptor_mapKept {s t : State} (h : s.mapKept t) (g : Staging) : s.mapKept (t.walkToDescriptor g) := by
  unfold State.walkToDescriptor; try dsimp only
  repeat' split
  all_goals repeat (first | with_reducible exact h | with_reducible apply State.mapPin_mapKept | with_reducible apply State.stagingFailed_mapKept | with_reducible apply State.stagingContinue_mapKept)
theorem State.onDescriptor_mapKept {s t : State} (h : s.mapKept t) (g : Staging) (bs : List Byte) : s.mapKept (t.onDescriptor g bs) := by
  unfold State.onDescriptor; try dsimp only
  repeat' split
  all_goals repeat (first | with_reducible exact h | with_reducible apply State.mapPin_mapKept | with_reducible apply State.stagingFailed_mapKept | with_reducible apply State.stagingContinue_mapKept)
theorem State.compareChecksum_mapKept {s t : State} (h : s.mapKept t) (g : Staging) : s.mapKept (t.compareChecksum g) := by
  unfold State.compareChecksum; try dsimp only
  repeat' split
  all_goals repeat (first | with_reducible exact h | with_reducible apply State.stagingFailed_mapKept | with_reducible apply State.stagingComplete_mapKept)
theorem State.onStripBytes_mapKept {s t : State} (h : s.mapKept t) (g : Staging) (bs : List Byte) (n l : Nat) (last : Bool) : s.mapKept (t.onStripBytes g bs n l last) := by
  unfold State.onStripBytes; try dsimp only
  repeat' split
  all_goals repeat (first | with_reducible exact h | with_reducible apply State.stagingContinue_mapKept | with_reducible apply State.walkToDescriptor_mapKept | with_reducible apply State.compareChecksum_mapKept)
theorem State.offerStaging_mapKept {s t : State} (h : s.mapKept t) : s.mapKept (t.offerStaging) := by
  unfold State.offerStaging; try dsimp only
  repeat' split
  all_goals repeat (first | with_reducible exact h | with_reducible apply State.walkToDescriptor_mapKept)
theorem State.rejectStock_mapKept {s t : State} (h : s.mapKept t) : s.mapKept (t.rejectStock) := by
  unfold State.rejectStock; try dsimp only
  all_goals repeat (first | with_reducible exact h | with_reducible apply State.withEntries_mapKept | with_reducible apply State.settleHead_mapKept)
theorem State.beginExposure_mapKept {s t : State} (h : s.mapKept t) (e : Entry) (i : ImagePart) (c : SetContent) (q : Nat) : s.mapKept (t.beginExposure e i c q) := by
  unfold State.beginExposure; try dsimp only
  all_goals repeat (first | with_reducible exact h | with_reducible apply State.withEntries_mapKept | with_reducible apply State.withGate_mapKept)
theorem State.frameStart_mapKept {s t : State} (h : s.mapKept t) : s.mapKept (t.frameStart) := by
  unfold State.frameStart; try dsimp only
  repeat' split
  all_goals repeat (first | with_reducible exact h | with_reducible apply State.rejectStock_mapKept | with_reducible apply State.beginExposure_mapKept)
theorem State.beginLine_mapKept {s t : State} (h : s.mapKept t) : s.mapKept (t.beginLine) := by
  unfold State.beginLine; try dsimp only
  repeat' split
  all_goals repeat (first | with_reducible exact h | with_reducible apply State.requestLine_mapKept | with_reducible apply State.mapExposure_mapKept)
theorem State.dropLine_mapKept {s t : State} (h : s.mapKept t) (y : Nat) : s.mapKept (t.dropLine y) := by
  unfold State.dropLine; try dsimp only
  repeat' split
  all_goals repeat (first | with_reducible exact h | with_reducible apply State.mapExposure_mapKept | with_reducible apply State.withdrawFetch_mapKept)
theorem State.filmEnd_mapKept {s t : State} (h : s.mapKept t) : s.mapKept (t.filmEnd) := by
  unfold State.filmEnd; try dsimp only
  repeat' split
  all_goals repeat (first | with_reducible exact h | with_reducible apply State.raise_mapKept | with_reducible apply State.addHeld_mapKept)
theorem State.advanceFilm_mapKept {s t : State} (h : s.mapKept t) (n : Nat) : s.mapKept (t.advanceFilm n) := by
  unfold State.advanceFilm; try dsimp only
  repeat' split
  all_goals repeat (first | with_reducible exact h | with_reducible apply State.withGc_mapKept)
theorem State.updateIdle_mapKept {s t : State} (h : s.mapKept t) : s.mapKept (t.updateIdle) := by
  unfold State.updateIdle; try dsimp only
  repeat' split
  all_goals repeat (first | with_reducible exact h | with_reducible apply State.withStu_mapKept)
theorem State.quiesce_mapKept {s t : State} (h : s.mapKept t) : s.mapKept (t.quiesce) := by
  unfold State.quiesce; try dsimp only
  all_goals repeat (first | with_reducible exact h | with_reducible apply State.grant_mapKept | with_reducible apply State.requestMarking_mapKept | with_reducible apply State.offerStaging_mapKept | with_reducible apply State.beginLine_mapKept | with_reducible apply State.updateIdle_mapKept)

/-! ### Appending a record -/

theorem State.appendRecord_fmc (s : State) (r : MapRecord) :
    (s.appendRecord r).fmc = (s.writeBytes (slotOffset s.rm.count) r.bytes).fmc := by
  simp [State.appendRecord]

/-- R176: an appended record writes its own slot, raises the count by one, and keeps the canonical form. -/
theorem State.appendRecord_spec (s : State) (r : MapRecord) :
    (s.appendRecord r).rm.count = s.rm.count + 1 ∧ (s.appendRecord r).gc.expected = s.gc.expected + 1 ∧
    (s.appendRecord r).fmc.epoch = s.fmc.epoch ∧
    (s.fmc.mem.wf = true → (s.appendRecord r).fmc.mem.wf = true) ∧
    (∀ a, a < slotOffset s.rm.count ∨ slotOffset s.rm.count + 32 ≤ a →
      (s.appendRecord r).readByte a = s.readByte a) := by
  have hf := State.appendRecord_fmc s r
  refine ⟨by simp [State.appendRecord], by simp [State.appendRecord], by rw [hf, State.writeBytes_epoch],
    fun w => by rw [hf, State.writeBytes_mem]; exact Memory.write_wf _ _ _ w, fun a ha => ?_⟩
  have h1 := State.readByte_congr (s.writeBytes (slotOffset s.rm.count) r.bytes) (s.appendRecord r) a
    (congrArg MemoryController.mem hf) (congrArg MemoryController.epoch hf)
  have h2 := State.readByte_writeBytes_other s (slotOffset s.rm.count) a r.bytes
  rw [MapRecord.bytes_length] at h2
  exact h1.trans (h2 ha)

/-! ### Reads of the frame data port -/

/-- R30: a port read that is served returns the bytes of frame memory as they stand, and writes the port alone. -/
theorem State.serveRead_spec (s : State) (offset length : Nat) :
    ∃ r : PortRead, s.serveRead offset length = s.withPort { s.port with lastRead := some r } ∧ r.offset = offset ∧
      r.bytes.length = length ∧ ∀ i < length, r.bytes.getD i 0 = s.readByte (offset + i) :=
  ⟨_, rfl, rfl, s.readBytes_length offset length, fun i hi => s.readBytes_getD offset length i hi⟩

end Sys2Proof.Machine
end

