-- ==== Sys2Proof/Laws/Aborts.lean ====
section
/-! SUPPORT. What a grant of the read channel, an abort and a halt do, each said once: the shape of the state they
leave, the record an abort appends, and the events that are latched. -/

namespace Sys2Proof.Machine

/-! ### Grants -/

/-- Only the read channel, the descriptor position and the bytes of frame memory differ. -/
def State.channelOnly (s t : State) : Prop :=
  ∃ c p m, t = { s with sr := { s.sr with channel := c, wbPos := p }, fmc := { s.fmc with mem := m } }

theorem State.channelOnly_refl (s : State) : s.channelOnly s := ⟨_, _, _, rfl⟩

theorem State.channelOnly_trans {s t u : State} (h : s.channelOnly t) (k : t.channelOnly u) : s.channelOnly u := by
  obtain ⟨c, p, m, rfl⟩ := h
  obtain ⟨c', p', m', rfl⟩ := k
  exact ⟨c', p', m', rfl⟩

theorem State.withChannel_channelOnly (s : State) (c : ReadChannel) : s.channelOnly (s.withChannel c) :=
  ⟨c, _, _, rfl⟩

theorem State.grantFetch_channelOnly (s : State) : s.channelOnly s.grantFetch := by
  unfold State.grantFetch
  repeat' split
  all_goals exact s.withChannel_channelOnly _

theorem State.grantStage_channelOnly (s : State) : s.channelOnly s.grantStage := by
  unfold State.grantStage
  repeat' split
  all_goals exact s.withChannel_channelOnly _

theorem State.grantMark_channelOnly (s : State) : s.channelOnly s.grantMark := by
  unfold State.grantMark State.writeMark; dsimp only
  repeat' split
  all_goals first
    | exact s.withChannel_channelOnly _
    | exact ⟨_, _, _, rfl⟩

/-- R65: a grant touches the channel, the descriptor position and frame memory, nothing else. -/
theorem State.grant_channelOnly (s : State) : s.channelOnly s.grant := by
  unfold State.grant
  repeat' split
  all_goals first
    | exact s.channelOnly_refl
    | exact s.grantFetch_channelOnly
    | exact s.grantMark_channelOnly
    | exact s.grantStage_channelOnly

theorem State.freeChannel_channelOnly (s : State) : s.channelOnly s.freeChannel :=
  State.channelOnly_trans (s.withChannel_channelOnly _) (State.grant_channelOnly _)

/-- R63: the line fetch is gone; the channel may have granted something else. -/
theorem State.withdrawFetch_shape (s : State) : ∃ c p m,
    s.withdrawFetch =
      { s with sr := { s.sr with fetch := none, channel := c, wbPos := p }, fmc := { s.fmc with mem := m } } := by
  unfold State.withdrawFetch; dsimp only
  split
  · exact State.freeChannel_channelOnly
      (s.withSr { s.sr with fetch := none, channel := { s.sr.channel with waitFetch := false } })
  · exact ⟨_, _, _, rfl⟩

/-! ### Latched events -/

theorem eventSet_cons (m : Word16) (es : List Event) :
    es.foldl (fun m e => m ||| e.set) m = m ||| eventSet es := by
  unfold eventSet
  induction es generalizing m with
  | nil => simp
  | cons e es ih =>
    simp only [List.foldl_cons]
    rw [ih, ih (0 ||| e.set)]
    simp [BitVec.or_assoc]

theorem eventSet_append (es fs : List Event) : eventSet (es ++ fs) = eventSet es ||| eventSet fs := by
  unfold eventSet
  rw [List.foldl_append, eventSet_cons]
  rfl

/-- R195: a raised event is latched into every line. -/
theorem State.raise_au (s : State) (e : Event) (n : Fin 4) :
    (s.raise e).au[n] = { s.au[n] with latched := s.au[n].latched ||| e.set } := by
  match n with
  | 0 => rfl
  | 1 => rfl
  | 2 => rfl
  | 3 => rfl

theorem State.raisedOnly_refl (s : State) : s.raisedOnly s [] := by
  intro n; simp [eventSet]

theorem State.raisedOnly_of_au {s t u : State} {es : List Event} (h : s.raisedOnly t es) (ha : u.au = t.au) :
    s.raisedOnly u es := by
  intro n; rw [← h n, ha]

theorem State.raisedOnly_raise {s t : State} {es : List Event} (h : s.raisedOnly t es) (e : Event) :
    s.raisedOnly (t.raise e) (es ++ [e]) := by
  intro n
  rw [State.raise_au, h n, eventSet_append]
  simp [eventSet, BitVec.or_assoc]

theorem State.raisedOnly_raiseAll {s t : State} {es : List Event} (h : s.raisedOnly t es) (fs : List Event) :
    s.raisedOnly (t.raiseAll fs) (es ++ fs) := by
  induction fs generalizing t es with
  | nil => simpa [State.raiseAll] using h
  | cons e fs ih =>
    have := ih (State.raisedOnly_raise h e)
    simpa [State.raiseAll] using this

theorem State.raisedOnly_trans {s t u : State} {es fs : List Event} (h : s.raisedOnly t es) (k : t.raisedOnly u fs) :
    s.raisedOnly u (es ++ fs) := by
  intro n
  rw [k n, h n, eventSet_append, BitVec.or_assoc]

theorem State.raiseAll_raisedOnly (s : State) (es : List Event) : s.raisedOnly (s.raiseAll es) es :=
  State.raisedOnly_raiseAll (es := []) s.raisedOnly_refl es

/-- The order in which events are raised leaves no trace. -/
theorem State.raisedOnly_congr {s t : State} {es fs : List Event} (h : s.raisedOnly t es)
    (he : eventSet es = eventSet fs) : s.raisedOnly t fs := by
  intro n; rw [h n, he]

/-! ### Holding, film end -/

theorem HeldSet.add_of_has (h : HeldSet) (r : HeldReason) (hr : h.has r = true) : h.add r = h := by
  cases r <;> cases h <;> simp_all [HeldSet.has, HeldSet.add]

/-- R16: a reason joins the set, and QUEUE_HELD is raised when it was not there. -/
theorem State.addHeld_spec (s : State) (r : HeldReason) : ∃ au,
    s.addHeld r = { s with fq := { s.fq with held := s.fq.held.add r }, au := au } ∧
    s.raisedOnly (s.addHeld r) (if s.fq.held.has r then [] else [.queueHeld]) := by
  unfold State.addHeld
  by_cases hr : s.fq.held.has r = true
  · refine ⟨s.au, ?_, ?_⟩
    · rw [if_pos hr, HeldSet.add_of_has _ _ hr]
    · rw [if_pos hr, if_pos hr]; exact s.raisedOnly_refl
  · refine ⟨((s.withFq { s.fq with held := s.fq.held.add r }).raise .queueHeld).au, ?_, ?_⟩
    · rw [if_neg hr]; rfl
    · rw [if_neg hr, if_neg hr]
      exact State.raisedOnly_raise (es := []) (State.raisedOnly_of_au (s.raisedOnly_refl) rfl) _

/-- R161: the film end, when the film is exhausted and the list holds an entry. -/
theorem State.filmEnd_spec (s : State) : ∃ au,
    s.filmEnd = { s with
      fq := { s.fq with held :=
        if s.filmExhausted && !s.fq.entries.isEmpty then s.fq.held.add .filmEnd else s.fq.held }
      au := au } ∧
    s.raisedOnly s.filmEnd (if s.filmExhausted && !s.fq.entries.isEmpty then
      (if s.fq.held.has .filmEnd then [] else [.queueHeld]) ++ [.filmEnd] else []) := by
  unfold State.filmEnd
  by_cases h : (s.filmExhausted && !s.fq.entries.isEmpty) = true
  · obtain ⟨au, h1, h2⟩ := s.addHeld_spec .filmEnd
    refine ⟨((s.addHeld .filmEnd).raise .filmEnd).au, ?_, ?_⟩
    · rw [if_pos h, if_pos h, h1]; rfl
    · rw [if_pos h, if_pos h]; exact State.raisedOnly_raise h2 _
  · refine ⟨s.au, ?_, ?_⟩
    · rw [if_neg h, if_neg h]
    · rw [if_neg h, if_neg h]; exact s.raisedOnly_refl

/-- R23: the head returns to STAGED and the queue is held. -/
theorem State.headSpoiled_spec (s : State) : ∃ au,
    s.headSpoiled = { s with
      fq := { s.fq with entries := changeAt s.fq.entries 0 (·.withState .staged), held := s.fq.held.add .spoiled }
      au := au } ∧
    s.raisedOnly s.headSpoiled (if s.fq.held.has .spoiled then [] else [.queueHeld]) := by
  obtain ⟨au, h1, h2⟩ := (s.withEntries (changeAt s.fq.entries 0 (·.withState .staged))).addHeld_spec .spoiled
  exact ⟨au, h1, h2⟩

theorem changeAt_isEmpty (es : List Entry) (n : Nat) (f : Entry → Entry) : (changeAt es n f).isEmpty = es.isEmpty := by
  cases es <;> cases n <;> rfl

/-- Several events raised leave the rest of the part alone. -/
theorem State.raiseAll_shape (s : State) (es : List Event) : ∃ au, s.raiseAll es = { s with au := au } := by
  induction es generalizing s with
  | nil => exact ⟨s.au, rfl⟩
  | cons e es ih =>
    obtain ⟨au, h⟩ := ih (s.raise e)
    exact ⟨au, by rw [State.raiseAll, h]; rfl⟩

/-! ### Aborts -/

/-- R176: the shape of an append. -/
theorem State.appendRecord_shape (s : State) (r : MapRecord) : ∃ m,
    s.appendRecord r = { s with
      fmc := { s.fmc with mem := m }, rm := { s.rm with count := s.rm.count + 1 }
      gc := { s.gc with expected := s.gc.expected + 1 } } := by
  unfold State.appendRecord State.writeBytes State.withFmc State.withRm State.withGc
  dsimp only
  exact ⟨_, rfl⟩

/-- R171, R176: the slot of an appended record reads as the record. -/
theorem State.slotHolds_append (s : State) (r : MapRecord) (h : s.memoryCanonical)
    (hc : s.rm.count < Config.maxRecords) : (s.appendRecord r).slotHolds s.rm.count r := by
  intro n hn
  have hf := State.appendRecord_fmc s r
  have h1 := State.readByte_congr (s.writeBytes (slotOffset s.rm.count) r.bytes) (s.appendRecord r)
    (slotOffset s.rm.count + n) (congrArg MemoryController.mem hf) (congrArg MemoryController.epoch hf)
  rw [h1]
  have := State.readByte_writeBytes_inside s (slotOffset s.rm.count) n r.bytes h
  rw [MapRecord.bytes_length] at this
  simp only [slotOffset, Config.mapBase, Config.recordSize, Config.maxRecords, Config.windowSize] at *
  rw [this (by omega) (by omega)]

/-- The state of an abort after its record: only frame memory, the strip reader's fetch and channel, the drives, the
count and the expected position have changed. -/
theorem State.abort_record (s : State) (r : MapRecord) : ∃ c p m,
    s.dropDrives.withdrawFetch.appendRecord r = { s with
      sr := { s.sr with fetch := none, channel := c, wbPos := p }, fmc := { s.fmc with mem := m }
      lcu := s.lcu.map fun u => { u with sweep := .rest }
      rm := { s.rm with count := s.rm.count + 1 }, gc := { s.gc with expected := s.gc.expected + 1 } } := by
  obtain ⟨c, p, m, h⟩ := State.withdrawFetch_shape s.dropDrives
  obtain ⟨m', h'⟩ := State.appendRecord_shape s.dropDrives.withdrawFetch r
  exact ⟨c, p, m', by rw [h', h]; rfl⟩

/-- The record of an abort reads back, and no other byte of the reel-map region changes. -/
theorem State.abort_memory (s : State) (r : MapRecord) :
    (s.memoryCanonical → s.rm.count < Config.maxRecords →
      (s.dropDrives.withdrawFetch.appendRecord r).slotHolds s.rm.count r) ∧
    ∀ a, outsideSlots s.rm.count 1 a → (s.dropDrives.withdrawFetch.appendRecord r).readByte a = s.readByte a := by
  have hk : s.mapKept s.dropDrives.withdrawFetch :=
    State.withdrawFetch_mapKept (State.withLcu_mapKept s.mapKept_refl _)
  obtain ⟨c, p, m, hw⟩ := State.withdrawFetch_shape s.dropDrives
  have hrm : s.dropDrives.withdrawFetch.rm = s.rm := by rw [hw]; rfl
  have happ := (State.appendRecord_spec s.dropDrives.withdrawFetch r).2.2.2.2
  have hslot := State.slotHolds_append s.dropDrives.withdrawFetch r
  rw [hrm] at happ hslot
  refine ⟨fun h hc => hslot (hk.2.1 h) hc, fun a ha => ?_⟩
  rw [happ a (by simpa [outsideSlots, slotOffset, Config.recordSize, Nat.mul_add, ← Nat.add_assoc] using ha.2),
    hk.2.2 a ha.1]

theorem State.gateAfterAbort_shape (s a : State) (r : SpoilReason) (h : a.filmExhausted = s.lastFrame) :
    a.gateAfterAbort r =
      { a with gc := { a.gc with gate := s.gateLeft r, advance := if r = .magRemoved then 0 else 1 } } := by
  cases r <;> simp [State.gateAfterAbort, State.gateLeft, State.advanceFilm, h, State.withGc]

/-- R162: an abort for a reason other than RESET. -/
theorem State.abort_leaves (s : State) (x : Exposure) (r : SpoilReason) (hx : s.exposure? = some x) (hr : r ≠ .reset) :
    s.abortLeaves x r (s.abort r) ∧ s.abortKeeps (s.abort r) ∧ (s.abort r).gc.magazine = s.gc.magazine ∧
    (s.abort r).rm.live = s.rm.live ∧ s.raisedOnly (s.abort r) (s.abortRaises r) ∧
    (s.abort r).free = s.free ∧ (s.abort r).pending = s.pending ∧ (s.abort r).fmc.epoch = s.fmc.epoch := by
  have hm := State.abort_memory s (exposureRecord x.ctx x.clips .spoiled r)
  obtain ⟨c, p, m, hM⟩ := State.abort_record s (exposureRecord x.ctx x.clips .spoiled r)
  have ha : s.abort r =
      (let reported :=
        ((s.dropDrives.withdrawFetch.appendRecord (exposureRecord x.ctx x.clips .spoiled r)).gateAfterAbort r).headSpoiled
       let ended := if r = .magRemoved then reported else reported.filmEnd
       ended.raiseAll (abortEvents r)) := by
    simp only [State.abort, hx, hr, if_false]
  generalize s.dropDrives.withdrawFetch.appendRecord (exposureRecord x.ctx x.clips .spoiled r) = a at hm hM ha
  have hlast : a.filmExhausted = s.lastFrame := by
    rw [hM]; simp only [State.filmExhausted, State.lastFrame, State.loadedTag?]
    cases s.gc.magazine <;> rfl
  have hgate := State.gateAfterAbort_shape s a r hlast
  generalize a.gateAfterAbort r = g at hgate ha
  obtain ⟨au1, h1, e1⟩ := g.headSpoiled_spec
  generalize g.headSpoiled = h at h1 e1 ha
  obtain ⟨au2, h2, e2⟩ := h.filmEnd_spec
  have hex : h.filmExhausted = s.lastFrame := by rw [h1, hgate, ← hlast]; rfl
  have hem : h.fq.entries.isEmpty = s.fq.entries.isEmpty := by
    rw [h1, hgate, hM]; exact changeAt_isEmpty _ _ _
  rw [hex, hem] at h2 e2
  have hfq : g.fq = s.fq := by rw [hgate, hM]
  have hgau : s.raisedOnly g [] := by rw [hgate, hM]; exact s.raisedOnly_refl
  have hheld : h.fq.held.has .filmEnd = s.fq.held.filmEnd := by rw [h1, hfq]; rfl
  rw [hheld] at e2
  rw [hfq] at e1
  have e12 := State.raisedOnly_trans (State.raisedOnly_trans hgau e1) e2
  have ee := fun (u : State) => u.raiseAll_raisedOnly (abortEvents r)
  have es := fun (u : State) => u.raiseAll_shape (abortEvents r)
  by_cases hmag : r = .magRemoved
  · subst hmag
    simp only [if_true] at ha
    obtain ⟨au3, h3⟩ := es h
    have e3 := State.raisedOnly_trans (State.raisedOnly_trans hgau e1) (ee h)
    rw [← ha] at h3 e3
    refine ⟨?_, ?_, ?_, ?_, State.raisedOnly_congr e3 ?_, ?_, ?_, ?_⟩
    · rw [h3, h1, hgate, hM]
      refine ⟨rfl, rfl, rfl, rfl, rfl, ?_, rfl, ?_, ?_⟩
      · simp [HeldSet.add, State.abortEndsFilm]
      · rw [hM] at hm; exact hm.1
      · rw [hM] at hm; exact hm.2
    · rw [h3, h1, hgate, hM]
      refine ⟨rfl, fun c => by cases c <;> rfl, rfl, rfl, rfl, rfl, rfl, rfl, rfl, rfl, rfl, rfl, rfl⟩
    all_goals first
      | (rw [h3, h1, hgate, hM])
      | skip
    cases hs : s.fq.held.spoiled <;>
      simp [hs, HeldSet.has, State.abortRaises, State.abortEndsFilm, abortEvents, eventSet] <;> decide
  · simp only [hmag, if_false] at ha
    obtain ⟨au3, h3⟩ := es h.filmEnd
    have e3 := State.raisedOnly_trans e12 (ee h.filmEnd)
    rw [← ha] at h3 e3
    refine ⟨?_, ?_, ?_, ?_, State.raisedOnly_congr e3 ?_, ?_, ?_, ?_⟩
    · rw [h3, h2, h1, hgate, hM]
      refine ⟨rfl, rfl, rfl, rfl, rfl, ?_, rfl, ?_, ?_⟩
      · simp only [State.abortEndsFilm, hmag, ne_eq, not_false_eq_true, decide_true, Bool.true_and]
        by_cases hc : (s.lastFrame && !s.fq.entries.isEmpty) = true <;> simp [hc, HeldSet.add]
      · rw [hM] at hm; exact hm.1
      · rw [hM] at hm; exact hm.2
    · rw [h3, h2, h1, hgate, hM]
      refine ⟨rfl, fun c => by cases c <;> rfl, rfl, rfl, rfl, rfl, rfl, rfl, rfl, rfl, rfl, rfl, rfl⟩
    all_goals first
      | (rw [h3, h2, h1, hgate, hM])
      | skip
    simp only [State.abortRaises, State.abortEndsFilm, abortEvents, hmag, if_false, ne_eq, not_false_eq_true,
      decide_true, Bool.true_and]
    cases (s.lastFrame && !s.fq.entries.isEmpty) <;> cases hs : s.fq.held.spoiled <;> cases s.fq.held.filmEnd <;>
      simp [hs, HeldSet.has, eventSet] <;> decide

end Sys2Proof.Machine
end

