-- ==== Sys2Proof/Laws/BusLine.lean ====
section
/-! SUPPORT. The deck bus line: how long characters and frames are, and what a receiver makes of one character. -/

namespace Sys2Proof.Machine

theorem characterLevels_length (b : Byte) : (characterLevels b).length = 10 := rfl

@[simp] theorem charactersLevels_nil : charactersLevels [] = [] := rfl

@[simp] theorem charactersLevels_cons (b : Byte) (bytes : List Byte) :
    charactersLevels (b :: bytes) = characterLevels b ++ charactersLevels bytes := rfl

theorem charactersLevels_append (xs ys : List Byte) :
    charactersLevels (xs ++ ys) = charactersLevels xs ++ charactersLevels ys := by
  simp [charactersLevels]

/-- R181: a character takes 10 bit times. -/
theorem charactersLevels_length (bytes : List Byte) : (charactersLevels bytes).length = 10 * bytes.length := by
  induction bytes with
  | nil => rfl
  | cons b bytes ih => simp [characterLevels_length, ih]; omega

/-- R181: a frame takes one bit time for the start mark and 10 for each byte. -/
theorem frameLevels_length (bytes : List Byte) : (frameLevels bytes).length = 1 + 10 * bytes.length := by
  simp [frameLevels, charactersLevels_length]; omega

/-- The eight levels of a character spell its byte. -/
theorem levelsByte_character (b : Byte) :
    levelsByte ([7, 6, 5, 4, 3, 2, 1, 0].map fun i => bitLevel (b.getLsbD i)) = b := by
  revert b
  decide

/-- R181, R186: while the frame is not whole, a receiver takes a character and goes on behind it. -/
theorem receiveCharacters_character (got : List Byte) (b : Byte) (rest : List LineLevel)
    (h : frameWhole got = false) :
    receiveCharacters got (characterLevels b ++ rest) = receiveCharacters (got ++ [b]) rest := by
  have hb := levelsByte_character b
  simp only [List.map] at hb
  simp only [characterLevels, List.map, List.cons_append, List.nil_append, receiveCharacters, h, hb]
  simp

/-- Once the frame is whole a receiver takes nothing more from the line. -/
theorem receiveCharacters_whole (got : List Byte) (levels : List LineLevel) (h : frameWhole got = true) :
    receiveCharacters got levels = ⟨got, .complete⟩ := by
  unfold receiveCharacters
  split <;> simp [h]

/-- R186: a receiver that finds the characters of a frame on the line, none of whose beginnings is whole, takes exactly
them. -/
theorem receiveCharacters_characters (got todo : List Byte) (rest : List LineLevel)
    (hw : frameWhole (got ++ todo) = true) (hn : ∀ k < todo.length, frameWhole (got ++ todo.take k) = false) :
    receiveCharacters got (charactersLevels todo ++ rest) = ⟨got ++ todo, .complete⟩ := by
  induction todo generalizing got with
  | nil => simpa using receiveCharacters_whole got rest (by simpa using hw)
  | cons b t ih =>
    rw [charactersLevels_cons, List.append_assoc, receiveCharacters_character _ _ _ (by simpa using hn 0 (by simp))]
    have h := ih (got ++ [b]) (by simpa using hw) (fun k hk => by simpa using hn (k + 1) (by simpa using hk))
    simpa using h

/-- The line is dominant exactly when a unit drives it so (R181). -/
theorem lineUnder_dominant (driven : List LineLevel) :
    lineUnder driven = .dominant ↔ LineLevel.dominant ∈ driven := by
  simp [lineUnder]

end Sys2Proof.Machine
end

