-- ==== Sys2Proof/Laws/Messages.lean ====
section
/-! SUPPORT. Every message addressed to the part is one onMessage: the table of what each one's owner decides, and
what reception does with it, said once. -/

namespace Sys2Proof.Machine

/-- What the owning block decides about a message (R189). -/
def decisionOf : Instr → Option (State → Decision)
  | .bindAttn sender payload => some ((decideBindAttn sender payload))
  | .unbind sender payload => some ((decideUnbind sender payload))
  | .setMask sender payload => some ((decideOwner .setMask (fun l => .mask l.mask l.latched) sender payload))
  | .ackEvents sender payload => some ((decideOwner .acknowledge (fun l => .latched l.latched) sender payload))
  | .forceEvent sender payload => some ((decideOwner .latch (fun l => .latched l.latched) sender payload))
  | .readEvents _ payload => some ((decideReadEvents payload))
  | .beginSet sender payload => some ((decideBeginSet (roleOf sender) payload))
  | .writeTable sender payload => some ((decideWriteTable (roleOf sender) payload))
  | .publishSet sender payload => some ((decidePublishSet (roleOf sender) payload))
  | .freeSet sender payload => some ((decideFreeSet (roleOf sender) payload))
  | .setTrim sender payload => some ((decideSetTrim (roleOf sender) payload))
  | .readTable _ payload => some ((decideReadTable payload))
  | .querySet _ payload => some ((decideQuerySet payload))
  | .writeOptics sender payload => some ((decideWriteOptics (roleOf sender) payload))
  | .readOptics _ payload => some ((decideReadOptics payload))
  | .queryPipeline _ payload => some ((query payload fun s => .pipeline s.pipelineReply))
  | .magLoad sender payload => some ((decideMagLoad (roleOf sender) payload))
  | .magUnload sender payload => some ((decideMagUnload (roleOf sender) payload))
  | .gateReady sender payload => some ((decideGateReady (roleOf sender) payload))
  | .gateFault sender payload => some ((decideGateFault (roleOf sender) payload))
  | .abortFrame sender payload => some ((decideAbortFrame (roleOf sender) payload))
  | .readMap _ payload => some ((decideReadMap payload))
  | .submitStored sender payload => some ((decideSubmit (decide (roleOf sender = .job)) sender ((parseStored payload).map storedSubmission)))
  | .submitFlat sender payload => some ((decideSubmit (decide (roleOf sender = .job ∨ roleOf sender = .calibration)) sender ((fields? payload).map flatSubmission)))
  | .submitRunout sender payload => some ((decideSubmit (decide (roleOf sender = .job)) sender ((fields? payload).map runoutSubmission)))
  | .cancel sender payload => some ((decideCancel sender payload))
  | .flush sender payload => some ((decideFlush sender payload))
  | .hold sender payload => some ((decideHold (roleOf sender) payload))
  | .release sender payload => some ((decideRelease (roleOf sender) payload))
  | .queryQueue _ payload => some ((query payload fun s => .queue s.queueReply))
  | .queryEntry _ payload => some ((decideQueryEntry payload))
  | .queryStrips _ payload => some ((decideQueryStrips payload))
  | .queryMemory _ payload => some ((query payload fun s => .memory s.fmc.lastDrop (s.fmc.pinA.map PinRecord.report) (s.fmc.pinB.map PinRecord.report)))
  | .queryReader _ payload => some ((query payload fun s => .reader s.readerReply))
  | .eStop sender payload => some ((decideEStop (roleOf sender) payload))
  | .recorderReset sender payload => some ((decideRecorderReset (roleOf sender) payload))
  | .queryStatus _ payload => some ((decideQueryStatus payload))
  | .resume sender payload => some ((decideResume (roleOf sender) payload))
  | .wake sender payload => some ((decideWake (roleOf sender) payload))
  | .setParam sender payload => some ((decideSetParam (roleOf sender) payload))
  | .setParamLaser sender payload => some ((decideSetParamLaser (roleOf sender) payload))
  | .scannerReset sender payload => some ((decideScannerReset (roleOf sender) payload))
  | .laserReset sender payload => some ((decideLaserReset (roleOf sender) payload))
  | .queryScanner _ payload => some ((decideQueryScanner payload))
  | .queryLaser _ payload => some ((query payload fun s => .lasers (s.lcu.map LaserUnit.report)))
  | .unknownKindMessage _ _ => some ((fun s => refuse s .kind))
  | _ => none

/-- A message addressed to the part is decided by its owner and meets reception; an unknown kind is one whose code
Table 10-6 does not list. -/
theorem exec_message (c : Instr) (a : Addr) (k : Byte) (d : State → Decision) (s : State)
    (ha : c.sender? = some a) (hk : c.kind? = some k) (hd : decisionOf c = some d)
    (hu : ∀ b code, c = .unknownKindMessage b code → kindCodes.contains code = false) :
    exec c s = onMessage c a k d s := by
  cases c <;> simp only [Instr.sender?, Instr.kind?, decisionOf, reduceCtorEq, Option.some.injEq] at ha hk hd <;>
    subst ha hk hd <;> first | rfl | skip
  simp only [exec, execUnknownKindMessage, hu _ _ rfl, Bool.false_eq_true, if_false]

/-- A message that is taken answers with the decision's state and reply. -/
theorem onMessage_taken (c : Instr) (a : Addr) (k : Byte) (d : State → Decision) (s : State)
    (h : s.takes a = true) : onMessage c a k d s = .next ((d s).replied c a k) := by
  simp only [State.takes, Bool.and_eq_true] at h
  simp [onMessage, h.1, h.2]

/-- A message that reception does not take changes nothing. -/
theorem onMessage_notReceived (c : Instr) (a : Addr) (k : Byte) (d : State → Decision) (s : State)
    (h : s.receives = false) : onMessage c a k d s = .next s := by
  simp [onMessage, h]

/-- Every constructor with a sender has a decision. -/
theorem decisionOf_isSome (c : Instr) (a : Addr) (ha : c.sender? = some a) : ∃ k d, c.kind? = some k ∧ decisionOf c = some d := by
  cases c <;> first | exact ⟨_, _, rfl, rfl⟩ | simp [Instr.sender?] at ha

/-- A refusal begins a reply and changes nothing else. -/
theorem refuse_replied (s : State) (st : Status) (c : Instr) (a : Addr) (k : Byte) :
    (refuse s st).replied c a k = s.replying c a k st .none := rfl

/-- An acceptance with the state that follows and its reply. -/
theorem accept_replied (s t : State) (c : Instr) (a : Addr) (k : Byte) (data : ReplyData) (h : t.dbi = s.dbi) :
    (accept t data).replied c a k = t.withDbi { s.dbi with rx := some c, reply := some ⟨a, k, .ok, data⟩ } := by
  simp [Decision.replied, accept, h]

/-- A step on a queue that is not empty. -/
theorem step_cons (s : State) (c : Instr) (rest : List Instr) (h : s.pending = c :: rest) :
    step s = exec c (s.withPending rest) := by
  simp [step, h]

/-- A step on an empty queue. -/
theorem step_nil (s : State) (h : s.pending = []) : step s = .next s := by
  simp [step, h]

end Sys2Proof.Machine
end

