-- ==== Sys2Proof/Tests/Slice0.lean ====
section
/-! SUPPORT. Tests: the well-formedness checks, worked examples of the manual, and for every statement with hypotheses
concrete states and operands that meet them. -/

namespace Sys2Proof.Tests

set_option Elab.async false

open Sys2Proof.Machine

/-! ### Well-formedness: an ill-formed command for each check -/

theorem test_wf_sender_nobody : (Instr.hold 0 (.fits ())).wf = false ∧ (Instr.hold 12 (.fits ())).wf = false ∧
    (Instr.hold 11 (.fits ())).wf = true := by decide

theorem test_wf_payload_over_48 : (Instr.readEvents 1 (List.replicate 49 0)).wf = false ∧
    (Instr.readEvents 1 (List.replicate 48 0)).wf = true := by decide

theorem test_wf_lights_field : (Instr.submitFlat 1 (.fits ⟨1, false, 0, 256, 128, ⟨0, 32768, 0⟩, 1, ⟨0, 0, 0⟩⟩)).wf = false ∧
    (Instr.submitFlat 1 (.fits ⟨1, false, 0, 256, 128, ⟨-32768, 32767, 0⟩, 1, ⟨0, 0, 0⟩⟩)).wf = true := by decide

theorem test_wf_write_table_frame : (Instr.writeTable 5 (.fits ⟨0, .named (.curve .r), 0, List.replicate 23 0⟩)).wf = false ∧
    (Instr.writeTable 5 (.fits ⟨0, .named (.curve .r), 0, List.replicate 22 0⟩)).wf = true := by decide

theorem test_wf_write_optics_frame : (Instr.writeOptics 5 (.fits ⟨.named .facet, 0, List.replicate 25 0⟩)).wf = false ∧
    (Instr.writeOptics 5 (.fits ⟨.named .facet, 0, List.replicate 24 0⟩)).wf = true := by decide

theorem test_wf_unknown_kind : (Instr.unknownKindMessage 1 0x45).wf = false ∧
    (Instr.unknownKindMessage 1 0x46).wf = true := by decide

theorem test_wf_discarded_frame : (Instr.frameDiscard ⟨[0x1C, 0x03, 0x00, 0x53, 0x2B], .badStop⟩).wf = true ∧
    (Instr.frameDiscard ⟨List.replicate 54 0, .complete⟩).wf = false ∧
    (Instr.frameDiscard ⟨[], .complete⟩).wf = true := by decide

theorem test_wf_ignored_is_not_broadcast : (Instr.frameIgnored 1 0).wf = false ∧
    (Instr.frameIgnored 1 3).wf = true := by decide

theorem test_wf_port_window : (Instr.portWrite 0xFFFFFFFF [1, 2]).wf = false ∧
    (Instr.portWrite 0xFFFFFFFF [1]).wf = true ∧ (Instr.portRead 0 ⟨0, 0⟩).wf = false ∧ (Instr.portRead 0 ⟨1, 3⟩).wf = true := by
  decide

theorem test_wf_mark_takes_time : (Instr.startOfScanMark 0 ⟨0, 0, 0⟩ ⟨.rgb, 0⟩).wf = false ∧
    (Instr.startOfScanMark 1 ⟨0, 0, 0⟩ ⟨.rgb, 0⟩).wf = true := by decide

/-! ### Small states -/

/-- The state a command leads to. -/
def after (c : Instr) (s : State) : State :=
  match exec c s with
  | .next t => t
  | .fault _ => s
  | .refused _ => s

/-- The part some time after a hard reset: the line has been idle. -/
def quiet : State := after .deckBusIdle State.reset

/-- The part after the reply in progress has ended and the line has been idle. -/
def idleAfter (s : State) : State := after .deckBusIdle (after .replyEnd s)

/-- The halted part. -/
def halted : State := { quiet with gc := { quiet.gc with halted := true } }

/-- A roll of 40 frames. -/
def roll : MagazineTag := ⟨0x1234, 7, 40, 4⟩

/-- The roll is in the magazine and being threaded. -/
def threaded : State :=
  { quiet with gc := ⟨.loaded roll, .advancing, 0, 0, false⟩, rm := ⟨0, true, some ⟨0x1234, 7, 40⟩⟩ }

/-- The image part of a frame of 256 by 128 with its repeats remaining. -/
def image (remaining : Nat) : ImagePart := ⟨0, 256, 128, ⟨0, 0, 0⟩, remaining, 0⟩

/-- The parts of a staged frame whose strip table stands at 0x1000 and whose one strip at 0x2000. -/
def part : StoredPart := ⟨.p16, .rgb, false, false, none, 0x1000, some [⟨0x2000, 196608, 0⟩], some 0, none⟩

/-- Key of the entry under test. -/
def key1 : Key := ⟨1, 5⟩

/-- A STORED entry. -/
def storedEntry (st : EntryState) : Entry := ⟨0, key1, st, .stored (image 1) part⟩

/-- A FLAT entry. -/
def flatEntry (st : EntryState) : Entry := ⟨0, key1, st, .flat (image 1) ⟨1, 2, 3⟩⟩

/-- A RUNOUT entry. -/
def runoutEntry (n : Nat) : Entry := ⟨0, key1, .staged, .runout n⟩

/-- A set of all-zero tables for the roll's stock. -/
def zeroSet : SetContent := newContent 0x1234 0

/-- The threaded part with a list of entries, its first set READY. -/
def queued (es : List Entry) : State :=
  { threaded with
    fq := { threaded.fq with entries := es, serial := 1 }
    cs := threaded.cs.set 0 ⟨.ready zeroSet 0, es.countP Entry.isImage⟩ }

/-- A channel on target. -/
def onTarget : LaserUnit := { LaserUnit.afterReset with state := .ready, average := 32000 }

/-- The queued part with the scanner LOCKED and the channels READY. -/
def locked (es : List Entry) : State :=
  { queued es with
    stu := { ScanTiming.afterReset with scanner := .locked, facet := some 0, missing := .running 40000 }
    lcu := ⟨onTarget, onTarget, onTarget⟩ }

/-- An exposure of the head at film position 0. -/
def frame (kind : FrameKind) : Exposure :=
  newExposure ⟨0, key1, kind, 0, 1, 0, 0, ⟨0, 0, 0⟩, ⟨0, 0, 0⟩, ⟨16384, 16384, 16384⟩, ⟨4095, 4095, 4095⟩, 0, 0⟩

/-- The locked part exposing its head. -/
def exposing (x : Exposure) (es : List Entry) : State :=
  { locked es with gc := ⟨.loaded roll, .exposing x, 0, 0, false⟩ }

/-- The part waiting for a write-back of its head to mark a descriptor. -/
def marking (control : Byte) (c : Completion) : State :=
  let s := queued [⟨0, key1, .staged, .stored (image 1) { part with completion := some c }⟩]
  { s with sr := ⟨none, none, [key1], 1, ⟨some (.mark control), false, false, false⟩⟩ }

/-- Readings of a laser on target. -/
def readings : Rgb (BitVec 12) := ⟨2000, 2000, 2000⟩

/-- Samples first, then the judgement. -/
def order : MarkOrder := ⟨.rgb, 3⟩

/-- A mark after a period on target. -/
def mark : Instr := .startOfScanMark 20000 readings order

/-- The frame at a film position is in the gate, and the map holds the records before it. -/
def inGate (q : Nat) (s : State) : State :=
  { s with gc := { s.gc with gate := .ready q, expected := q }, rm := { s.rm with count := q } }

/-- The queue of a state held by the operator. -/
def hold (s : State) : State := { s with fq := { s.fq with held := ⟨false, false, false, true⟩ } }

/-- The roll in the magazine has another stock code than the set. -/
def wrongRoll (s : State) : State := { s with gc := { s.gc with magazine := .loaded { roll with stock := 1 } } }

/-- A walk of the STAGING entry at a place. -/
def walkAt (place : StagingPlace) : Staging := ⟨0, key1, 0x1000, 0, [], 0, 0, 0, none, 196608, none, place⟩

/-- The part with a staging read in progress. -/
def staging (g : Staging) (bytes : List Byte) : State :=
  let s := queued [storedEntry .staging]
  { s with
    sr := ⟨some g, none, [], 0, ⟨some (.staging bytes), false, false, false⟩⟩
    fmc := { s.fmc with pinA := some ⟨0, key1, ⟨0x1000, 16⟩, []⟩ } }

/-- The queued part with its link up. -/
def linked (es : List Entry) : State := { queued es with port := ⟨true, none, none⟩ }

/-- A write that runs past the end of the window touches the reel-map region and is dropped. -/
theorem test_port_past_window : (after (.portWrite 0xFFFFFFFF [1, 2]) (linked [])).fmc.lastDrop =
    some ⟨0xFFFFFFFF, 2, .map⟩ ∧ (after (.portWrite 0xFFFFFFFF [1, 2]) (linked [])).fmc.mem = [] := by decide

/-- A port read that falls together with three UNKNOWN records is served after the first of them. -/
theorem test_port_read_between_records :
    (let s := after (.gateReady 4 (.fits 3)) (after (.portRead 0xFFF00001 ⟨64, 1⟩) (linked []))
     s.port.waiting = none ∧ s.rm.count = 3 ∧
      s.port.lastRead.map (fun r => (r.offset, r.bytes.length, r.bytes.take 2)) = some (0xFFF00001, 64, [0, 3])) := by
  decide

/-- A GATE_READY with a jump of one frame, and the runout start at the same event: a port read that waits for two
records finds the first BLANK record, and the third not. -/
theorem test_port_read_across_starts :
    (after (.gateReady 4 (.fits 1)) (after (.portRead 0xFFF00022 ⟨1, 2⟩) (linked [runoutEntry 2]))).port =
      ⟨true, some ⟨0xFFF00022, [2]⟩, none⟩ := by
  decide

/-- A read that waits for more records than the event appends is served at its end. -/
theorem test_port_read_after_all :
    (after (.gateReady 4 (.fits 1)) (after (.portRead 0xFFF00002 ⟨1, 9⟩) (linked []))).port =
      ⟨true, some ⟨0xFFF00002, [3]⟩, none⟩ := by
  decide

/-- A broadcast and an ignored frame leave the DBI waiting for an idle line. -/
theorem test_idle_line_awaited : (after (.broadcastMessage 6 1) quiet).receives = false ∧
    (after (.frameIgnored 1 3) quiet).receives = false ∧
    (after .deckBusIdle (after (.frameIgnored 1 3) quiet)).receives = true := by decide

/-- A misfit CANCEL of the calibration station that names another is refused for its role first. -/
theorem test_misfit_names : (after (.cancel 5 (.misfit (some 1))) quiet).dbi.reply.map Reply.status = some .role ∧
    (after (.cancel 5 (.misfit (some 5))) quiet).dbi.reply.map Reply.status = some .arg ∧
    (after (.queryStrips 8 (.misfit (some (1, 6)))) quiet).dbi.reply.map Reply.status = some .unknownId := by decide

/-! ### Worked examples of the manual -/

theorem test_table_4_3_interpolation : interpolate 48472 48772 128 = 48622 ∧ interpolate 16384 16640 64 = 16448 ∧
    interpolate 16640 16384 64 = 16576 ∧ interpolate 520 528 245 = 528 ∧ interpolate 64000 65535 255 = 65529 ∧
    interpolate 1000 1000 200 = 1000 := by decide

theorem test_table_4_5_antilog : antilog 0 = 1678 ∧ antilog 16384 = 16777 ∧ antilog 32768 = 167772 ∧
    antilog 49152 = 1677722 ∧ antilog 65535 = 16774858 := by decide +kernel

theorem test_table_7_5_power_gain : powerGain 32000 2000 = 16384 ∧ powerGain 32010 2000 = 16379 ∧
    powerGain 32740 2000 = 16014 ∧ powerGain 33050 2000 = 15863 ∧ powerGain 29516 2000 = 17763 ∧
    powerGain 0 2000 = 32767 := by decide

theorem test_r114_period_window : goodPeriod .default 20078 = true ∧ goodPeriod .default 20079 = false ∧
    goodPeriod .default 19922 = true ∧ goodPeriod .default 19921 = false := by decide

theorem test_r136_bands : insideWarn .default 31000 = true ∧ insideWarn .default 33001 = false ∧
    beyondFault .default 28000 = false ∧ beyondFault .default 36001 = true := by decide

theorem test_r184_crc_check_value : crc16 [0x31, 0x32, 0x33, 0x34, 0x35, 0x36, 0x37, 0x38, 0x39] = 0x29B1 := by
  decide +kernel

/-- The header byte of station 2's message to unit 13 as a character: Table 10-2 has its first five levels. -/
theorem test_r181_character : characterLevels 0x2D = [.dominant, .dominant, .dominant, .recessive, .dominant, .recessive,
    .recessive, .dominant, .recessive, .recessive] ∧ frameLevels [] = [.dominant] ∧
    lineUnder [.dominant, .recessive] = .dominant ∧ lineUnder [] = .recessive ∧
    lineIdle (.dominant :: List.replicate 20 .recessive) = true ∧
    lineIdle (.dominant :: List.replicate 19 .recessive) = false := by decide

/-- A frame cut short, and one whose second stop bit is dominant, as the DBI reads them. -/
theorem test_r186_line_ends :
    receiveFrame (frameLevels [0x1C, 0x03] ++ List.replicate 20 .recessive) = ⟨[0x1C, 0x03], .idle⟩ ∧
    receiveFrame (frameLevels [0x1C] ++ (characterLevels 0x03).take 9 ++ [.dominant]) = ⟨[0x1C], .badStop⟩ := by
  decide

/-- A reply of a state is driven as 1 + 10 × 6 levels when it carries no data. -/
theorem test_r190_reply_levels :
    ((after (.hold 1 (.fits ())) quiet).replyLevels.map List.length) = some 61 ∧ quiet.replyLevels = none := by
  decide +kernel

theorem test_r54_checksum_end_around : sumBytes 0 none [0xFF, 0xFF, 0x00, 0x01, 0x02] = (1, some 2) ∧
    sumBytes 1 (some 2) [0x03] = (0x0204, none) := by decide

theorem test_r57_p10_pixel : decodePixel .p10 .rgb [0x80, 0x80, 0x20, 0x08] = ⟨32896, 128, 128⟩ ∧
    decodePixel .p10 .bgr [0x80, 0x80, 0x20, 0x08] = ⟨128, 128, 32896⟩ ∧
    decodePixel .p16s .rgb [1, 2, 3, 4, 5, 6] = ⟨513, 1027, 1541⟩ := by decide

theorem test_r96_drive_values_clamped : (after (.writeTable 5 (.fits ⟨1, .named (.drive .b), 300, [4000, 4095, 4096, 65535]⟩))
      (idleAfter (after (.beginSet 5 (.fits ⟨1, 0x1234, 0⟩)) quiet))).dbi.reply.map Reply.data =
    some (.tableWritten (.drive .b) 300 4 2) := by decide +kernel

/-- Worked case 4.8: a pixel in the coarse range. -/
theorem test_table_4_9_coarse_pixel :
    driveCode ⟨(List.replicate 257 0).set 128 48472 |>.set 129 48772,
      (List.replicate 498 0).set 266 1480 |>.set 267 1530, 120, 410, 16220, 4095⟩ 16548
      (profileGain ((List.replicate 33 0).set 11 16384 |>.set 12 16640) (profilePosition 4096 4096 832)) 32896 =
    (1515, false) := by decide +kernel

/-! ### Messages: that the hypotheses of their statements can be met -/

theorem forall_channel {p : Channel → Prop} (r : p .r) (g : p .g) (b : p .b) : ∀ c, p c
  | .r => r
  | .g => g
  | .b => b

theorem test_meets_StepTakesFrontCommand : { quiet with pending := [mark, .indexPulse] }.pending = mark :: [.indexPulse] ∧
    quiet.pending = [] := by decide

theorem test_meets_CommandsCompleteAndKeepQueue : exec mark (exposing (frame .flat) [flatEntry .exposing]) =
    .next (after mark (exposing (frame .flat) [flatEntry .exposing])) := rfl

theorem test_meets_ResetStateHasInvariants : quiet.pins.estopLow = false ∧ quiet.pending = [] := by decide

theorem test_meets_NothingReachesAClosedPart :
    (State.reset.receives = false ∧ Instr.sender? (.hold 1 (.fits ())) = some 1) ∧
    ((after (.hold 1 (.fits ())) quiet).receives = false) ∧
    (let s := after .hardReset quiet
     s.pins.resetLow = true ∧ s.receives = false ∧ s.dbi.reply = none ∧ mark ≠ .hardReset ∧
       mark ≠ .estopNAsserted ∧ mark ≠ .estopNDeasserted ∧ (∀ s1 s0, mark ≠ .hardResetEnd s1 s0)) := by decide

theorem test_meets_RefusedBeforeAnyEffect :
    (let c : Instr := .hold 4 (.fits ())
     c.sender? = some 4 ∧ c.kind? = some 0x15 ∧ c.roles? = some [.job] ∧ roleOf 4 ∉ [Role.job] ∧ quiet.takes 4 = true) ∧
    (let c : Instr := .readMap 11 .misfit
     c.sender? = some 11 ∧ c.kind? = some 0x35 ∧ c.misfits = true ∧ quiet.takes 11 = true ∧ c.roles? = none) ∧
    (let c : Instr := .submitStored 1 []
     c.misfits = true ∧ c.isSubmission = true ∧ quiet.fq.entries.length < 64 ∧ c.roles? = some [.job]) ∧
    (quiet.takes 1 = true ∧ kindCodes.contains 0xFF = false) ∧
    (quiet.takes 5 = true ∧ roleOf 5 = .calibration ∧ (1 : Nat) ≠ (5 : Addr).toNat ∧ roleOf 1 = .job) ∧
    (let es := [storedEntry .staged, { flatEntry .staged with key := ⟨2, 5⟩ }]
     (queued es).takes 8 = true ∧ (∀ e ∈ es, e.key ≠ ⟨1, 6⟩) ∧
      (findEntry es ⟨1, 5⟩).bind (fun e => e.stored?.bind StoredPart.stripMap) ≠ none ∧
      (findEntry es ⟨2, 5⟩).isSome = true ∧
      (findEntry es ⟨2, 5⟩).bind (fun e => e.stored?.bind StoredPart.stripMap) = none) := by decide

theorem test_meets_LineEventsAndBroadcasts :
    (quiet.takes 1 = true ∧ roleOf 1 ≠ .observer ∧ quiet.gc.halted = false) ∧
    (halted.takes 4 = true ∧ roleOf 4 ≠ .observer ∧ halted.gc.halted = true) ∧
    (quiet.takes 6 = true ∧ roleOf 6 = .observer) ∧
    (quiet.receives = true ∧ (FrameRx.failure ⟨[0x1C, 0x03, 0x00, 0, 0], .complete⟩).isSome = true) ∧
    ((after (.hold 1 (.fits ())) quiet).dbi.reply.isSome = true) ∧ State.reset.pins.resetLow = false := by
  decide +kernel

theorem test_meets_HaltAndResume :
    (quiet.takes 1 = true ∧ roleOf 1 = .job ∧ roleOf 8 = .observer ∧ quiet.takes 8 = true) ∧
    (quiet.pins.resetLow = false ∧ quiet.pins.estopLow = false ∧ quiet.gc.halted = false) ∧
    (halted.takes 1 = true ∧ halted.gc.halted = true ∧ halted.pins.estopLow = false ∧ halted.gateReady = false ∧
      halted.exposure? = none ∧ halted.port.waiting = none) ∧
    (let s := after .estopNAsserted quiet; s.takes 1 = true ∧ s.pins.estopLow = true) := by decide

theorem test_meets_RecorderResetEmptiesTheWork :
    (let s := exposing (frame .flat) [flatEntry .exposing]
     s.takes 3 = true ∧ roleOf 3 = .job ∧ s.exposure? = some (frame .flat) ∧ s.memoryCanonical ∧
      s.rm.count < Config.maxRecords ∧ s.useCountsAgree) ∧ quiet.exposure? = none := by
  unfold State.memoryCanonical State.useCountsAgree
  decide +kernel

theorem test_meets_AbortFrameAndGateFault :
    (let s := exposing (frame .flat) [flatEntry .exposing]
     s.takes 1 = true ∧ s.takes 4 = true ∧ roleOf 1 = .job ∧ roleOf 4 = .transport ∧
      s.exposure? = some (frame .flat) ∧ s.gc.gate = .exposing (frame .flat)) ∧
    (quiet.gc.gate = .noFilm ∧ quiet.exposure? = none ∧ threaded.gc.gate = .advancing) ∧
    (after (.gateReady 4 (.fits 0)) threaded).gateReady = true ∧
    (after (.gateFault 4 (.fits ())) threaded).gc.gate = .fault := by decide

theorem test_meets_MagazineLoadsAndUnloads :
    (quiet.takes 4 = true ∧ roleOf 4 = .transport ∧ quiet.gc.magazine = .absent) ∧
    parseTag [0x12, 0x34, 0, 0, 0, 7, 0, 0, 0x80, 0, 4] = some ⟨0x1234, 7, 32768, 4⟩ ∧
    parseTag [0x12, 0x34, 0, 0, 0, 7, 0, 0, 0x80, 1, 5] = some ⟨0x1234, 7, 32769, 5⟩ ∧
    (threaded.gc.magazine = .loaded roll ∧ threaded.exposure? = none ∧ threaded.takes 4 = true) ∧
    (after (.magLoad 4 [0, 0, 0, 0, 0, 7, 0, 0, 0, 1, 4]) quiet).gc.magazine = .unrecognized ⟨0, 7, 1, 4⟩ ∧
    (exposing (frame .flat) [flatEntry .exposing]).exposure? = some (frame .flat) := by decide

theorem test_meets_QueriesChangeNothing :
    (let c : Instr := .queryScanner 8 (.fits ())
     c.sender? = some 8 ∧ c.kind? = some 0x09 ∧ c.isQuery = true ∧ quiet.takes 8 = true) := by decide

theorem test_meets_StateQueriesAnswer :
    (let s := idleAfter (after (.wake 1 (.fits ())) quiet)
     s.takes 8 = true ∧ s.stu.spinUp = .running 20 ∧ s.stu.idle = .stopped) ∧
    (let s := after mark (locked [])
     s.takes 8 = true ∧ s.stu.idle = .running 600 ∧ s.stu.spinUp = .stopped ∧ s.stu.lastPeriod = some 20000 ∧
      (s.lcu.get .r).state = .ready ∧ (s.lcu.get .r).lastSample = some 2000) ∧
    ((quiet.lcu.get .r).state ≠ .ready ∧ (quiet.lcu.get .r).lastSample = none ∧ quiet.stu.lastPeriod = none) := by decide

theorem test_meets_EntryQueriesAnswer :
    (let s := queued [storedEntry .staged, { flatEntry .staged with key := ⟨2, 5⟩ }]
     s.takes 8 = true ∧ s.fq.entries.length ≤ 2 ∧ s.fq.entries[0]? = some (storedEntry .staged) ∧
      (∀ e ∈ s.fq.entries, e.key ≠ ⟨1, 6⟩) ∧ s.queueBounded ∧
      findEntry s.fq.entries key1 = some (storedEntry .staged) ∧
      (storedEntry .staged).stored?.bind StoredPart.stripMap = some [⟨0x2000, 196608, 0⟩] ∧
      findEntry s.fq.entries ⟨2, 5⟩ = some { flatEntry .staged with key := ⟨2, 5⟩ } ∧
      (flatEntry .staged).stored?.bind StoredPart.stripMap = none) := by
  unfold State.queueBounded
  decide

theorem test_meets_QueryStatusPages :
    (let s := exposing (frame .flat) [flatEntry .exposing]
     s.takes 8 = true ∧ s.exposure? = some (frame .flat)) ∧ quiet.exposure? = none ∧ (2 : Byte) ≠ 0 ∧ (2 : Byte) ≠ 1 := by
  decide

theorem test_meets_TableQueriesAnswer :
    (let s := queued []
     s.takes 8 = true ∧ (s.setAt 0).content? = some zeroSet ∧ (s.setAt 7).state = .free ∧
      497 + 1 ≤ nodeCount (.drive .b) ∧ nodeCount (.curve .r) < 257 + 1 ∧ partSize .facet ≤ 16 ∧ 32 < partSize .profile) := by
  decide +kernel

theorem test_meets_ReadMapAnswers :
    (let s := after (.gateReady 4 (.fits 2)) threaded
     s.rm.count = 2 ∧ (idleAfter s).takes 8 = true) := by decide

theorem test_meets_LinesAreBoundAndRead :
    (let s := idleAfter (after (.bindAttn 1 [3]) quiet)
     s.takes 2 = true ∧ s.takes 1 = true ∧ s.au[3].owner = some 1 ∧ s.au[0].owner = none ∧
      (4 : Byte).toNat = 4 ∧ (3 : Byte).toNat = (3 : Fin 4).val) := by decide

theorem test_meets_OwnerMessagesActOnOneLine :
    (let s := idleAfter (after (.bindAttn 1 [3]) quiet)
     s.takes 1 = true ∧ s.au[3].owner = some (1 : Addr).toNat ∧ s.takes 2 = true ∧
      s.au[3].owner ≠ some (2 : Addr).toNat ∧ s.au[0].owner ≠ some (1 : Addr).toNat) := by decide

theorem test_meets_PortServesItsHost :
    (let s := staging (walkAt .descriptor) []
     let s := { s with port := ⟨true, none, none⟩ }
     s.portServes = true ∧ s.memoryCanonical ∧ s.fmc.pinA = some ⟨0, key1, ⟨0x1000, 16⟩, []⟩ ∧
      (0x100F : Word32).toNat + 1 ≤ 0x100000000 ∧ (0xFFFFFFFF : Word32).toNat + 1 ≤ 0x100000000) ∧
    quiet.portServes = false ∧ quiet.pins.resetLow = false ∧
    (let s := after (.portRead 0x1000 ⟨2, 3⟩) (linked [])
     s.portServes = true ∧ s.port.waiting = some ⟨0x1000, 2, 3⟩ ∧ (linked []).port.waiting = none) := by
  unfold State.memoryCanonical
  decide

/-- Byte 0x100F is pinned in the state above and byte 0x1010 is not. -/
theorem test_pinned_boundary :
    (⟨0, key1, ⟨0x1000, 16⟩, []⟩ : PinRecord).covers 0x100F ∧ ¬ (⟨0, key1, ⟨0x1000, 16⟩, []⟩ : PinRecord).covers 0x1010 := by
  simp [PinRecord.covers, Range.covers]

/-! ### Scanner and channels -/

theorem test_meets_WakeByScannerState :
    (quiet.takes 1 = true ∧ roleOf 1 ≠ .observer ∧ roleOf 6 = .observer ∧ quiet.stu.scanner = .stopped ∧
      quiet.gc.halted = false ∧ halted.takes 1 = true ∧ halted.stu.scanner = .stopped) ∧
    (let s := after (.wake 1 (.fits ())) quiet
     s.stu.scanner = .spinningUp ∧ (after mark s).stu.scanner = .acquiring ∧
      (after .spinUpTimerExpiry s).stu.scanner = .fault) ∧
    (locked []).stu.scanner = .locked := by decide

theorem test_meets_SetParamStoresInRange :
    (quiet.takes 1 = true ∧ roleOf 1 = .job ∧ quiet.stu.scanner = .stopped ∧ (quiet.lcu.get .r).state = .off) ∧
    ((locked []).takes 1 = true ∧ (locked []).turning = true ∧ ((locked []).lcu.get .g).state = .ready) ∧
    (quiet.lcu.get .r).settings.warnBand = 8 ∧ (quiet.lcu.get .r).settings.faultBand = 32 := by decide

theorem test_meets_ResetsLeaveFaults :
    (let s := after .spinUpTimerExpiry (idleAfter (after (.wake 1 (.fits ())) quiet))
     s.takes 1 = true ∧ roleOf 1 = .job ∧ roleOf 4 ≠ .job ∧ s.stu.scanner = .fault ∧ s.hasImageEntry = false) ∧
    (let s := queued [flatEntry .staged]
     let s := { s with stu := { s.stu with scanner := .fault } }
     s.takes 1 = true ∧ s.gc.halted = false ∧ s.hasImageEntry = true) ∧ quiet.stu.scanner ≠ .fault ∧
    (let s := after (.startOfScanMark 20000 ⟨0, 2000, 2000⟩ order)
        { locked [] with lcu := ⟨{ onTarget with average := 28000 }, onTarget, onTarget⟩ }
     (s.lcu.get .r).state = .fault ∧ (s.lcu.get .g).state = .ready ∧ s.takes 1 = true ∧ s.stu.scanner = .locked) ∧
    (quiet.lcu.get .r).state ≠ .fault := by decide

theorem test_meets_MarksBeforeLock :
    (let s := after (.wake 1 (.fits ())) quiet
     s.pins.resetLow = false ∧ s.stu.scanner = .spinningUp ∧ s.stu.missing = .stopped ∧ s.exposure? = none ∧
      (∀ c, (s.lcu.get c).state = .off)) ∧
    (let s := { quiet with stu := { quiet.stu with
        scanner := .acquiring, missing := .running 40000, facet := some 7, acq := 63 } }
     s.stu.scanner = .acquiring ∧ s.stu.missing = .running 40000 ∧ 1 ≤ 20078 ∧ 20078 ≤ 40000 ∧
      (20078 - 20000) * 4096 ≤ s.stu.settings.period * s.stu.settings.tolerance ∧
      s.stu.settings.period * s.stu.settings.tolerance < (20079 - 20000) * 4096 ∧ s.stu.facet = some 7 ∧
      7 < s.stu.settings.facetCount ∧ 64 ≤ s.stu.acq + 1 ∧ s.gc.halted = false) ∧
    (let s := after .missingMarkTimerExpiry { quiet with stu := { quiet.stu with
        scanner := .acquiring, missing := .running 40000, facet := some 7 } }
     s.stu.scanner = .acquiring ∧ s.stu.missing = .stopped ∧ s.stu.facet = none) :=
  ⟨⟨by decide, by decide, by decide, by decide, forall_channel (by decide) (by decide) (by decide)⟩, by decide, by decide⟩

theorem test_meets_MarkInLocked :
    (let s := locked []
     s.pins.resetLow = false ∧ s.stu.scanner = .locked ∧ s.stu.missing = .running 40000 ∧ s.stu.badRun = 0 ∧
      s.stu.facet = some 0 ∧ 0 < s.stu.settings.facetCount) ∧
    (let s := after (.startOfScanMark 20079 readings order) (after (.startOfScanMark 20079 readings order) (locked []))
     s.stu.scanner = .locked ∧ s.stu.badRun = 2 ∧ s.stu.missing = .running 40000) := by decide

theorem test_meets_SampleTracksPower :
    ((locked []).turning = true ∧ ((locked []).lcu.get .r).state = .ready ∧ (locked []).stu.missing = .running 40000 ∧
      (after mark (locked [])).stu.scanner = .locked ∧ ((after mark (locked [])).lcu.get .b).state = .ready) ∧
    (let u : LaserUnit := { LaserUnit.afterReset with state := .warming, average := 32000, band := 511, samples := 2047 }
     let s := { locked [] with lcu := ⟨u, onTarget, { onTarget with state := .off }⟩ }
     s.turning = true ∧ (s.lcu.get .r).state = .warming ∧ (s.lcu.get .r).settings.warmCount = 512 ∧
      ((after mark s).lcu.get .r).state = .ready ∧ (s.lcu.get .b).state = .off) := by decide

theorem test_meets_IndexPulseAndTimers :
    (quiet.turning = false ∧ (locked []).turning = true ∧ (locked []).stu.facet = some 0) ∧
    (let s := after mark (locked [])
     s.stu.facet = some (0 + 1) ∧ s.stu.scanner = .locked ∧ s.stu.missing = .running 40000 ∧ s.stu.idle = .running 600 ∧
      s.pins.resetLow = false) ∧
    (let s := after mark (after (.wake 1 (.fits ())) quiet)
     s.stu.scanner = .acquiring ∧ s.stu.missing = .running 40000 ∧ s.stu.spinUp = .running 20 ∧ s.stu.facet = none) := by
  decide
/-! ### Queue, sets, optics -/

/-- A FLAT submission. -/
def flatSubmit (front : Bool) (set : Nat) (tag : Word32) : Instr :=
  .submitFlat 1 (.fits ⟨tag, front, set, 256, 128, ⟨0, 0, 0⟩, 250, ⟨1, 2, 3⟩⟩)

/-- A STORED submission as bytes: tag 9, set 0, 256 by 128, table at 0x1000. -/
def storedSubmit : Instr := .submitStored 1
  [0, 0, 0, 9, 0, 0, 0, 0, 1, 0, 1, 0, 0, 128, 0, 0, 0, 0, 0, 0, 0, 0, 0, 0, 0x10, 0]

/-- The queued part, held by the operator. -/
def held (es : List Entry) : State := hold (queued es)

/-- The entry behind the staging window. -/
def behind : Entry := { storedEntry .queued with key := ⟨2, 9⟩ }

/-- A state with one pin record, that of an entry at position 0 or 1. -/
theorem pinsInWindow_of_one {s : State} {r : PinRecord} {n : Nat} {e : Entry} (ha : s.fmc.pinA = some r)
    (hb : s.fmc.pinB = none) (hn : n < 2) (he : s.fq.entries[n]? = some e) (hk : e.key = r.key)
    (hs : e.isStored = true) : s.pinsInWindow := by
  refine ⟨fun p hp => ?_, fun p q _ hq => by rw [hb] at hq; cases hq⟩
  rcases hp with hp | hp
  · obtain rfl : r = p := Option.some.inj (ha.symm.trans hp)
    exact ⟨n, e, hn, he, hk, hs⟩
  · rw [hb] at hp
    cases hp

/-- A state without a pin record. -/
theorem pinsInWindow_of_none {s : State} (ha : s.fmc.pinA = none) (hb : s.fmc.pinB = none) : s.pinsInWindow := by
  refine ⟨fun p hp => ?_, fun p q _ hq => by rw [hb] at hq; cases hq⟩
  rcases hp with hp | hp
  · rw [ha] at hp
    cases hp
  · rw [hb] at hp
    cases hp

/-- Two entries in the window and one behind it; the second, STORED, holds its pins. -/
def window (s : List Entry → State) : State :=
  let t := s [flatEntry .staged, { storedEntry .staged with key := ⟨2, 5⟩ }, behind]
  { t with fmc := { t.fmc with pinA := some ⟨0, ⟨2, 5⟩, ⟨0x1000, 16⟩, [⟨0x2000, 196608⟩]⟩ } }

theorem test_window_pins : (window held).pinsInWindow ∧ (window queued).pinsInWindow :=
  ⟨pinsInWindow_of_one (n := 1) rfl rfl (by decide) rfl rfl rfl,
    pinsInWindow_of_one (n := 1) rfl rfl (by decide) rfl rfl rfl⟩

/-- The position expected is that of the gate, in a state with the gate READY. -/
theorem gateAtExpected_of_ready {s : State} {q : Nat} (h : s.gatePosition? = some q) (e : s.gc.expected = q) :
    s.gateAtExpected := fun _ hp => (Option.some.inj (hp.symm.trans h)).trans e.symm

/-- No line is due where nothing is exposed. -/
theorem lineBegun_of_idle {s : State} (h : s.exposure? = none) : s.lineBegun :=
  fun _ _ hx => by rw [h] at hx; cases hx

theorem test_meets_SubmissionRefusals :
    (let s := { queued [] with fq := { quiet.fq with entries := List.replicate 64 (runoutEntry 1) } }
     64 ≤ s.fq.entries.length ∧ s.takes 1 = true) ∧
    (let s := queued [flatEntry .staged]
     s.fq.entries.length < 64 ∧ s.takes 1 = true ∧ (∃ e ∈ s.fq.entries, e.key = ⟨1, 5⟩) ∧
      (∀ e ∈ s.fq.entries, e.key ≠ ⟨1, 9⟩) ∧
      ((submissionOf (flatSubmit true 0 5)).map Submission.tag = some 5) ∧
      ((submissionOf (flatSubmit true 8 9)).map Submission.valid = some false) ∧
      ((submissionOf (flatSubmit true 1 9)).map Submission.set = some (some 1)) ∧ (s.setAt 1).ready? = none ∧
      ((submissionOf (flatSubmit true 0 9)).map Submission.valid = some true) ∧ (s.setAt 0).ready? = some zeroSet ∧
      ((submissionOf (flatSubmit true 0 9)).map Submission.front = some true) ∧ s.fq.held.any = false) ∧
    (let s := held [⟨0, key1, .staged, .stored (image 1) { part with completion := some .cancelled }⟩]
     s.takes 1 = true ∧ s.fq.held.any = true ∧ s.leavingNear s.frontPlace = true ∧ roleOf 1 = .job) := by decide +kernel

theorem test_meets_SubmissionAccepted :
    (let s := queued [flatEntry .staged]
     s.takes 1 = true ∧ s.noStart = true ∧ s.tablesInRange ∧ s.fq.entries.length < 64 ∧
      (∀ e ∈ s.fq.entries, e.key ≠ ⟨1, 9⟩) ∧ (s.setAt 0).ready? = some zeroSet ∧
      (submissionOf storedSubmit).map (fun f => (f.tag, f.front, f.valid, f.set)) = some (9, false, true, some 0) ∧
      (submissionOf (.submitRunout 1 (.fits ⟨9, false, 4096⟩))).map (fun f => (f.tag, f.valid, f.set)) =
        some (9, true, none)) ∧
    (let s := held [flatEntry .staged, { storedEntry .staged with key := ⟨2, 5⟩ }]
     s.takes 1 = true ∧ s.noStart = true ∧ s.tablesInRange ∧ s.fq.held.any = true ∧
      s.leavingNear s.frontPlace = false ∧
      (submissionOf (flatSubmit true 0 9)).map (fun f => (f.tag, f.front, f.valid, f.set)) =
        some (9, true, true, some 0)) ∧
    (let s := window held
     s.takes 1 = true ∧ s.noStart = true ∧ s.tablesInRange ∧ s.queueBounded ∧ s.fq.held.any = true ∧
      s.leavingNear s.frontPlace = false ∧ s.frontPlace ≤ 1 ∧ s.sr.staging.map Staging.key ≠ some ⟨1, 9⟩ ∧
      (∃ q, s.holdsPin q ∧ q.key = ⟨2, 5⟩)) := by
  unfold State.tablesInRange State.queueBounded
  refine ⟨⟨by decide, by decide, ?_, by decide, by decide, by decide +kernel, by decide, by decide⟩,
    ⟨by decide, by decide, ?_, by decide, by decide, by decide⟩,
    ⟨by decide, by decide, ?_, by decide, by decide, by decide, by decide, by decide, _, .inl rfl, rfl⟩⟩ <;> decide

theorem test_meets_HoldAndRelease :
    (quiet.takes 1 = true ∧ roleOf 1 = .job ∧ quiet.takes 4 = true ∧ roleOf 4 ≠ .job) ∧
    ((held []).takes 1 = true ∧ (held []).noStart = true ∧ (held []).fq.held.any = true) ∧
    (held []).tablesInRange ∧
    (let s := hold (inGate 0 (queued [flatEntry .staged]))
     s.noStart = false ∧ s.headIsFrame = true ∧ s.headIsRunout = false ∧ s.isLocked = false) := by
  unfold State.tablesInRange
  decide

theorem test_meets_CancelTakesOneEntry :
    (let s := queued [storedEntry .staging, { flatEntry .staged with key := ⟨2, 5⟩ }]
     s.takes 1 = true ∧ roleOf 1 = .job ∧ s.noStart = true ∧
      findEntry s.fq.entries key1 = some (storedEntry .staging) ∧
      findEntry s.fq.entries ⟨2, 5⟩ = some { flatEntry .staged with key := ⟨2, 5⟩ } ∧
      findEntry s.fq.entries ⟨1, 6⟩ = none ∧ s.tablesInRange ∧ s.flatsNotRejected) ∧
    (roleOf 5 = .calibration ∧ (some 5 : Option Nat).getD (5 : Addr).toNat = (5 : Addr).toNat) ∧
    (findEntry (exposing (frame .flat) [flatEntry .exposing]).fq.entries key1 = some (flatEntry .exposing)) ∧
    (let s := queued [storedEntry .staged]
     s.sr.wbList = [] ∧ s.sr.channel = ⟨none, false, false, false⟩ ∧ s.queueBounded ∧ s.memoryCanonical ∧
      s.pins.resetLow = false ∧ part.tableOffset % 16 = 0) ∧
    (queued [storedEntry .staged]).lineBegun ∧
    (let s := window queued
     s.queueBounded ∧ s.tablesInRange ∧ s.flatsNotRejected ∧ s.fq.entries[0]? = some (flatEntry .staged) ∧
      s.fq.entries[2]? = some behind ∧ s.sr.staging.map Staging.key ≠ some behind.key ∧ behind.leaving = false) := by
  refine ⟨?_, ?_, ?_, ?_, lineBegun_of_idle rfl, ?_⟩
  · unfold State.tablesInRange State.flatsNotRejected; decide
  · decide
  · decide
  · unfold State.queueBounded State.memoryCanonical; decide
  · unfold State.queueBounded State.tablesInRange State.flatsNotRejected; decide

theorem test_meets_FlushCancelsOneSubmitter :
    (let s := queued [storedEntry .staging, { flatEntry .staged with key := ⟨2, 5⟩ }]
     s.takes 1 = true ∧ roleOf 1 = .job ∧ s.noStart = true ∧ s.tablesInRange ∧ s.queueBounded ∧
      (∀ e ∈ s.fq.entries, e.rejected? = none) ∧ 1 ≤ (none : Option Nat).getD (1 : Addr).toNat ∧
      (some 11 : Option Nat).getD (1 : Addr).toNat ≤ 11) := by
  unfold State.tablesInRange State.queueBounded
  decide

/-- A BUILDING set 1. -/
def building : State := idleAfter (after (.beginSet 5 (.fits ⟨1, 0x1234, 0⟩)) (queued []))

theorem test_meets_SetsBeginAndEnd :
    (quiet.takes 5 = true ∧ roleOf 5 = .calibration ∧ quiet.cs[7].state = .free ∧ (0x1234 : Word16) ≠ 0 ∧
      (0x1234 : Word16) ≠ 65535) ∧
    (building.takes 5 = true ∧ building.cs[1].state = .building zeroSet ∧ building.cs[0].state = .ready zeroSet 0 ∧
      building.cs[0].useCount = 0) ∧
    (let s := queued [flatEntry .staged]
     s.takes 5 = true ∧ s.cs[0].state = .ready zeroSet 0 ∧ 0 < s.cs[0].useCount) := by decide +kernel

theorem test_meets_WriteTableStoresNodes :
    (building.takes 5 = true ∧ building.cs[1].state = .building zeroSet ∧ (zeroSet.table (.drive .g)).length = 498 ∧
      496 + [4095, 4096].length ≤ 498 ∧ 257 < 256 + ([1, 2] : List Word16).length) ∧
    (∀ v, quiet.cs[1].state ≠ .building v) := by
  refine ⟨by decide +kernel, fun v => ?_⟩
  have h : quiet.cs[1].state = .free := by decide
  rw [h]
  exact fun h => SetState.noConfusion h

theorem test_meets_PublishSetValidates :
    (building.takes 5 = true ∧ roleOf 5 = .calibration ∧ building.cs[1].state = .building zeroSet) ∧
    (∀ ch, (zeroSet.curves.get ch).length = 257 ∧ (zeroSet.drives.get ch).length = 498) ∧
    publicationFailure zeroSet = none ∧
    publicationFailure (zeroSet.withTable (.drive .g) ((List.replicate 498 0).set 256 1)) =
      some ⟨.drive .g, 257, .join, 1, 0⟩ ∧
    publicationFailure (zeroSet.withTable (.curve .b) ((List.replicate 257 48700).set 128 48772)) =
      some ⟨.curve .b, 129, .order, 48772, 48700⟩ :=
  ⟨by decide +kernel, forall_channel (by decide +kernel) (by decide +kernel) (by decide +kernel), by decide +kernel,
    by decide +kernel, by decide +kernel⟩

theorem test_meets_WriteOpticsStores :
    (quiet.takes 5 = true ∧ quiet.isExposing = false ∧ (quiet.optics.part .facet).length = 16 ∧
      (quiet.optics.part .profile).length = 33 ∧ (quiet.optics.part .centre).length = 1 ∧
      17 + (List.replicate 16 (0 : Word16)).length ≤ 33 ∧ 2048 ≤ (6144 : Word16).toNat ∧ (6144 : Word16).toNat ≤ 6144) ∧
    (exposing (frame .flat) [flatEntry .exposing]).isExposing = true := by decide

/-! ### Gate and exposure -/

theorem test_meets_GateReadyRegistersFilm :
    (quiet.takes 4 = true ∧ quiet.gc.gate = .noFilm ∧ roleOf 4 = .transport) ∧
    (threaded.takes 4 = true ∧ threaded.gc.gate = .advancing ∧ threaded.gc.expected ≤ 39 ∧ 39 < threaded.capacity ∧
      threaded.headIsFrame = false ∧ threaded.headIsRunout = false ∧ threaded.tablesInRange ∧
      threaded.memoryCanonical ∧ threaded.rm.count + (39 - threaded.gc.expected) ≤ 32768 ∧
      threaded.capacity ≤ 40) ∧
    (let s := idleAfter (after (.gateReady 4 (.fits 3)) threaded)
     s.takes 4 = true ∧ s.gateReady = true ∧ 2 < s.gc.expected) ∧
    ({ threaded with gc := { threaded.gc with gate := .filmOut } } : State).takes 4 = true ∧
    (let s := hold (locked [flatEntry .staged])
     s.takes 4 = true ∧ s.gc.gate = .advancing ∧ s.headIsFrame = true ∧ s.isLocked = true ∧ s.lasersReady = true ∧
      s.fq.held.any = true) ∧
    (let s := queued [flatEntry .staged]; s.headIsFrame = true ∧ s.headIsRunout = false ∧ s.isLocked = false) ∧
    (let s := after (.portRead 0xFFF00000 ⟨64, 2⟩) (linked [])
     s.takes 4 = true ∧ s.port.waiting = some ⟨0xFFF00000, 64, 2⟩ ∧ 0 < 3 - s.gc.expected) := by
  unfold State.tablesInRange State.memoryCanonical
  decide

/-- The sets and rolls of the starts below. -/
theorem test_offers (st : Entry) (h : st = flatEntry .staged ∨ st = storedEntry .staged) :
    (locked [st]).offersFrame st (image 1) zeroSet roll ∧
    (hold (inGate 2 (locked [st]))).offersFrame st (image 1) zeroSet roll ∧
    (wrongRoll (locked [st])).offersFrame st (image 1) zeroSet { roll with stock := 1 } ∧
    (hold (inGate 2 (wrongRoll (locked [st])))).offersFrame st (image 1) zeroSet { roll with stock := 1 } := by
  unfold State.offersFrame
  rcases h with rfl | rfl <;> decide +kernel

/-- Behind a retired head whose write-back ends, the next entry is STAGED and the gate READY. -/
def succeeding (c : Completion) (e : Entry) : State :=
  let s := inGate 3 (locked [⟨0, ⟨3, 7⟩, .staged, .stored (image 1) { part with completion := some c }⟩, e, behind])
  { s with sr := ⟨none, none, [⟨3, 7⟩], 1, ⟨some (.mark 0x03), false, false, false⟩⟩ }

theorem test_meets_FrameStartLatchesContext :
    (let s := locked [storedEntry .staged]
     s.takes 4 = true ∧ roleOf 4 = .transport ∧ s.gc.gate = .advancing ∧ s.gc.expected ≤ 0 ∧ 0 < s.capacity ∧
      s.fq.held.any = false ∧ zeroSet.stock = roll.stock ∧ s.tablesInRange) ∧
    (let s := hold (inGate 2 (locked [storedEntry .staged]))
     s.takes 1 = true ∧ roleOf 1 = .job ∧ s.gc.gate = .ready 2 ∧ s.fq.held.any = true ∧ s.tablesInRange) ∧
    (let s := inGate 2 (locked [])
     s.takes 5 = true ∧ roleOf 5 = .calibration ∧ s.gc.gate = .ready 2 ∧ s.fq.entries = [] ∧ s.isLocked = true ∧
      s.lasersReady = true ∧ s.gc.halted = false ∧ (s.setAt 0).ready? = some zeroSet ∧ s.loadedTag? = some roll ∧
      (flatSubmission ⟨9, false, 0, 256, 128, ⟨0, 0, 0⟩, 250, ⟨1, 2, 3⟩⟩).valid = true) ∧
    (let s := succeeding .exposed (flatEntry .staged)
     s.pins.resetLow = false ∧ s.sr.channel.busy = some (.mark 0x03) ∧ (0x03 : Byte).getLsbD 1 = true ∧
      s.sr.wbList = [⟨3, 7⟩] ∧ (flatEntry .staged).key ≠ ⟨3, 7⟩ ∧ (flatEntry .staged).leaving = false ∧
      (flatEntry .staged).image? = some (image 1) ∧ s.gc.gate = .ready 3 ∧ s.fq.held.any = false ∧
      s.isLocked = true ∧ s.lasersReady = true ∧ (s.setAt 0).ready? = some zeroSet ∧ s.loadedTag? = some roll ∧
      s.tablesInRange) := by
  unfold State.tablesInRange
  decide +kernel

/-- The scanner one good period before lock, everything else ready for a start. -/
def nearLock (es : List Entry) : State :=
  let s := inGate 1 (locked es)
  { s with stu := { s.stu with scanner := .acquiring, acq := 63 } }

/-- One sample before the third channel is READY, everything else ready for a start. -/
def nearReady (es : List Entry) : State :=
  let s := inGate 1 (locked es)
  { s with lcu := { s.lcu with g := { onTarget with state := .warming, band := 511, samples := 600 } } }

theorem test_meets_starts_at_marks :
    (let s := nearLock [storedEntry .staged]; let t := after mark s
     s.noStartDue ∧ s.gc.gate = .ready 1 ∧ s.headIsFrame = true ∧ s.fq.held.any = false ∧ t.isLocked = true ∧
      t.lasersReady = true ∧ t.isExposing = true ∧ s.tablesInRange ∧ s.exposure? = none) ∧
    (let s := nearReady [flatEntry .staged]; let t := after mark s
     s.noStartDue ∧ s.headIsFrame = true ∧ t.isLocked = true ∧ t.lasersReady = true ∧ t.isExposing = true ∧
      s.tablesInRange ∧ s.exposure? = none) := by
  unfold State.tablesInRange State.noStartDue
  decide +kernel

theorem test_meets_gateAtExpected : (nearLock [storedEntry .staged]).gateAtExpected ∧
    (hold (inGate 39 (locked [runoutEntry 3]))).gateAtExpected ∧ (inGate 2 (locked [])).gateAtExpected :=
  ⟨gateAtExpected_of_ready (q := 1) rfl rfl, gateAtExpected_of_ready (q := 39) rfl rfl,
    gateAtExpected_of_ready (q := 2) rfl rfl⟩

theorem test_meets_StockMismatchRejectsHead :
    (let s := wrongRoll (locked [storedEntry .staged, { flatEntry .staged with key := ⟨2, 5⟩ }])
     s.takes 4 = true ∧ s.gc.gate = .advancing ∧ s.fq.held.any = false ∧ 0 < s.capacity ∧ zeroSet.stock ≠ 1 ∧
      s.headIsFrame = true ∧ s.head? = some (storedEntry .staged) ∧ s.isLocked = true ∧ s.lasersReady = true ∧
      s.gc.halted = false ∧ (s.setAt (image 1).set).ready? = some zeroSet ∧
      s.loadedTag? = some { roll with stock := 1 } ∧ s.tablesInRange ∧ (∀ e ∈ s.fq.entries, e.rejected? = none)) ∧
    (let s := wrongRoll (locked [flatEntry .staged, { storedEntry .staging with key := ⟨2, 5⟩ }])
     s.takes 4 = true ∧ s.gc.gate = .advancing ∧ s.fq.held.any = false ∧ 0 < s.capacity ∧ s.headIsFrame = true ∧
      s.head? = some (flatEntry .staged) ∧ (flatEntry .staged).isStored = false ∧ s.isLocked = true ∧
      s.lasersReady = true ∧ s.gc.halted = false ∧ (s.setAt (image 1).set).ready? = some zeroSet ∧
      s.loadedTag? = some { roll with stock := 1 } ∧ s.tablesInRange ∧ (∀ e ∈ s.fq.entries, e.rejected? = none)) ∧
    (let s := hold (inGate 2 (wrongRoll (locked [flatEntry .staged])))
     s.takes 1 = true ∧ s.gc.gate = .ready 2 ∧ s.fq.held.any = true ∧ s.tablesInRange ∧
      (∀ e ∈ s.fq.entries, e.rejected? = none)) ∧
    (let s := inGate 2 (wrongRoll (locked []))
     s.takes 1 = true ∧ s.gc.gate = .ready 2 ∧ s.fq.entries = [] ∧ s.fq.held.any = false ∧ s.gc.halted = false ∧
      s.isLocked = true ∧ s.lasersReady = true ∧ (s.setAt 0).ready? = some zeroSet ∧
      s.loadedTag? = some { roll with stock := 1 }) := by
  unfold State.tablesInRange
  decide +kernel

/-- The stock mismatch at the end of a write-back and at a mark: states that meet the hypotheses, and what becomes of the
head there. -/
theorem test_meets_StockMismatch_later :
    (let s := wrongRoll (succeeding .exposed (flatEntry .staged)); let t := after .writeBackMarking s
     s.loadedTag? = some { roll with stock := 1 } ∧ s.gc.gate = .ready 3 ∧ s.gc.halted = false ∧ s.isLocked = true ∧
      s.lasersReady = true ∧ (s.setAt 0).ready? = some zeroSet ∧ s.fq.held.any = false ∧ s.tablesInRange ∧
      t.fq.entries.map Entry.key = [behind.key] ∧ t.fq.held.rejected = true) ∧
    (let s := wrongRoll (succeeding .cancelled (storedEntry .staged)); let t := after .writeBackMarking s
     s.tablesInRange ∧ t.sr.wbList = [key1] ∧ t.fq.held.any = false) ∧
    (let s := wrongRoll (nearLock [storedEntry .staged]); let t := after mark s
     s.noStartDue ∧ s.gc.gate = .ready 1 ∧ s.headIsFrame = true ∧ s.fq.held.any = false ∧ t.isLocked = true ∧
      t.lasersReady = true ∧ t.isExposing = false ∧ s.tablesInRange ∧ t.sr.wbList = [key1]) ∧
    (let s := wrongRoll (nearReady [flatEntry .staged]); let t := after mark s
     s.noStartDue ∧ t.isLocked = true ∧ t.lasersReady = true ∧ t.fq.entries = [] ∧ t.gc = s.gc) := by
  unfold State.tablesInRange State.noStartDue
  decide +kernel

theorem test_meets_RunoutStartAppendsBlanks :
    (let s := locked [runoutEntry 41]
     s.takes 4 = true ∧ s.gc.gate = .advancing ∧ s.gc.expected ≤ 39 ∧ 39 < roll.capacity ∧ s.gc.halted = false ∧
      s.fq.held.any = false ∧ s.offersRunout (runoutEntry 41) 41 roll ∧ s.flatsNotRejected) ∧
    (let s := hold (inGate 39 (locked [runoutEntry 3]))
     s.takes 1 = true ∧ s.gc.gate = .ready 39 ∧ s.gc.halted = false ∧ s.fq.held.any = true ∧
      s.offersRunout (runoutEntry 3) 3 roll ∧ s.flatsNotRejected) ∧
    (let s := inGate 2 (locked [runoutEntry 3])
     let s := { s with gc := { s.gc with halted := true } }
     s.takes 1 = true ∧ s.gc.halted = true ∧ s.pins.estopLow = false ∧ s.fq.held.any = false ∧
      s.offersRunout (runoutEntry 3) 3 roll) ∧
    (let s := inGate 2 (locked [])
     s.takes 1 = true ∧ s.fq.entries = [] ∧ s.positionsAgree ∧ s.memoryCanonical ∧ s.loadedTag? = some roll ∧
      (runoutSubmission ⟨9, false, 4096⟩).valid = true) := by
  unfold State.offersRunout State.positionsAgree State.memoryCanonical State.queueBounded State.tablesInRange
    State.flatsNotRejected
  decide

/-- The hypotheses about the channels that a mark with readings on target meets. -/
theorem test_channels_on_target : ∀ c, ((locked []).lcu.get c).state = .ready ∧
    beyondFault ((locked []).lcu.get c).settings (trackAverage ((locked []).lcu.get c).average (readings.get c).toNat
      ((locked []).lcu.get c).settings.loopShift) = false :=
  forall_channel (by decide) (by decide) (by decide)

theorem test_meets_LinesFollowMarks :
    (let x : Exposure := { frame .flat with fifo := [⟨0, [⟨1, 2, 3⟩], ⟨0, 0, 0⟩⟩] }
     let s := exposing x [flatEntry .exposing]
     s.pins.resetLow = false ∧ s.stu.scanner = .locked ∧ s.stu.missing = .running 40000 ∧
      goodPeriod s.stu.settings 20000 = true ∧ s.exposure? = some x ∧ s.head? = some (flatEntry .exposing) ∧
      x.out = .waiting ∧ s.stu.facet = some 0 ∧ (flatEntry .exposing).image? = some (image 1)) ∧
    (let x : Exposure := { frame .flat with out := .onFilm 126 .blanked, nextOut := 127 }
     x.out = .onFilm 126 .blanked ∧ 126 + 1 ≠ (image 1).height ∧ x.fifo.head? = none ∧
      (image 1).height ≤ max x.nextLine (x.nextOut + 1)) ∧
    (let l : LineProduction := ⟨1, .fetching, ⟨0, 0, 0⟩⟩
     let x : Exposure := { frame .stored with out := .onFilm 0 .exposed, nextOut := 1, nextLine := 2, line := some l }
     l.y = x.nextOut ∧ l.phase = .fetching ∧ max x.nextLine (x.nextOut + 1) < (image 1).height ∧ x.fifo.length < 4 ∧
      { x with nextOut := 0 }.nextOut ≠ l.y) := by decide

theorem test_meets_LastLineEndsFrame :
    (let x : Exposure := { frame .stored with out := .onFilm 127 .exposed, nextOut := 128 }
     let s := exposing x [storedEntry .exposing]
     s.pins.resetLow = false ∧ s.stu.scanner = .locked ∧ goodPeriod s.stu.settings 20000 = true ∧
      s.exposure? = some x ∧ s.head? = some (storedEntry .exposing) ∧ (storedEntry .exposing).state = .exposing ∧
      (storedEntry .exposing).image? = some (image 1) ∧ x.out = .onFilm ((image 1).height - 1) .exposed ∧
      0 < (image 1).height ∧ s.tablesInRange ∧ s.queueBounded ∧ s.flatsNotRejected ∧ s.memoryCanonical ∧
      s.lastFrame = false ∧ ({ s with rm := { s.rm with count := 39 } } : State).lastFrame = true ∧
      (after mark { s with rm := { s.rm with count := 39 } }).fq.entries ≠ []) := by
  unfold State.tablesInRange State.queueBounded State.flatsNotRejected State.memoryCanonical
  decide

/-! ### Strip reader and pipeline -/

theorem test_meets_StagingReadsDescriptor :
    (let g := walkAt .descriptor
     let s := staging g [3, 0, 0, 0, 0, 3, 0, 0, 0, 0, 0x20, 0, 0, 0, 0, 0]
     s.pins.resetLow = false ∧ s.sr.staging = some g ∧ g.place = .descriptor ∧
      findEntry s.fq.entries g.key = some (storedEntry .staging) ∧ (storedEntry .staging).isStored = true ∧
      s.noStart = true ∧ s.tablesInRange ∧ s.queueBounded ∧
      beField [3, 0, 0, 0, 0, 3, 0, 0, 0, 0, 0x20, 0, 0, 0, 0, 0] 4 4 = g.expectedLength) := by
  unfold State.tablesInRange State.queueBounded
  decide

theorem test_meets_StagingReadsStripBytes :
    (let g := walkAt (.strip 0x2000 2 true)
     let s := staging g [3, 1]
     s.sr.channel.busy = some (.staging [3, 1]) ∧ s.sr.staging = some g ∧ 2 ≤ [3, 1].length ∧ g.expectedSum = none ∧
      findEntry s.fq.entries g.key = some (storedEntry .staging) ∧ s.noStart = true ∧ s.tablesInRange ∧
      s.queueBounded) ∧
    (let g := { walkAt (.strip 0x2000 3 false) with tableOffset := 0xFFEFFFF0 }
     [3, 1].length < 3 ∧ 0xFFF00000 ≤ g.tableOffset + 16 * (g.k + 1) ∧
      (sumBytes g.sum g.odd [3, 1]).1 ≠ (5 : Word16).toNat ∧
      (∀ p, some (⟨0, key1, ⟨0x1000, 16⟩, []⟩ : PinRecord) = some p → p.key = g.key)) := by
  unfold State.tablesInRange State.queueBounded
  decide

/-- The part fetching line 0 of its head. -/
def fetching (bytes : List Byte) : State :=
  let s := exposing { frame .stored with line := some ⟨0, .fetching, ⟨0, 0, 0⟩⟩, nextLine := 1 } [storedEntry .exposing]
  { s with sr := ⟨none, some ⟨0, 0, 0, 0, 0, 0, [], List.replicate 255 ⟨1, 2, 3⟩⟩, [], 0,
    ⟨some (.fetch bytes), false, false, false⟩⟩ }

theorem test_meets_LineFetchHandsOver :
    (let s := fetching [0, 1, 0, 2, 0, 3]
     s.sr.channel.busy = some (.fetch [0, 1, 0, 2, 0, 3]) ∧ s.sr.fetch.isSome = true ∧
      s.exposure?.bind Exposure.line = some ⟨0, .fetching, ⟨0, 0, 0⟩⟩ ∧ s.head? = some (storedEntry .exposing) ∧
      (storedEntry .exposing).body = .stored (image 1) part ∧
      (gatherPixels part.format part.sequence [] (List.replicate 255 ⟨1, 2, 3⟩) [0, 1, 0, 2, 0, 3]).2.length = 256 ∧
      (gatherPixels part.format part.sequence [] (List.replicate 255 ⟨1, 2, 3⟩) [0, 1, 0, 2, 0]).2.length < 256 ∧
      (part.stripMap.getD [])[0]? = some ⟨0x2000, 196608, 0⟩ ∧ 0 + 6 < 196608 ∧ 196608 ≤ 196605 + 5) := by
  decide +kernel

theorem test_meets_ComputedLineEntersFifo :
    (let l : LineProduction := ⟨0, .computing (.flat ⟨1, 2, 3⟩), ⟨0, 0, 0⟩⟩
     let x : Exposure := { frame .flat with line := some l, nextLine := 1 }
     let s := exposing x [flatEntry .exposing]
     s.exposure? = some x ∧ x.line = some l ∧ l.phase = .computing (.flat ⟨1, 2, 3⟩) ∧
      s.head? = some (flatEntry .exposing) ∧ (flatEntry .exposing).image? = some (image 1) ∧
      (s.setAt x.ctx.set).ready? = some zeroSet ∧ s.pins.resetLow = false) := by decide +kernel

/-- Two write-backs, the first at its last descriptor, and an entry behind the staging window. -/
def twoLeaving : State :=
  let s := queued [⟨0, ⟨3, 7⟩, .staged, .stored (image 1) { part with completion := some .exposed }⟩,
    ⟨1, ⟨3, 8⟩, .staged, .stored (image 1) { part with tableOffset := 0x2000, completion := some .cancelled }⟩, behind]
  { s with sr := ⟨none, none, [⟨3, 7⟩, ⟨3, 8⟩], 1, ⟨some (.mark 0x03), false, false, false⟩⟩ }

/-- The next write-back's descriptor 0 is marked at once, with its completion word. -/
theorem test_next_write_back : (after .writeBackMarking twoLeaving).sr.wbPos = 1 ∧
    (after .writeBackMarking twoLeaving).sr.wbList = [⟨3, 8⟩] ∧
    (after .writeBackMarking twoLeaving).fmc.mem.map Prod.fst = [0x2000, 0x200C, 0x200D, 0x200E, 0x200F] ∧
    (after .writeBackMarking twoLeaving).readByte 0x200C = 3 := by decide

theorem test_meets_WriteBackMarksTable :
    (let s := marking 0x01 .exposed
     s.sr.channel.busy = some (.mark 0x01) ∧ s.sr.wbList = [key1] ∧ s.noStart = true ∧ s.tablesInRange ∧
      s.queueBounded ∧ s.memoryCanonical ∧ s.sr.channel.waitFetch = false ∧ s.sr.channel.waitStage = false ∧
      1 ≤ s.sr.wbPos ∧ part.tableOffset % 16 = 0 ∧ s.sr.wbPos < 16 ∧ (0x01 : Byte).getLsbD 1 = false ∧
      (0x01 : Byte).getLsbD 0 = true) ∧
    (let s := marking 0x03 .cancelled
     s.sr.channel.busy = some (.mark 0x03) ∧ (0x03 : Byte).getLsbD 1 = true ∧
      (∀ e ∈ s.fq.entries, e.key ≠ key1 → e.rejected? = none)) ∧
    (let s := marking 0x03 .rejected
     s.sr.wbList = [key1]) ∧
    (let s := twoLeaving
     s.sr.wbList = [⟨3, 7⟩, ⟨3, 8⟩] ∧ s.noStart = true ∧ s.tablesInRange ∧ s.queueBounded ∧ s.memoryCanonical ∧
      (∀ e ∈ s.fq.entries, e.rejected? = none) ∧ (findEntry s.fq.entries ⟨3, 8⟩).isSome = true ∧
      s.sr.channel = ⟨some (.mark 0x03), false, false, false⟩ ∧ s.isExposing = false ∧
      s.fq.entries[2]? = some behind ∧ s.sr.staging = none) ∧
    (marking 0x01 .exposed).lineBegun ∧ twoLeaving.lineBegun ∧ twoLeaving.pinsInWindow := by
  refine ⟨?_, by decide, by decide, ?_, lineBegun_of_idle rfl, lineBegun_of_idle rfl, pinsInWindow_of_none rfl rfl⟩ <;>
    (unfold State.tablesInRange State.queueBounded State.memoryCanonical; decide)

/-! ### Arithmetic, frames, invariants -/

theorem test_meets_arithmetic : (255 ≤ 255 ∧ 65535 ≤ 65535) ∧
    ((List.replicate 257 65535).length = 257 ∧ (∀ n ∈ List.replicate 257 65535, n ≤ 65535)) ∧
    ((List.replicate 498 4095).length = 498 ∧ (∀ d ∈ List.replicate 498 4095, d ≤ 4095)) := by decide +kernel

theorem test_meets_FrameChecksAcceptCrc : 1 ≤ (11 : Addr).toNat ∧ (11 : Addr).toNat ≤ 11 ∧
    (List.replicate 48 (0 : Byte)).length ≤ 48 ∧ (0x0000 : Word16) ≠ crc16 [0x1C, 0x03, 0x00] ∧
    ((after (.hold 1 (.fits ())) quiet).dbi.reply.map Reply.data) = some .none ∧
    ((after (.queryStatus 1 []) quiet).dbi.reply.bind fun r => r.data.bytes?.map List.length) = some 23 := by
  decide +kernel

/-- The exposure with its line 0 in production. -/
def begun : Exposure :=
  { frame .flat with line := some ⟨0, .computing (.flat ⟨1, 2, 3⟩), ⟨0, 0, 0⟩⟩, nextLine := 1 }

/-- A step of the queue, on which the invariants hold before and after. -/
def stepping : State := { exposing begun [flatEntry .exposing] with pending := [mark] }

theorem test_meets_StepKeeps : (∃ t, step stepping = .next t) ∧ stepping.memoryCanonical ∧ stepping.queueBounded ∧
    stepping.useCountsAgree ∧ stepping.tablesInRange ∧ stepping.positionsAgree ∧ stepping.filmLoaded ∧
    stepping.facetInRange ∧ stepping.channelsFollowScanner ∧ stepping.exposureNeedsLock ∧ stepping.outputCounts := by
  refine ⟨⟨_, rfl⟩, ?_⟩
  refine ⟨by unfold State.memoryCanonical; decide, by unfold State.queueBounded; decide,
    by unfold State.useCountsAgree; decide +kernel, by unfold State.tablesInRange; decide,
    by unfold State.positionsAgree; decide, by unfold State.filmLoaded; decide, ⟨by decide, ?_⟩, ?_, ?_, ?_⟩
  · intro f h
    have hf : stepping.stu.facet = some 0 := by decide
    obtain rfl : f = 0 := Option.some.inj (h.symm.trans hf)
    decide
  · intro h; exact absurd h (by decide)
  · intro _; decide
  · intro x h
    have hx : stepping.exposure? = some begun := by decide
    obtain rfl : x = begun := Option.some.inj (h.symm.trans hx)
    decide

theorem test_meets_StepKeeps_more : stepping.pinsInWindow ∧ stepping.noStartDue ∧ stepping.gateAtExpected ∧
    stepping.lineBegun := by
  refine ⟨pinsInWindow_of_none rfl rfl, by unfold State.noStartDue; decide, gateAtExpected_of_ready (q := 0) rfl rfl, ?_⟩
  intro _ x hx
  have h : stepping.exposure? = some begun := by decide
  obtain rfl : x = begun := Option.some.inj (hx.symm.trans h)
  decide

theorem test_meets_drivesLimited : stepping.drivesLimited := fun c => by
  cases c <;> exact ⟨by unfold codesWithin; decide, fun r h => absurd h List.not_mem_nil⟩

theorem test_meets_frames_of_map_and_events :
    emptiesMap mark = false ∧ clearsEvents mark = false ∧ (∀ s1 s0, mark ≠ .hardResetEnd s1 s0) ∧
    (let s := after (.forceEvent 1 [3, 0x00, 0x01]) (idleAfter (after (.bindAttn 1 [3]) quiet))
     (s.au[(3 : Fin 4)]).latched.getLsbD 0 = true) := by decide

end Sys2Proof.Tests
end

section
/-! ## What the queue's invariants read of the state

The invariants of the frame queue (R1, R5, R39, R100) read a few fields of the entries, the sets and the keys of the
two pin records. State.queueCore gathers these; an operation that leaves it alone keeps the invariants. -/

namespace Sys2Proof.Machine

/-- What the queue's invariants read of an entry: its key, the set it names, and the strip table of a STORED one. -/
structure EntryCore where
  key : Key
  set : Option Nat
  table : Option Nat

/-- The part of an entry that the queue's invariants read. -/
def Entry.core (e : Entry) : EntryCore := ⟨e.key, e.image?.map ImagePart.set, e.stored?.map StoredPart.tableOffset⟩

@[simp] theorem Entry.core_key (e : Entry) : e.core.key = e.key := rfl

@[simp] theorem Entry.core_withState (e : Entry) (st : EntryState) : (e.withState st).core = e.core := rfl

theorem Entry.isStored_iff_table (e : Entry) : e.isStored = e.core.table.isSome := by
  simp [Entry.isStored, Entry.core]

theorem Entry.names_iff_set (e : Entry) (id : Nat) : e.names id = decide (e.core.set = some id) := by
  unfold Entry.names Entry.core
  cases e.image? <;> simp

theorem Entry.core_mapStored (e : Entry) (f : StoredPart → StoredPart) (hf : ∀ p, (f p).tableOffset = p.tableOffset) :
    (e.mapStored f).core = e.core := by
  rcases e with ⟨n, k, st, ⟨i, p⟩ | ⟨i, v⟩ | c⟩ <;>
    simp [Entry.mapStored, Entry.core, Entry.image?, Entry.stored?, hf]

theorem Entry.core_mapImage (e : Entry) (f : ImagePart → ImagePart) (hf : ∀ i, (f i).set = i.set) :
    (e.mapImage f).core = e.core := by
  rcases e with ⟨n, k, st, ⟨i, p⟩ | ⟨i, v⟩ | c⟩ <;>
    simp [Entry.mapImage, Entry.core, Entry.image?, Entry.stored?, hf]

@[simp] theorem Entry.core_lowerCount (e : Entry) (n : Nat) : (e.lowerCount n).core = e.core := by
  rcases e with ⟨n, k, st, ⟨i, p⟩ | ⟨i, v⟩ | c⟩ <;> rfl

@[simp] theorem Entry.core_pushedOut (e : Entry) : e.pushedOut.core = e.core := by
  unfold Entry.pushedOut
  cases e.state with
  | staged => exact Entry.core_mapStored _ _ fun _ => rfl
  | queued | staging | exposing | rejected => rfl

/-- Changing the entry of a key leaves every list of a part that the change keeps. -/
theorem changeEntry_map {β : Type} (es : List Entry) (k : Key) (f : Entry → Entry) (g : Entry → β)
    (hf : ∀ e, g (f e) = g e) : (changeEntry es k f).map g = es.map g := by
  induction es with
  | nil => rfl
  | cons e es ih =>
    unfold changeEntry
    split <;> simp [hf, ih]

/-- Changing the entry at a position leaves every list of a part that the change keeps. -/
theorem changeAt_map {β : Type} (es : List Entry) (n : Nat) (f : Entry → Entry) (g : Entry → β)
    (hf : ∀ e, g (f e) = g e) : (changeAt es n f).map g = es.map g := by
  induction es generalizing n with
  | nil => rfl
  | cons e es ih => cases n <;> simp [changeAt, hf, ih]

/-- What the queue's invariants read of the state. -/
structure QueueCore where
  entries : List EntryCore
  cs : Vector SetRecord 8
  pinA : Option Key
  pinB : Option Key

/-- The part of the state that the queue's invariants read. -/
def State.queueCore (s : State) : QueueCore :=
  ⟨s.fq.entries.map Entry.core, s.cs, s.fmc.pinA.map PinRecord.key, s.fmc.pinB.map PinRecord.key⟩

/-- The record of a set, as State.setAt reads it. -/
def QueueCore.setAt (q : QueueCore) (id : Nat) : SetRecord := (q.cs[id]?).getD .afterReset

/-- A pin record is held for a key. -/
def QueueCore.pinned (q : QueueCore) (k : Key) : Prop := q.pinA = some k ∨ q.pinB = some k

/-- The queue's invariants (R1, R5, R39 to R41, R100). -/
structure QueueCore.Sound (q : QueueCore) : Prop where
  bounded : q.entries.length ≤ Config.queueCapacity
  distinct : (q.entries.map EntryCore.key).Nodup
  counts : ∀ id < 8, (q.setAt id).useCount = q.entries.countP fun e => decide (e.set = some id)
  ready : ∀ id < 8, 0 < (q.setAt id).useCount → (q.setAt id).ready?.isSome = true
  tables : ∀ e ∈ q.entries, ∀ t, e.table = some t → t < Config.mapBase
  window : ∀ k, q.pinned k → ∃ n e, n < 2 ∧ q.entries[n]? = some e ∧ e.key = k ∧ e.table.isSome = true
  apart : ∀ k, q.pinA = some k → q.pinB ≠ some k

/-- The queue's invariants of a state. -/
def State.queueSound (s : State) : Prop := s.queueCore.Sound

theorem State.queueBounded_iff (s : State) : s.queueBounded ↔
    s.queueCore.entries.length ≤ Config.queueCapacity ∧ (s.queueCore.entries.map EntryCore.key).Nodup := by
  simp only [State.queueBounded, State.queueCore, List.length_map, List.map_map]
  rfl

theorem State.useCountsAgree_iff (s : State) : s.useCountsAgree ↔ ∀ id < 8,
    (s.queueCore.setAt id).useCount = (s.queueCore.entries.countP fun e => decide (e.set = some id)) ∧
    (0 < (s.queueCore.setAt id).useCount → (s.queueCore.setAt id).ready?.isSome = true) := by
  have hcount : ∀ id, s.fq.entries.countP (Entry.names · id) =
      s.queueCore.entries.countP fun e => decide (e.set = some id) := fun id => by
    simp [State.queueCore, List.countP_map, Function.comp_def, Entry.names_iff_set]
  simp only [State.useCountsAgree, hcount]
  rfl

theorem State.tablesInRange_iff (s : State) : s.tablesInRange ↔
    ∀ e ∈ s.queueCore.entries, ∀ t, e.table = some t → t < Config.mapBase := by
  simp [State.tablesInRange, State.queueCore, Entry.core]

theorem State.holdsPin_pinned {s : State} {p : PinRecord} (h : s.holdsPin p) : s.queueCore.pinned p.key := by
  rcases h with h | h
  · exact .inl (by simp [State.queueCore, h])
  · exact .inr (by simp [State.queueCore, h])

theorem State.pinned_holdsPin {s : State} {k : Key} (h : s.queueCore.pinned k) : ∃ p, s.holdsPin p ∧ p.key = k := by
  rcases h with h | h
  · obtain ⟨p, hp, rfl⟩ := Option.map_eq_some_iff.mp h
    exact ⟨p, .inl hp, rfl⟩
  · obtain ⟨p, hp, rfl⟩ := Option.map_eq_some_iff.mp h
    exact ⟨p, .inr hp, rfl⟩

theorem State.pinsInWindow_iff (s : State) : s.pinsInWindow ↔
    (∀ k, s.queueCore.pinned k → ∃ n e, n < 2 ∧ s.queueCore.entries[n]? = some e ∧ e.key = k ∧ e.table.isSome = true) ∧
    ∀ k, s.queueCore.pinA = some k → s.queueCore.pinB ≠ some k := by
  refine and_congr ⟨fun h k hk => ?_, fun h p hp => ?_⟩ ⟨fun h k ha hb => ?_, fun h p q ha hb hk => ?_⟩
  · obtain ⟨p, hp, rfl⟩ := State.pinned_holdsPin hk
    obtain ⟨n, e, hn, he, hkey, hst⟩ := h p hp
    exact ⟨n, e.core, hn, by simp [State.queueCore, he], hkey, e.isStored_iff_table ▸ hst⟩
  · obtain ⟨n, c, hn, hc, hkey, hst⟩ := h p.key (State.holdsPin_pinned hp)
    obtain ⟨e, he, rfl⟩ : ∃ e, s.fq.entries[n]? = some e ∧ e.core = c := by
      simpa [State.queueCore] using hc
    exact ⟨n, e, hn, he, hkey, e.isStored_iff_table.trans hst⟩
  · obtain ⟨p, hp, rfl⟩ := Option.map_eq_some_iff.mp ha
    obtain ⟨r, hr, hkey⟩ := Option.map_eq_some_iff.mp hb
    exact h p r hp hr hkey.symm
  · exact h p.key (by simp [State.queueCore, ha]) (by simp [State.queueCore, hb, hk])

/-- The queue's invariants, gathered. -/
theorem State.queueSound_iff (s : State) :
    s.queueSound ↔ s.queueBounded ∧ s.useCountsAgree ∧ s.tablesInRange ∧ s.pinsInWindow := by
  rw [State.queueBounded_iff, State.useCountsAgree_iff, State.tablesInRange_iff, State.pinsInWindow_iff]
  constructor
  · rintro ⟨hb, hd, hc, hr, ht, hw, ha⟩
    exact ⟨⟨hb, hd⟩, fun id hid => ⟨hc id hid, hr id hid⟩, ht, hw, ha⟩
  · rintro ⟨⟨hb, hd⟩, hcr, ht, hw, ha⟩
    exact ⟨hb, hd, fun id hid => (hcr id hid).1, fun id hid => (hcr id hid).2, ht, hw, ha⟩

/-- An operation that leaves what the invariants read keeps them. -/
theorem State.queueSound_of_core {s t : State} (h : s.queueSound) (hc : t.queueCore = s.queueCore) : t.queueSound := by
  unfold State.queueSound; rwa [hc]
/-! ### The core under an entry leaving, an entry joining and a pin taken -/

namespace QueueCore

/-- Two stores differ in the use count of at most one set, by a change f of it, and in no set's state. -/
def countChanged (cs cs' : Vector SetRecord 8) (set : Option Nat) (f : Nat → Nat) : Prop :=
  ∀ id < 8, ((cs'[id]?).getD .afterReset).state = ((cs[id]?).getD .afterReset).state ∧
    ((cs'[id]?).getD .afterReset).useCount =
      if set = some id then f ((cs[id]?).getD .afterReset).useCount else ((cs[id]?).getD .afterReset).useCount

theorem ready?_congr {r r' : SetRecord} (h : r'.state = r.state) : r'.ready? = r.ready? := by
  simp [SetRecord.ready?, h]

/-- The core after the entry at a position has left, its reference dropped and its pins released. -/
def erase (q : QueueCore) (pos : Nat) (k : Key) (cs : Vector SetRecord 8) : QueueCore :=
  ⟨q.entries.eraseIdx pos, cs, q.pinA.filter (fun p => p != k), q.pinB.filter (fun p => p != k)⟩

theorem erase_pinned {q : QueueCore} {pos : Nat} {k j : Key} {cs : Vector SetRecord 8} :
    (q.erase pos k cs).pinned j ↔ q.pinned j ∧ j ≠ k := by
  unfold QueueCore.pinned QueueCore.erase
  simp only [Option.filter_eq_some_iff, bne_iff_ne]
  tauto

/-- Two entries of one key stand at one position. -/
theorem Sound.position_unique {q : QueueCore} (h : q.Sound) {m n : Nat} {c d : EntryCore}
    (hm : q.entries[m]? = some c) (hn : q.entries[n]? = some d) (hk : c.key = d.key) : m = n := by
  have hm' : (q.entries.map EntryCore.key)[m]? = some c.key := by simp [hm]
  have hn' : (q.entries.map EntryCore.key)[n]? = some c.key := by simp [hn, hk]
  have hlt : m < (q.entries.map EntryCore.key).length := by
    simpa using (List.getElem?_eq_some_iff.mp hm).1
  exact (List.getElem?_inj hlt h.distinct).mp (hm'.trans hn'.symm)

theorem Sound.erase {q : QueueCore} (h : q.Sound) {pos : Nat} {e : EntryCore} (he : q.entries[pos]? = some e)
    {cs : Vector SetRecord 8} (hcs : countChanged q.cs cs e.set (· - 1)) : (q.erase pos e.key cs).Sound := by
  obtain ⟨hpos, hget⟩ := List.getElem?_eq_some_iff.mp he
  have hperm : (e :: q.entries.eraseIdx pos).Perm q.entries := hget ▸ List.getElem_cons_eraseIdx_perm hpos
  refine ⟨?_, ?_, fun id hid => ?_, fun id hid hlt => ?_, fun c hc => ?_, fun k hk => ?_, fun k ha hb => ?_⟩
  · have := hperm.length_eq
    have := h.bounded
    simp only [List.length_cons, QueueCore.erase] at *
    omega
  · have := (hperm.map EntryCore.key).nodup_iff.mpr h.distinct
    exact (List.nodup_cons.mp this).2
  · have hcount := hperm.countP_eq fun c => decide (c.set = some id)
    have hold : ((q.cs[id]?).getD .afterReset).useCount = _ := h.counts id hid
    rw [List.countP_cons] at hcount
    change ((cs[id]?).getD .afterReset).useCount = (q.entries.eraseIdx pos).countP _
    rw [(hcs id hid).2, hold]
    split <;> simp_all
    omega
  · have hle : 0 < ((q.cs[id]?).getD .afterReset).useCount := by
      have : 0 < ((cs[id]?).getD .afterReset).useCount := hlt
      rw [(hcs id hid).2] at this
      split at this
      · exact Nat.lt_of_lt_of_le this (Nat.sub_le _ _)
      · exact this
    exact (congrArg Option.isSome (ready?_congr (hcs id hid).1)).trans (h.ready id hid hle)
  · exact h.tables c (List.mem_of_mem_eraseIdx hc)
  · obtain ⟨hpin, hne⟩ := erase_pinned.mp hk
    obtain ⟨n, c, hn, hc, rfl, hst⟩ := h.window k hpin
    have hnp : n ≠ pos := fun heq => hne (by rw [heq, he] at hc; rw [← Option.some.inj hc])
    refine ⟨if n < pos then n else n - 1, c, by split <;> omega, ?_, rfl, hst⟩
    change (q.entries.eraseIdx pos)[_]? = _
    rw [List.getElem?_eraseIdx]
    split
    · simp [*]
    · rw [if_neg (by omega), show n - 1 + 1 = n by omega]; exact hc
  · exact h.apart k (Option.filter_eq_some_iff.mp ha).1 (Option.filter_eq_some_iff.mp hb).1

theorem Sound.insert {q : QueueCore} (h : q.Sound) {pos : Nat} {e : EntryCore} (hpos : pos ≤ q.entries.length)
    (hroom : q.entries.length < Config.queueCapacity) (hnew : ∀ c ∈ q.entries, c.key ≠ e.key)
    (htable : ∀ t, e.table = some t → t < Config.mapBase)
    (hready : ∀ id, e.set = some id → (q.setAt id).ready?.isSome = true)
    (hpush : ∀ c, pos ≤ 1 → q.entries[1]? = some c → ¬ q.pinned c.key)
    {cs : Vector SetRecord 8} (hcs : countChanged q.cs cs e.set (· + 1)) :
    (⟨q.entries.insertIdx pos e, cs, q.pinA, q.pinB⟩ : QueueCore).Sound := by
  have hperm : (q.entries.insertIdx pos e).Perm (e :: q.entries) := List.perm_insertIdx e q.entries hpos
  refine ⟨?_, ?_, fun id hid => ?_, fun id hid hlt => ?_, fun c hc => ?_, fun k hk => ?_, h.apart⟩
  · have := hperm.length_eq
    simp only [List.length_cons] at *
    omega
  · refine (hperm.map EntryCore.key).nodup_iff.mpr (List.nodup_cons.mpr ⟨fun hmem => ?_, h.distinct⟩)
    obtain ⟨c, hc, hkey⟩ := List.mem_map.mp hmem
    exact hnew c hc hkey
  · have hold : ((q.cs[id]?).getD .afterReset).useCount = _ := h.counts id hid
    change ((cs[id]?).getD .afterReset).useCount = (q.entries.insertIdx pos e).countP _
    rw [(hcs id hid).2, hold, hperm.countP_eq, List.countP_cons]
    split <;> simp_all
  · refine (congrArg Option.isSome (ready?_congr (hcs id hid).1)).trans ?_
    by_cases hset : e.set = some id
    · exact hready id hset
    · have hlt' : 0 < ((cs[id]?).getD .afterReset).useCount := hlt
      rw [(hcs id hid).2, if_neg hset] at hlt'
      exact h.ready id hid hlt'
  · rcases List.mem_cons.mp (hperm.mem_iff.mp hc) with rfl | hmem
    · exact htable
    · exact h.tables c hmem
  · obtain ⟨n, c, hn, hc, rfl, hst⟩ := h.window k hk
    have hstay : pos ≤ n → n = 0 := fun hle => by
      by_contra hne
      obtain rfl : n = 1 := by omega
      exact hpush c hle hc hk
    refine ⟨if n < pos then n else n + 1, c, by split <;> omega, ?_, rfl, hst⟩
    change (q.entries.insertIdx pos e)[_]? = _
    split
    · rwa [List.getElem?_insertIdx_of_lt ‹_›]
    · rwa [List.getElem?_insertIdx_of_gt (by omega), Nat.add_sub_cancel]

/-- A STORED entry of the staging window that holds no pin is given a record, in either place. -/
theorem Sound.takePin {q : QueueCore} (h : q.Sound) {n : Nat} {e : EntryCore} (hn : n < 2)
    (he : q.entries[n]? = some e) (hst : e.table.isSome = true) (hfree : ¬ q.pinned e.key) :
    ({ q with pinA := some e.key } : QueueCore).Sound ∧ ({ q with pinB := some e.key } : QueueCore).Sound := by
  refine ⟨⟨h.bounded, h.distinct, h.counts, h.ready, h.tables, fun k hk => ?_, fun k ha hb => ?_⟩,
    ⟨h.bounded, h.distinct, h.counts, h.ready, h.tables, fun k hk => ?_, fun k ha hb => ?_⟩⟩
  · rcases hk with hk | hk
    · exact ⟨n, e, hn, he, Option.some.inj hk, hst⟩
    · exact h.window k (.inr hk)
  · obtain rfl := Option.some.inj ha
    exact hfree (.inr hb)
  · rcases hk with hk | hk
    · exact h.window k (.inl hk)
    · exact ⟨n, e, hn, he, Option.some.inj hk, hst⟩
  · obtain rfl := Option.some.inj hb
    exact hfree (.inl ha)

end QueueCore

end Sys2Proof.Machine
end

section
/-! ## Operations that leave the queue's core -/

namespace Sys2Proof.Machine

@[simp] theorem State.withDbi_queueCore (s : State) (v : DeckBus) : (s.withDbi v).queueCore = s.queueCore := rfl
@[simp] theorem State.withPort_queueCore (s : State) (v : FramePort) : (s.withPort v).queueCore = s.queueCore := rfl
@[simp] theorem State.withSr_queueCore (s : State) (v : StripReader) : (s.withSr v).queueCore = s.queueCore := rfl
@[simp] theorem State.withOptics_queueCore (s : State) (v : Optics) : (s.withOptics v).queueCore = s.queueCore := rfl
@[simp] theorem State.withStu_queueCore (s : State) (v : ScanTiming) : (s.withStu v).queueCore = s.queueCore := rfl
@[simp] theorem State.withLcu_queueCore (s : State) (v : Rgb LaserUnit) : (s.withLcu v).queueCore = s.queueCore := rfl
@[simp] theorem State.withGc_queueCore (s : State) (v : GateController) : (s.withGc v).queueCore = s.queueCore := rfl
@[simp] theorem State.withRm_queueCore (s : State) (v : ReelMap) : (s.withRm v).queueCore = s.queueCore := rfl
@[simp] theorem State.withAu_queueCore (s : State) (v : Vector AttentionLine 4) :
    (s.withAu v).queueCore = s.queueCore := rfl
@[simp] theorem State.withPins_queueCore (s : State) (v : Pins) : (s.withPins v).queueCore = s.queueCore := rfl
@[simp] theorem State.withFree_queueCore (s : State) (v : Nat) : (s.withFree v).queueCore = s.queueCore := rfl
@[simp] theorem State.withPending_queueCore (s : State) (v : List Instr) :
    (s.withPending v).queueCore = s.queueCore := rfl

@[simp] theorem State.raise_queueCore (s : State) (e : Event) : (s.raise e).queueCore = s.queueCore := rfl

@[simp] theorem State.raiseAll_queueCore (s : State) (es : List Event) : (s.raiseAll es).queueCore = s.queueCore := by
  obtain ⟨au, h⟩ := s.raiseAll_shape es
  rw [h]; rfl

@[simp] theorem State.writeBytes_queueCore (s : State) (a : Nat) (bs : List Byte) :
    (s.writeBytes a bs).queueCore = s.queueCore := rfl

@[simp] theorem State.withChannel_queueCore (s : State) (c : ReadChannel) :
    (s.withChannel c).queueCore = s.queueCore := rfl

@[simp] theorem State.withGate_queueCore (s : State) (g : GateCycle) : (s.withGate g).queueCore = s.queueCore := rfl

@[simp] theorem State.mapLasers_queueCore (s : State) (f : LaserUnit → LaserUnit) :
    (s.mapLasers f).queueCore = s.queueCore := rfl

@[simp] theorem State.mapLaser_queueCore (s : State) (c : Channel) (f : LaserUnit → LaserUnit) :
    (s.mapLaser c f).queueCore = s.queueCore := rfl

@[simp] theorem State.dropDrives_queueCore (s : State) : s.dropDrives.queueCore = s.queueCore := rfl

@[simp] theorem State.requestWriteBack_queueCore (s : State) (k : Key) :
    (s.requestWriteBack k).queueCore = s.queueCore := rfl

@[simp] theorem State.requestLine_queueCore (s : State) (f : LineFetch) :
    (s.requestLine f).queueCore = s.queueCore := rfl

@[simp] theorem State.stagingContinue_queueCore (s : State) (g : Staging) :
    (s.stagingContinue g).queueCore = s.queueCore := rfl

theorem State.withFq_queueCore (s : State) (v : FrameQueue) (h : v.entries.map Entry.core = s.fq.entries.map Entry.core) :
    (s.withFq v).queueCore = s.queueCore := by
  simp [State.queueCore, h]

theorem State.changeEntry_queueCore (s : State) (k : Key) (f : Entry → Entry) (hf : ∀ e, (f e).core = e.core) :
    (s.withEntries (changeEntry s.fq.entries k f)).queueCore = s.queueCore :=
  s.withFq_queueCore _ (changeEntry_map _ _ _ _ hf)

theorem State.changeAt_queueCore (s : State) (n : Nat) (f : Entry → Entry) (hf : ∀ e, (f e).core = e.core) :
    (s.withEntries (changeAt s.fq.entries n f)).queueCore = s.queueCore :=
  s.withFq_queueCore _ (changeAt_map _ _ _ _ hf)

theorem changePin_key (k : Key) (f : PinRecord → PinRecord) (hf : ∀ p, (f p).key = p.key) (r : Option PinRecord) :
    (changePin k f r).map PinRecord.key = r.map PinRecord.key := by
  cases r with
  | none => rfl
  | some p => simp only [changePin, Option.map_some]; split <;> simp [hf]

theorem State.mapPin_queueCore (s : State) (k : Key) (f : PinRecord → PinRecord) (hf : ∀ p, (f p).key = p.key) :
    (s.mapPin k f).queueCore = s.queueCore := by
  simp [State.queueCore, State.mapPin, changePin_key _ _ hf]

theorem State.channelOnly_queueCore {s t : State} (h : s.channelOnly t) : t.queueCore = s.queueCore := by
  obtain ⟨c, p, m, rfl⟩ := h; rfl

@[simp] theorem State.grant_queueCore (s : State) : s.grant.queueCore = s.queueCore :=
  State.channelOnly_queueCore s.grant_channelOnly

@[simp] theorem State.freeChannel_queueCore (s : State) : s.freeChannel.queueCore = s.queueCore :=
  State.channelOnly_queueCore s.freeChannel_channelOnly

@[simp] theorem State.withdrawFetch_queueCore (s : State) : s.withdrawFetch.queueCore = s.queueCore := by
  obtain ⟨c, p, m, h⟩ := s.withdrawFetch_shape
  rw [h]; rfl

/-- R53: the staging context is gone, and the channel may have granted something else. -/
theorem State.discardStaging_shape (s : State) : ∃ c p m,
    s.discardStaging =
      { s with sr := { s.sr with staging := none, channel := c, wbPos := p }, fmc := { s.fmc with mem := m } } := by
  unfold State.discardStaging; dsimp only
  split
  · exact State.freeChannel_channelOnly
      (s.withSr { s.sr with staging := none, channel := { s.sr.channel with waitStage := false } })
  · exact ⟨_, _, _, rfl⟩

/-- R53: the walk of a key has stopped, and of any other goes on. -/
theorem State.stopWalk_shape (s : State) (k : Key) : ∃ c p m,
    s.stopWalk k = { s with
      sr := { s.sr with
        staging := s.sr.staging.filter (fun g => g.key != k), channel := c, wbPos := p }
      fmc := { s.fmc with mem := m } } := by
  have goesOn (h : s.sr.staging.filter (fun g => g.key != k) = s.sr.staging) : ∃ c p m, s = { s with
      sr := { s.sr with
        staging := s.sr.staging.filter (fun g => g.key != k), channel := c, wbPos := p }
      fmc := { s.fmc with mem := m } } := ⟨s.sr.channel, s.sr.wbPos, s.fmc.mem, by rw [h]⟩
  unfold State.stopWalk
  split
  next g hg =>
    split
    next hk => rw [hg, Option.filter_some_neg (by simp [hk])]; exact s.discardStaging_shape
    next hk => exact goesOn (by simp [hg, hk])
  next hg => exact goesOn (by simp [hg])

@[simp] theorem State.stopWalk_queueCore (s : State) (k : Key) : (s.stopWalk k).queueCore = s.queueCore := by
  obtain ⟨c, p, m, h⟩ := s.stopWalk_shape k
  rw [h]; rfl

@[simp] theorem State.requestMarking_queueCore (s : State) : s.requestMarking.queueCore = s.queueCore := by
  unfold State.requestMarking; split <;> simp

@[simp] theorem State.addHeld_queueCore (s : State) (r : HeldReason) : (s.addHeld r).queueCore = s.queueCore := by
  obtain ⟨au, h, -⟩ := s.addHeld_spec r
  rw [h]; rfl

@[simp] theorem State.completeRejection_queueCore (s : State) (e : Entry) (r : RejectReason) :
    (s.completeRejection e r).queueCore = s.queueCore := by
  simp only [State.completeRejection, State.raise_queueCore, State.addHeld_queueCore]
  exact s.withFq_queueCore _ rfl

/-- R2: the entry after it has begun to leave. -/
def Entry.leave (c : Completion) (e : Entry) : Entry :=
  (if e.state = .staging then e.withState .queued else e).mapStored fun p => { p with completion := some c }

@[simp] theorem Entry.core_leave (e : Entry) (c : Completion) : (e.leave c).core = e.core := by
  refine (Entry.core_mapStored _ _ fun _ => by rfl).trans ?_
  split <;> rfl

/-- R2: what a beginning of leaving is made of. -/
theorem State.beginLeaving_eq (s : State) (k : Key) (c : Completion) : s.beginLeaving k c =
    ((s.stopWalk k).withEntries (changeEntry (s.stopWalk k).fq.entries k (Entry.leave c))).requestWriteBack k := rfl

@[simp] theorem State.beginLeaving_queueCore (s : State) (k : Key) (c : Completion) :
    (s.beginLeaving k c).queueCore = s.queueCore := by
  rw [State.beginLeaving_eq, State.requestWriteBack_queueCore,
    State.changeEntry_queueCore _ _ _ fun e => e.core_leave c, State.stopWalk_queueCore]

@[simp] theorem State.headSpoiled_queueCore (s : State) : s.headSpoiled.queueCore = s.queueCore := by
  rw [State.headSpoiled, State.addHeld_queueCore, State.changeAt_queueCore _ _ _ fun e => e.core_withState _]

@[simp] theorem State.stagingComplete_queueCore (s : State) (g : Staging) :
    (s.stagingComplete g).queueCore = s.queueCore := by
  exact State.changeEntry_queueCore
    (s.withSr { s.sr with staging := none, channel := { s.sr.channel with waitStage := false } }) g.key _
    fun e => (Entry.core_mapStored _ _ fun _ => by rfl).trans (e.core_withState _)

@[simp] theorem State.mapExposure_queueCore (s : State) (f : Exposure → Exposure) :
    (s.mapExposure f).queueCore = s.queueCore := by
  unfold State.mapExposure; cases s.gc.gate <;> rfl

@[simp] theorem State.beginLine_queueCore (s : State) : s.beginLine.queueCore = s.queueCore := by
  unfold State.beginLine
  repeat' split
  all_goals simp

@[simp] theorem State.dropLine_queueCore (s : State) (y : Nat) : (s.dropLine y).queueCore = s.queueCore := by
  unfold State.dropLine
  cases s.exposure? with
  | none => rfl
  | some x =>
    dsimp only
    repeat' split
    all_goals simp

@[simp] theorem State.takeLine_queueCore (s : State) (r : LineRecord) : (s.takeLine r).queueCore = s.queueCore := by
  simp [State.takeLine]

@[simp] theorem State.putLine_queueCore (s : State) (x : Exposure) : (s.putLine x).queueCore = s.queueCore := by
  unfold State.putLine State.blankLine
  repeat' split
  all_goals simp

@[simp] theorem State.endLine_queueCore (s : State) (k : LineKind) : (s.endLine k).queueCore = s.queueCore := by
  simp [State.endLine]

@[simp] theorem State.updateIdle_queueCore (s : State) : s.updateIdle.queueCore = s.queueCore := by
  unfold State.updateIdle
  repeat' split
  all_goals rfl

@[simp] theorem State.filmEnd_queueCore (s : State) : s.filmEnd.queueCore = s.queueCore := by
  unfold State.filmEnd; split <;> simp

@[simp] theorem State.advanceFilm_queueCore (s : State) (n : Nat) : (s.advanceFilm n).queueCore = s.queueCore := rfl

@[simp] theorem State.appendRecord_queueCore (s : State) (r : MapRecord) :
    (s.appendRecord r).queueCore = s.queueCore := by
  simp [State.appendRecord]

@[simp] theorem State.recordWritten_queueCore (s : State) : s.recordWritten.queueCore = s.queueCore := by
  simp [State.queueCore]

@[simp] theorem State.recordsEnd_queueCore (b s : State) : (State.recordsEnd b s).queueCore = s.queueCore := by
  simp [State.queueCore]

@[simp] theorem State.appendUnknown_queueCore (s : State) (n : Nat) :
    (s.appendUnknown n).queueCore = s.queueCore := by
  induction n generalizing s with
  | zero => rfl
  | succ n ih => rw [State.appendUnknown, ih]; simp

@[simp] theorem State.appendBlank_queueCore (s : State) (e : Entry) (n q : Nat) :
    (s.appendBlank e n q).queueCore = s.queueCore := by
  induction n generalizing s q with
  | zero => rfl
  | succ n ih => rw [State.appendBlank, ih]; simp

@[simp] theorem State.gateAfterAbort_queueCore (s : State) (r : SpoilReason) :
    (s.gateAfterAbort r).queueCore = s.queueCore := by
  cases r <;> rfl

@[simp] theorem State.abort_queueCore (s : State) (r : SpoilReason) : (s.abort r).queueCore = s.queueCore := by
  unfold State.abort
  cases s.exposure? with
  | none => rfl
  | some x =>
    dsimp only
    repeat' split
    all_goals simp

@[simp] theorem State.beginExposure_queueCore (s : State) (e : Entry) (i : ImagePart) (c : SetContent) (q : Nat) :
    (s.beginExposure e i c q).queueCore = s.queueCore :=
  State.changeAt_queueCore s 0 _ fun e => e.core_withState _
/-! ### The scanner and the lasers -/

@[simp] theorem State.wakeIfDue_queueCore (s : State) : s.wakeIfDue.queueCore = s.queueCore := by
  unfold State.wakeIfDue; split <;> rfl

@[simp] theorem State.stopScanner_queueCore (s : State) : s.stopScanner.queueCore = s.queueCore := rfl

@[simp] theorem State.haltScanner_queueCore (s : State) : s.haltScanner.queueCore = s.queueCore := by
  unfold State.haltScanner; cases s.stu.scanner <;> rfl

@[simp] theorem State.halt_queueCore (s : State) : s.halt.queueCore = s.queueCore := by
  unfold State.halt; split <;> simp

@[simp] theorem State.loseLock_queueCore (s : State) : s.loseLock.queueCore = s.queueCore := by
  simp [State.loseLock]

@[simp] theorem State.lock_queueCore (s : State) : s.lock.queueCore = s.queueCore := by
  unfold State.lock; dsimp only; split <;> rfl

@[simp] theorem State.judgeAcquiring_queueCore (s : State) (p : Option Nat) (known : Bool) :
    (s.judgeAcquiring p known).queueCore = s.queueCore := by
  unfold State.judgeAcquiring; dsimp only
  repeat' split
  all_goals simp

@[simp] theorem State.judgeLocked_queueCore (s : State) (p : Option Nat) :
    (s.judgeLocked p).queueCore = s.queueCore := by
  unfold State.judgeLocked
  repeat' split
  all_goals simp

@[simp] theorem State.judgeMark_queueCore (s : State) (p : Option Nat) : (s.judgeMark p).queueCore = s.queueCore := by
  unfold State.judgeMark State.countMark State.firstMark
  split <;> simp

@[simp] theorem State.takeIndex_queueCore (s : State) : s.takeIndex.queueCore = s.queueCore := by
  unfold State.takeIndex; dsimp only
  repeat' split
  all_goals simp

@[simp] theorem State.missMark_queueCore (s : State) : s.missMark.queueCore = s.queueCore := by
  unfold State.missMark; dsimp only
  repeat' split
  all_goals simp

@[simp] theorem State.sampleChannel_queueCore (s : State) (c : Channel) (m : BitVec 12) :
    (s.sampleChannel c m).queueCore = s.queueCore := by
  unfold State.sampleChannel State.faultChannel; dsimp only
  repeat' split
  all_goals simp

@[simp] theorem State.storeScanner_queueCore (s : State) (p : ScannerParam) (v : Nat) :
    (s.storeScanner p v).queueCore = s.queueCore := by
  unfold State.storeScanner; dsimp only; split <;> simp

end Sys2Proof.Machine
end

section
/-! ## Operations under which entries leave or enter, and pins are taken -/

namespace Sys2Proof.Machine
/-! ### Sets -/

/-- What a set's record is after one has been replaced. -/
theorem State.setAt_withSet (s : State) (id j : Nat) (r : SetRecord) :
    (s.withSet id r).setAt j = if id = j ∧ j < 8 then r else s.setAt j := by
  simp only [State.setAt, State.withSet, State.withCs_cs, Vector.getElem?_setIfInBounds]
  by_cases h : id = j
  · subst h
    by_cases h8 : id < 8
    · simp [h8]
    · simp [h8]
  · simp [h]

theorem State.addReference_countChanged (s : State) (id : Nat) :
    QueueCore.countChanged s.cs (s.addReference id).cs (some id) (· + 1) := by
  intro j hj
  change ((s.withSet id _).setAt j).state = (s.setAt j).state ∧ ((s.withSet id _).setAt j).useCount = _
  rw [State.setAt_withSet]
  by_cases h : id = j
  · subst h; simp [hj, State.setAt]
  · simp [h, State.setAt]

theorem State.dropReference_countChanged (s : State) (id : Nat) :
    QueueCore.countChanged s.cs (s.dropReference id).cs (some id) (· - 1) := by
  intro j hj
  change ((s.withSet id _).setAt j).state = (s.setAt j).state ∧ ((s.withSet id _).setAt j).useCount = _
  rw [State.setAt_withSet]
  by_cases h : id = j
  · subst h; simp [hj, State.setAt]
  · simp [h, State.setAt]

theorem QueueCore.countChanged_none (cs : Vector SetRecord 8) (f : Nat → Nat) : countChanged cs cs none f :=
  fun _ _ => ⟨rfl, by simp⟩

/-! ### Pins -/

/-- R40: a pin record goes to the first free place, and nowhere when both are held. -/
theorem State.takePin_queueCore (s : State) (r : PinRecord) :
    (s.takePin r).queueCore = s.queueCore ∨ (s.takePin r).queueCore = { s.queueCore with pinA := some r.key } ∨
      (s.takePin r).queueCore = { s.queueCore with pinB := some r.key } := by
  unfold State.takePin
  split
  · exact .inr (.inl rfl)
  · exact .inr (.inr rfl)
  · exact .inl rfl

theorem unlessKey_map_key (k : Key) (r : Option PinRecord) :
    (unlessKey k r).map PinRecord.key = (r.map PinRecord.key).filter (fun p => p != k) := by
  cases r with
  | none => rfl
  | some p => by_cases h : p.key = k <;> simp [unlessKey, Option.filter, h]

/-! ### Window entry -/

/-- R10: an entry that enters the window is changed in its state alone, and is given a pin record only when it is
STORED. -/
theorem State.enterWindow_queueCore (s : State) (pos : Nat) :
    (s.enterWindow pos).queueCore = s.queueCore ∨ ∃ e p r, s.fq.entries[pos]? = some e ∧ e.stored? = some p ∧
      r.key = e.key ∧ (s.enterWindow pos).queueCore = (s.takePin r).queueCore := by
  have staged (st : EntryState) (t : State) (ht : t.fq.entries = s.fq.entries) :
      (t.withEntries (changeAt s.fq.entries pos (·.withState st))).queueCore = t.queueCore :=
    ht ▸ t.changeAt_queueCore pos _ fun e => e.core_withState st
  unfold State.enterWindow
  split
  · exact .inl rfl
  next e he =>
    split
    · exact .inl rfl
    · split
      next p _ hp => exact .inr ⟨e, p, freshPin e p, he, hp, rfl, staged _ _ (by unfold State.takePin; split <;> rfl)⟩
      · exact .inl (staged _ _ rfl)
      next p _ hp => exact .inr ⟨e, p, rejectedPin e p, he, hp, rfl, rfl⟩
      all_goals exact .inl rfl

theorem State.enterWindow_queueSound {s : State} (h : s.queueSound) {pos : Nat} (hpos : pos < 2)
    (hfree : ∀ e, s.fq.entries[pos]? = some e → ¬ s.queueCore.pinned e.key) : (s.enterWindow pos).queueSound := by
  rcases s.enterWindow_queueCore pos with hc | ⟨e, p, r, he, hp, hr, hc⟩
  · exact State.queueSound_of_core h hc
  · have hcore : s.queueCore.entries[pos]? = some e.core := by simp [State.queueCore, he]
    have htable : e.core.table.isSome = true := by simp [Entry.core, hp]
    have htaken := QueueCore.Sound.takePin h hpos hcore htable (hfree e he)
    unfold State.queueSound
    rw [hc]
    rcases s.takePin_queueCore r with ht | ht | ht <;> rw [ht]
    · exact h
    · exact hr ▸ htaken.1
    · exact hr ▸ htaken.2

/-! ### Removal -/

/-- R14, step 1: the reference an entry holds is dropped. -/
def State.unname (s : State) (e : Entry) : State :=
  match e.image? with
  | some i => s.dropReference i.set
  | none => s

/-- R14, steps 1 to 3: an entry is out of the list, its reference dropped and its pins released. -/
def State.takeOut (s : State) (pos : Nat) (e : Entry) : State :=
  let t := if e.isStored then (s.unname e).releasePin e.key else s.unname e
  t.withEntries (t.fq.entries.eraseIdx pos)

/-- R14, step 5: QUEUE_EMPTY is raised when the list has become empty. -/
def State.reportEmpty (s : State) : State := if s.fq.entries.isEmpty then s.raise .queueEmpty else s

/-- R14, in its steps. -/
theorem State.removeAt_eq (s : State) {pos : Nat} {e : Entry} (he : s.fq.entries[pos]? = some e) :
    s.removeAt pos =
      (if pos ≤ 1 then (s.takeOut pos e).enterWindow 1 else s.takeOut pos e).reportEmpty := by
  unfold State.removeAt
  rw [he]
  rfl

theorem State.removeAt_beyond (s : State) {pos : Nat} (he : s.fq.entries[pos]? = none) : s.removeAt pos = s := by
  unfold State.removeAt
  rw [he]

@[simp] theorem State.reportEmpty_queueCore (s : State) : s.reportEmpty.queueCore = s.queueCore := by
  unfold State.reportEmpty; split <;> rfl

@[simp] theorem State.unname_fq (s : State) (e : Entry) : (s.unname e).fq = s.fq := by
  unfold State.unname; split <;> rfl

@[simp] theorem State.unname_fmc (s : State) (e : Entry) : (s.unname e).fmc = s.fmc := by
  unfold State.unname; split <;> rfl

theorem State.unname_countChanged (s : State) (e : Entry) :
    QueueCore.countChanged s.cs (s.unname e).cs e.core.set (· - 1) := by
  unfold State.unname Entry.core
  cases e.image? with
  | none => exact QueueCore.countChanged_none _ _
  | some i => exact s.dropReference_countChanged i.set

theorem State.takeOut_fq (s : State) (pos : Nat) (e : Entry) :
    (s.takeOut pos e).fq = { s.fq with entries := s.fq.entries.eraseIdx pos } := by
  unfold State.takeOut; dsimp only
  split <;> simp [State.withEntries, State.releasePin]

theorem State.takeOut_cs (s : State) (pos : Nat) (e : Entry) : (s.takeOut pos e).cs = (s.unname e).cs := by
  unfold State.takeOut; dsimp only
  split <;> rfl

/-- No pin is held for an entry that is not STORED. -/
theorem State.not_pinned_of_unstored {s : State} (h : s.queueSound) {pos : Nat} {e : Entry}
    (he : s.fq.entries[pos]? = some e) (hst : e.isStored = false) : ¬ s.queueCore.pinned e.key := by
  intro hpin
  have hcore : s.queueCore.entries[pos]? = some e.core := by simp [State.queueCore, he]
  obtain ⟨n, c, -, hc, hkey, htable⟩ := h.window _ hpin
  obtain rfl := h.position_unique hc hcore hkey
  obtain rfl : c = e.core := Option.some.inj (hc.symm.trans hcore)
  rw [← Entry.isStored_iff_table, hst] at htable
  exact Bool.false_ne_true htable

/-- The pins after an entry has been taken out. -/
theorem State.takeOut_queueCore {s : State} (h : s.queueSound) {pos : Nat} {e : Entry}
    (he : s.fq.entries[pos]? = some e) : (s.takeOut pos e).queueCore = s.queueCore.erase pos e.key (s.unname e).cs := by
  have hentries : (s.takeOut pos e).fq.entries.map Entry.core = s.queueCore.entries.eraseIdx pos := by
    rw [State.takeOut_fq]
    exact (List.eraseIdx_map ..).symm
  have hpins : (s.takeOut pos e).queueCore.pinA = s.queueCore.pinA.filter (fun p => p != e.key) ∧
      (s.takeOut pos e).queueCore.pinB = s.queueCore.pinB.filter (fun p => p != e.key) := by
    cases hst : e.isStored with
    | true => simp [State.takeOut, hst, State.queueCore, State.releasePin, unlessKey_map_key, State.withEntries]
    | false =>
      have hfree := State.not_pinned_of_unstored h he hst
      have unfiltered (r : Option Key) (hr : r ≠ some e.key) : r.filter (fun p => p != e.key) = r := by
        cases r with
        | none => rfl
        | some k => simpa [Option.filter] using fun hk => hr (congrArg some hk)
      rw [unfiltered _ fun ha => hfree (.inl ha), unfiltered _ fun hb => hfree (.inr hb)]
      simp [State.takeOut, hst, State.queueCore, State.withEntries]
  rw [QueueCore.erase, ← hentries, ← hpins.1, ← hpins.2, ← State.takeOut_cs s pos e]
  rfl

theorem State.takeOut_queueSound {s : State} (h : s.queueSound) {pos : Nat} {e : Entry}
    (he : s.fq.entries[pos]? = some e) : (s.takeOut pos e).queueSound := by
  have hcore : s.queueCore.entries[pos]? = some e.core := by simp [State.queueCore, he]
  unfold State.queueSound
  rw [State.takeOut_queueCore h he]
  exact h.erase hcore (s.unname_countChanged e)

/-- The entry a removal at position 0 or 1 brings to position 1 stood behind the window and holds no pin. -/
theorem State.takeOut_unpinned {s : State} (h : s.queueSound) {pos : Nat} (hpos : pos ≤ 1) {e c : Entry}
    (he : s.fq.entries[pos]? = some e) (hc : (s.takeOut pos e).fq.entries[1]? = some c) :
    ¬ (s.takeOut pos e).queueCore.pinned c.key := by
  rw [State.takeOut_queueCore h he, QueueCore.erase_pinned]
  rintro ⟨hpin, -⟩
  have hc2 : s.queueCore.entries[2]? = some c.core := by
    rw [State.takeOut_fq] at hc
    have : (s.fq.entries.eraseIdx pos)[1]? = some c := hc
    rw [List.getElem?_eraseIdx_of_ge hpos] at this
    simp [State.queueCore, this]
  obtain ⟨n, d, hn, hd, hkey, -⟩ := h.window _ hpin
  have := h.position_unique hd hc2 hkey
  omega

theorem State.removeAt_queueSound {s : State} (h : s.queueSound) (pos : Nat) : (s.removeAt pos).queueSound := by
  cases he : s.fq.entries[pos]? with
  | none => rwa [s.removeAt_beyond he]
  | some e =>
    rw [s.removeAt_eq he]
    refine State.queueSound_of_core ?_ (State.reportEmpty_queueCore _)
    have hout := State.takeOut_queueSound h he
    split
    · exact State.enterWindow_queueSound hout (by omega) fun c hc => State.takeOut_unpinned h ‹_› he hc
    · exact hout

theorem State.takeRejectedHead_queueSound (n : Nat) {s : State} (h : s.queueSound) :
    (s.takeRejectedHead n).queueSound := by
  induction n generalizing s with
  | zero => exact h
  | succ n ih =>
    unfold State.takeRejectedHead
    split
    · exact h
    · split
      · exact h
      · split
        · exact h
        · split
          · exact State.queueSound_of_core h (State.beginLeaving_queueCore ..)
          · exact ih (State.queueSound_of_core (State.removeAt_queueSound h 0) (State.completeRejection_queueCore ..))

theorem State.settleHead_queueSound {s : State} (h : s.queueSound) : s.settleHead.queueSound :=
  State.takeRejectedHead_queueSound _ h

theorem State.removeEntry_queueSound {s : State} (h : s.queueSound) (k : Key) : (s.removeEntry k).queueSound := by
  unfold State.removeEntry
  split
  · exact State.settleHead_queueSound (State.removeAt_queueSound h _)
  · exact h

theorem State.cancelEntry_queueSound {s : State} (h : s.queueSound) (e : Entry) : (s.cancelEntry e).queueSound := by
  unfold State.cancelEntry
  split
  · exact State.queueSound_of_core h (State.beginLeaving_queueCore ..)
  · exact State.removeEntry_queueSound h _

theorem State.cancelAll_queueSound (ks : List Key) {s : State} (h : s.queueSound) : (s.cancelAll ks).1.queueSound := by
  induction ks generalizing s with
  | nil => exact h
  | cons k ks ih =>
    unfold State.cancelAll
    split
    · split
      · exact ih (State.cancelEntry_queueSound h _)
      · exact ih h
    · exact ih h

/-! ### Repeats, runouts, write-backs, the staging walk -/

theorem State.headExposed_queueSound {s : State} (h : s.queueSound) : s.headExposed.queueSound := by
  unfold State.headExposed
  split
  · exact h
  · split
    · exact h
    · have hcounted : (s.withEntries (changeAt s.fq.entries 0 fun e => (e.withState .staged).mapImage fun j =>
          { j with remaining := j.remaining - 1, exposed := j.exposed + 1 })).queueSound :=
        State.queueSound_of_core h (s.changeAt_queueCore 0 _ fun e => Entry.core_mapImage _ _ fun _ => by rfl)
      dsimp only
      split
      · exact hcounted
      · split
        · exact State.queueSound_of_core hcounted (State.beginLeaving_queueCore ..)
        · exact State.queueSound_of_core (State.removeEntry_queueSound hcounted _) (State.raise_queueCore ..)

theorem State.headRunOut_queueSound {s : State} (h : s.queueSound) (n : Nat) : (s.headRunOut n).queueSound := by
  have hlowered : (s.withEntries (changeAt s.fq.entries 0 (Entry.lowerCount n))).queueSound :=
    State.queueSound_of_core h (s.changeAt_queueCore 0 _ fun e => e.core_lowerCount n)
  unfold State.headRunOut
  split
  · exact h
  · split
    · dsimp only
      split
      · exact State.queueSound_of_core (State.removeEntry_queueSound hlowered _) (State.raise_queueCore ..)
      · exact hlowered
    all_goals exact h

theorem State.releasePin_queueSound {s : State} (h : s.queueSound) (k : Key) : (s.releasePin k).queueSound := by
  have hpins : (s.releasePin k).queueCore = { s.queueCore with
      pinA := s.queueCore.pinA.filter (fun p => p != k), pinB := s.queueCore.pinB.filter (fun p => p != k) } := by
    simp [State.queueCore, State.releasePin, unlessKey_map_key]
  have hpinned (j : Key) (hj : (s.releasePin k).queueCore.pinned j) : s.queueCore.pinned j := by
    rw [hpins] at hj
    exact hj.imp (fun ha => (Option.filter_eq_some_iff.mp ha).1) fun hb => (Option.filter_eq_some_iff.mp hb).1
  refine ⟨h.bounded, h.distinct, h.counts, h.ready, h.tables, fun j hj => h.window j (hpinned j hj), ?_⟩
  rw [hpins]
  exact fun j ha hb => h.apart j (Option.filter_eq_some_iff.mp ha).1 (Option.filter_eq_some_iff.mp hb).1

theorem State.endWriteBack_queueSound {s : State} (h : s.queueSound) : s.endWriteBack.queueSound := by
  unfold State.endWriteBack
  split
  · exact h
  next k ks _ =>
    have ht : (s.withSr { s.sr with wbList := ks, wbPos := 0 }).queueSound := State.queueSound_of_core h rfl
    dsimp only
    split
    next e pos _ _ =>
      have hu := State.removeAt_queueSound (State.releasePin_queueSound ht k) pos
      split
      · exact State.settleHead_queueSound (State.queueSound_of_core hu (State.raise_queueCore ..))
      · exact State.settleHead_queueSound (State.queueSound_of_core hu (State.completeRejection_queueCore ..))
      all_goals exact State.settleHead_queueSound hu
    · exact ht

theorem State.stagingFailed_queueSound {s : State} (h : s.queueSound) (g : Staging) (r : RejectReason) :
    (s.stagingFailed g r).queueSound := by
  refine State.settleHead_queueSound (State.queueSound_of_core h ?_)
  exact State.changeEntry_queueCore
    (s.withSr { s.sr with staging := none, channel := { s.sr.channel with waitStage := false } }) g.key _
    fun e => e.core_withState _

theorem State.walkToDescriptor_queueSound {s : State} (h : s.queueSound) (g : Staging) :
    (s.walkToDescriptor g).queueSound := by
  unfold State.walkToDescriptor
  split
  · exact State.stagingFailed_queueSound h g _
  · exact State.queueSound_of_core h (s.mapPin_queueCore g.key _ fun _ => by rfl)

theorem State.onDescriptor_queueSound {s : State} (h : s.queueSound) (g : Staging) (bs : List Byte) :
    (s.onDescriptor g bs).queueSound := by
  have hpinned (r : Range) : (s.mapPin g.key (·.addStrip r)).queueSound :=
    State.queueSound_of_core h (s.mapPin_queueCore g.key _ fun _ => by rfl)
  unfold State.onDescriptor; dsimp only
  split
  · exact State.stagingFailed_queueSound h g _
  · split
    · exact State.stagingFailed_queueSound h g _
    · split
      · exact State.stagingFailed_queueSound (hpinned _) _ _
      · split
        · exact State.stagingFailed_queueSound (hpinned _) _ _
        · exact State.queueSound_of_core (hpinned _) (State.stagingContinue_queueCore ..)

theorem State.compareChecksum_queueSound {s : State} (h : s.queueSound) (g : Staging) :
    (s.compareChecksum g).queueSound := by
  have hcomplete := State.queueSound_of_core h (s.stagingComplete_queueCore g)
  unfold State.compareChecksum
  split
  · split
    · exact State.stagingFailed_queueSound h g _
    · exact hcomplete
  · exact hcomplete

theorem State.walk_queueSound {s : State} (h : s.queueSound) (g : Staging) (bs : List Byte) :
    (s.walk g bs).queueSound := by
  unfold State.walk
  split
  · exact State.onDescriptor_queueSound h g bs
  · unfold State.onStripBytes; dsimp only
    split
    · exact State.queueSound_of_core h (State.stagingContinue_queueCore ..)
    · split
      · exact State.compareChecksum_queueSound h _
      · exact State.walkToDescriptor_queueSound h _

theorem State.offerStaging_queueSound {s : State} (h : s.queueSound) : s.offerStaging.queueSound := by
  unfold State.offerStaging
  repeat' split
  any_goals exact h
  exact State.walkToDescriptor_queueSound h _

/-! ### Starts, frame ends, the end of an event -/

theorem State.rejectStock_queueSound {s : State} (h : s.queueSound) : s.rejectStock.queueSound :=
  State.settleHead_queueSound
    (State.queueSound_of_core h (s.changeAt_queueCore 0 _ fun e => e.core_withState _))

theorem State.frameStart_queueSound {s : State} (h : s.queueSound) : s.frameStart.queueSound := by
  unfold State.frameStart
  repeat' split
  any_goals exact h
  · exact State.queueSound_of_core h (State.beginExposure_queueCore ..)
  all_goals exact State.rejectStock_queueSound h

theorem State.runoutStart_queueSound {s : State} (h : s.queueSound) : s.runoutStart.queueSound := by
  unfold State.runoutStart
  split
  next e position _ _ =>
    split
    next count _ =>
      have hrecorded (n : Nat) : (State.appendBlank e n position s).queueSound :=
        State.queueSound_of_core h (State.appendBlank_queueCore ..)
      let n := min count (s.filmRemaining?.getD 0)
      exact State.queueSound_of_core (State.headRunOut_queueSound (hrecorded n) n)
        ((State.filmEnd_queueCore _).trans (State.raise_queueCore ..))
    all_goals exact h
  · exact h

theorem State.startIfDue_queueSound (b : State) {s : State} (h : s.queueSound) : (State.startIfDue b s).queueSound := by
  unfold State.startIfDue
  split
  · exact State.frameStart_queueSound h
  · split
    · exact State.runoutStart_queueSound h
    · exact h

theorem State.quiesce_queueSound {s : State} (h : s.queueSound) : s.quiesce.queueSound := by
  have hoffered := State.offerStaging_queueSound (State.queueSound_of_core h s.beginLine_queueCore)
  refine State.queueSound_of_core hoffered ?_
  rw [State.quiesce, State.updateIdle_queueCore, State.grant_queueCore, State.requestMarking_queueCore]

theorem State.settle_queueSound (b : State) {s : State} (h : s.queueSound) : (State.settle b s).queueSound :=
  State.quiesce_queueSound
    (State.queueSound_of_core (State.startIfDue_queueSound b h) (State.recordsEnd_queueCore ..))

theorem State.frameEnd_queueSound {s : State} (h : s.queueSound) : s.frameEnd.queueSound := by
  unfold State.frameEnd
  split
  · exact h
  next x _ =>
    dsimp only
    rw [State.queueSound, State.filmEnd_queueCore, State.raiseAll_queueCore]
    have hgate (r : MapRecord) : ((s.withdrawFetch.appendRecord r).advanceFilm 1).queueSound :=
      State.queueSound_of_core h (by simp)
    split
    · exact State.headExposed_queueSound (hgate _)
    · exact State.queueSound_of_core (hgate _) (State.headSpoiled_queueCore _)

theorem State.lineOut_queueSound {s : State} (h : s.queueSound) (facet : Option Nat) :
    (s.lineOut facet).queueSound := by
  unfold State.lineOut
  split
  · exact h
  · split
    · split
      · split
        · exact State.queueSound_of_core h (State.takeLine_queueCore ..)
        · exact h
      · exact h
    next y kind _ =>
      have hended : (s.endLine kind).queueSound := State.queueSound_of_core h (State.endLine_queueCore ..)
      dsimp only
      split
      · exact State.frameEnd_queueSound hended
      · exact State.queueSound_of_core hended (State.putLine_queueCore ..)

theorem State.markLine_queueSound {s : State} (h : s.queueSound) (m : MarkInput) : (s.markLine m).queueSound := by
  unfold State.markLine
  split
  · exact State.lineOut_queueSound h _
  · exact h

theorem State.markPart_queueSound (m : MarkInput) {s : State} (h : s.queueSound) (p : MarkPart) :
    (State.markPart m s p).queueSound := by
  cases p with
  | sample c =>
    unfold State.markPart; dsimp only
    split
    · exact State.startIfDue_queueSound s (State.queueSound_of_core h (State.sampleChannel_queueCore ..))
    · exact h
  | judge =>
    have hjudged := State.startIfDue_queueSound s (State.queueSound_of_core h (s.judgeMark_queueCore m.period))
    unfold State.markPart State.markJudge; dsimp only
    split
    · exact State.markLine_queueSound hjudged m
    · exact hjudged

theorem State.takeMark_queueSound {s : State} (h : s.queueSound) (ticks : Nat) (samples : Rgb (BitVec 12))
    (order : MarkOrder) : (s.takeMark ticks samples order).queueSound := by
  have hparts (m : MarkInput) (ps : List MarkPart) (t : State) (ht : t.queueSound) :
      (ps.foldl (State.markPart m) t).queueSound := by
    induction ps generalizing t with
    | nil => exact ht
    | cons p ps ih => exact ih _ (State.markPart_queueSound m ht p)
  exact State.quiesce_queueSound (State.markLine_queueSound
    (hparts _ _ _ (State.queueSound_of_core h s.dropDrives_queueCore)) _)

end Sys2Proof.Machine
end

section
/-! ## Every step keeps the queue's invariants -/

namespace Sys2Proof.Machine
/-! ### Submission -/

theorem changeAt_of_none {es : List Entry} {n : Nat} (f : Entry → Entry) (h : es[n]? = none) :
    changeAt es n f = es := by
  induction es generalizing n with
  | nil => rfl
  | cons e es ih =>
    cases n with
    | zero => simp at h
    | succ n => rw [changeAt, ih (by simpa using h)]

/-- R9: the entry at position 1 is changed; its walk has stopped and its pins are free. -/
theorem State.pushOut_fq (s : State) :
    s.pushOut.fq = { s.fq with entries := changeAt s.fq.entries 1 Entry.pushedOut } := by
  unfold State.pushOut
  split
  next h => rw [changeAt_of_none _ h]
  next e he =>
    obtain ⟨c, p, m, hs⟩ := s.stopWalk_shape e.key
    rw [hs]; rfl

theorem State.pushOut_queueCore_entries (s : State) : s.pushOut.queueCore.entries = s.queueCore.entries := by
  simp only [State.queueCore, State.pushOut_fq]
  exact changeAt_map _ _ _ _ Entry.core_pushedOut

theorem State.pushOut_queueCore (s : State) {e : Entry} (he : s.fq.entries[1]? = some e) :
    s.pushOut.queueCore = (s.releasePin e.key).queueCore := by
  obtain ⟨c, p, m, hs⟩ := s.stopWalk_shape e.key
  unfold State.pushOut
  rw [he]
  dsimp only
  rw [State.changeAt_queueCore _ _ _ Entry.core_pushedOut, hs]
  rfl

theorem State.pushOut_queueSound {s : State} (h : s.queueSound) : s.pushOut.queueSound := by
  cases he : s.fq.entries[1]? with
  | none => unfold State.pushOut; rwa [he]
  | some e => exact State.queueSound_of_core (State.releasePin_queueSound h e.key) (s.pushOut_queueCore he)

/-- R9: no pin is held for the entry pushed out. -/
theorem State.pushOut_unpinned (s : State) {e : Entry} (he : s.fq.entries[1]? = some e) :
    ¬ s.pushOut.queueCore.pinned e.key := by
  rw [s.pushOut_queueCore he]
  simp [State.queueCore, State.releasePin, unlessKey_map_key, QueueCore.pinned, Option.filter_eq_some_iff]

theorem State.frontPlace_le_one (s : State) : s.frontPlace ≤ 1 := by
  unfold State.frontPlace
  split
  · split <;> omega
  · omega

theorem State.placeOf_le_length (s : State) (front : Bool) : s.placeOf front ≤ s.fq.entries.length := by
  unfold State.placeOf State.frontPlace State.head?
  cases s.fq.entries with
  | nil => cases front <;> simp
  | cons e es => cases front <;> simp; split <;> omega

/-- R7, R9: the list as a submission finds its place in it: with FRONT the entry at position 1 has been pushed out. -/
def State.roomMade (s : State) (front : Bool) : State := if front then s.pushOut else s

/-- R7: the new entry is in the list and its reference counted. -/
def State.joined (s : State) (sender : Addr) (a : Submission) : State :=
  let made := s.roomMade a.front
  let joined := made.withFq { made.fq with
    entries := made.fq.entries.insertIdx (s.placeOf a.front) (newEntry s.fq.serial sender a), serial := s.fq.serial + 1 }
  match a.set with
  | some id => joined.addReference id
  | none => joined

/-- R10: the new entry enters the window when its place lies there. -/
theorem State.joinQueue_eq (s : State) (sender : Addr) (a : Submission) : s.joinQueue sender a =
    if s.placeOf a.front ≤ 1 then (s.joined sender a).enterWindow (s.placeOf a.front) else s.joined sender a := rfl

theorem State.joined_fq (s : State) (sender : Addr) (a : Submission) : (s.joined sender a).fq =
    { (s.roomMade a.front).fq with
      entries := (s.roomMade a.front).fq.entries.insertIdx (s.placeOf a.front) (newEntry s.fq.serial sender a)
      serial := s.fq.serial + 1 } := by
  unfold State.joined; dsimp only
  split <;> rfl

theorem State.joined_fmc (s : State) (sender : Addr) (a : Submission) :
    (s.joined sender a).fmc = (s.roomMade a.front).fmc := by
  unfold State.joined; dsimp only
  split <;> rfl

theorem State.joined_countChanged (s : State) (sender : Addr) (a : Submission) :
    QueueCore.countChanged (s.roomMade a.front).cs (s.joined sender a).cs a.set (· + 1) := by
  unfold State.joined
  cases a.set with
  | none => exact QueueCore.countChanged_none _ _
  | some id => exact State.addReference_countChanged _ _

theorem State.joined_queueCore (s : State) (sender : Addr) (a : Submission) : (s.joined sender a).queueCore =
    ⟨(s.roomMade a.front).queueCore.entries.insertIdx (s.placeOf a.front) (newEntry s.fq.serial sender a).core,
      (s.joined sender a).cs, (s.roomMade a.front).queueCore.pinA, (s.roomMade a.front).queueCore.pinB⟩ := by
  simp only [State.queueCore, State.joined_fq, State.joined_fmc, List.map_insertIdx]

/-- What every submission that a message carries meets: the set it counts is the one its entry names, and a table it
names lies below the reel-map region when its fields are in range (R5). -/
def Submission.proper (a : Submission) : Prop :=
  (∀ n sender, (newEntry n sender a).core.set = a.set) ∧
  ∀ n sender t, a.valid = true → (newEntry n sender a).core.table = some t → t < Config.mapBase

theorem storedSubmission_proper (a : StoredArgs) : (storedSubmission a).proper := by
  refine ⟨fun _ _ => rfl, fun n sender t hv ht => ?_⟩
  obtain rfl : a.tableOffset = t := Option.some.inj ht
  simp only [storedSubmission, Bool.and_eq_true, decide_eq_true_eq] at hv
  exact hv.2.2

theorem flatSubmission_proper (a : FlatArgs) : (flatSubmission a).proper :=
  ⟨fun _ _ => rfl, fun _ _ _ _ ht => nomatch ht⟩

theorem runoutSubmission_proper (a : RunoutArgs) : (runoutSubmission a).proper :=
  ⟨fun _ _ => rfl, fun _ _ _ _ ht => nomatch ht⟩

/-- The submission of a message is one of the three kinds. -/
theorem submissionOf_cases {c : Instr} {f : Submission} (h : submissionOf c = some f) :
    (∃ a, f = storedSubmission a) ∨ (∃ a, f = flatSubmission a) ∨ ∃ a, f = runoutSubmission a := by
  cases c <;> simp only [submissionOf, reduceCtorEq, Option.map_eq_some_iff] at h
  case submitStored => exact .inl (h.imp fun _ ha => ha.2.symm)
  case submitFlat => exact .inr (.inl (h.imp fun _ ha => ha.2.symm))
  case submitRunout => exact .inr (.inr (h.imp fun _ ha => ha.2.symm))

theorem submissionOf_proper {c : Instr} {f : Submission} (h : submissionOf c = some f) : f.proper := by
  rcases submissionOf_cases h with ⟨a, rfl⟩ | ⟨a, rfl⟩ | ⟨a, rfl⟩
  · exact storedSubmission_proper a
  · exact flatSubmission_proper a
  · exact runoutSubmission_proper a

theorem findEntry_eq_none {es : List Entry} {k : Key} : findEntry es k = none ↔ ∀ e ∈ es, e.key ≠ k := by
  simp [findEntry]

/-- R6: a submission passes the tests of Table 1-2 after FULL. -/
theorem submissionFailure_eq_none {s : State} {sender : Addr} {a : Submission}
    (h : submissionFailure s sender a = none) :
    (∀ e ∈ s.fq.entries, e.key ≠ ⟨sender.toNat, a.tag⟩) ∧ a.valid = true ∧ s.setReady a.set = true := by
  unfold submissionFailure at h
  split at h
  · cases h
  next hdup =>
    split at h
    · cases h
    next hvalid =>
      split at h
      · cases h
      next hset =>
        refine ⟨findEntry_eq_none.mp (by simpa using hdup), by simpa using hvalid, by simpa using hset⟩

theorem State.roomMade_queueSound {s : State} (h : s.queueSound) (front : Bool) : (s.roomMade front).queueSound := by
  cases front
  · exact h
  · exact State.pushOut_queueSound h

theorem State.roomMade_entries (s : State) (front : Bool) :
    (s.roomMade front).queueCore.entries = s.queueCore.entries := by
  cases front
  · rfl
  · exact s.pushOut_queueCore_entries

theorem State.roomMade_cs (s : State) (front : Bool) : (s.roomMade front).cs = s.cs := by
  cases front
  · rfl
  · unfold State.roomMade State.pushOut
    simp only [if_true]
    split
    · rfl
    next e _ =>
      obtain ⟨c, p, m, hs⟩ := s.stopWalk_shape e.key
      rw [hs]; rfl

/-- R9: no pin stands in the way of an entry that joins in the window. -/
theorem State.roomMade_unpinned (s : State) {front : Bool} {c : EntryCore} (hplace : s.placeOf front ≤ 1)
    (hc : (s.roomMade front).queueCore.entries[1]? = some c) : ¬ (s.roomMade front).queueCore.pinned c.key := by
  rw [State.roomMade_entries] at hc
  obtain ⟨e, he, rfl⟩ : ∃ e, s.fq.entries[1]? = some e ∧ e.core = c := by simpa [State.queueCore] using hc
  cases front with
  | false =>
    have := (List.getElem?_eq_some_iff.mp he).1
    have : s.fq.entries.length ≤ 1 := hplace
    omega
  | true => exact s.pushOut_unpinned he

/-- No pin is held for a key that no entry has. -/
theorem QueueCore.Sound.not_pinned {q : QueueCore} (h : q.Sound) {k : Key} (hk : ∀ c ∈ q.entries, c.key ≠ k) :
    ¬ q.pinned k := fun hpin => by
  obtain ⟨n, c, -, hc, hkey, -⟩ := h.window k hpin
  exact hk c (List.mem_of_getElem? hc) hkey

theorem State.joinQueue_queueSound {s : State} (h : s.queueSound) {sender : Addr} {a : Submission} (hp : a.proper)
    (hroom : s.fq.entries.length < Config.queueCapacity) (hpass : submissionFailure s sender a = none) :
    (s.joinQueue sender a).queueSound := by
  obtain ⟨hkeys, hvalid, hset⟩ := submissionFailure_eq_none hpass
  have hmade := State.roomMade_queueSound h a.front
  have hlength : (s.roomMade a.front).queueCore.entries.length = s.fq.entries.length := by
    rw [State.roomMade_entries]; simp [State.queueCore]
  have hnew : ∀ c ∈ (s.roomMade a.front).queueCore.entries, c.key ≠ (newEntry s.fq.serial sender a).core.key := by
    rw [State.roomMade_entries]
    intro c hc
    obtain ⟨e, he, rfl⟩ := List.mem_map.mp hc
    exact hkeys e he
  have hready (id : Nat) (hid : (newEntry s.fq.serial sender a).core.set = some id) :
      ((s.roomMade a.front).queueCore.setAt id).ready?.isSome = true := by
    have hcs : (s.roomMade a.front).queueCore.setAt id = s.setAt id := by
      simp only [QueueCore.setAt, State.queueCore, State.roomMade_cs]; rfl
    rw [hp.1] at hid
    rwa [hcs, ← show s.setReady (some id) = (s.setAt id).ready?.isSome from rfl, ← hid]
  have hjoined : (s.joined sender a).queueSound := by
    unfold State.queueSound
    rw [State.joined_queueCore]
    exact QueueCore.Sound.insert hmade (hlength ▸ s.placeOf_le_length a.front) (hlength ▸ hroom) hnew
      (fun t ht => hp.2 _ _ t hvalid ht) hready (fun c hplace hc => s.roomMade_unpinned hplace hc)
      (by rw [hp.1]; exact s.joined_countChanged sender a)
  rw [State.joinQueue_eq]
  split
  next hplace =>
    refine State.enterWindow_queueSound hjoined (by omega) fun e he => ?_
    rw [State.joined_fq] at he
    have hle := s.placeOf_le_length a.front
    have hlen : (s.roomMade a.front).fq.entries.length = s.fq.entries.length := by
      simpa [State.queueCore] using hlength
    rw [List.getElem?_insertIdx_self, if_pos (hlen ▸ hle)] at he
    obtain rfl := Option.some.inj he
    rw [State.joined_queueCore]
    exact QueueCore.Sound.not_pinned hmade hnew
  · exact hjoined

theorem State.submit_queueSound {s : State} (h : s.queueSound) {sender : Addr} {a : Submission} (hp : a.proper)
    (hroom : s.fq.entries.length < Config.queueCapacity) (hpass : submissionFailure s sender a = none) :
    (s.submit sender a).queueSound := by
  have hjoined := State.joinQueue_queueSound h hp hroom hpass
  refine State.settle_queueSound s ?_
  split
  · exact State.queueSound_of_core hjoined (State.wakeIfDue_queueCore _)
  · exact hjoined

theorem decideSubmit_queueSound {s : State} (h : s.queueSound) (allowed : Bool) (sender : Addr)
    (a : Option Submission) (hp : ∀ f, a = some f → f.proper) : (decideSubmit allowed sender a s).state.queueSound := by
  unfold decideSubmit
  split
  · exact h
  · split
    · exact h
    next hfull =>
      split
      · exact h
      next f =>
        split
        · exact h
        next hpass => exact State.submit_queueSound h (hp f rfl) (by omega) hpass

/-! ### Flushing -/

/-- R29: the references of all the entries of a list are dropped. -/
theorem State.unnameAll_spec (es : List Entry) (s : State) (id : Nat) (hid : id < 8) :
    ((es.foldl State.unname s).setAt id).state = (s.setAt id).state ∧
    ((es.foldl State.unname s).setAt id).useCount = (s.setAt id).useCount - es.countP (Entry.names · id) := by
  induction es generalizing s with
  | nil => simp
  | cons e es ih =>
    obtain ⟨hstate, hcount⟩ := ih (s.unname e)
    obtain ⟨hstate1, hcount1⟩ := s.unname_countChanged e id hid
    refine ⟨hstate.trans hstate1, ?_⟩
    rw [List.foldl_cons, hcount, List.countP_cons, Entry.names_iff_set]
    simp only [State.setAt]
    rw [hcount1]
    simp only [decide_eq_true_eq]
    split <;> omega

theorem State.flushQueue_queueCore (s : State) : s.flushQueue.queueCore =
    ⟨[], (s.fq.entries.foldl State.unname s).cs, none, none⟩ := rfl

theorem State.flushQueue_queueSound {s : State} (h : s.queueSound) : s.flushQueue.queueSound := by
  have hempty (id : Nat) (hid : id < 8) : (s.flushQueue.queueCore.setAt id).useCount = 0 := by
    have hspec := (State.unnameAll_spec s.fq.entries s id hid).2
    have hcount := ((State.useCountsAgree_iff s).mpr fun i hi => ⟨h.counts i hi, h.ready i hi⟩) id hid
    rw [hcount.1, Nat.sub_self] at hspec
    exact hspec
  unfold State.queueSound
  rw [State.flushQueue_queueCore] at hempty ⊢
  refine ⟨by simp, by simp, fun id hid => by simpa using hempty id hid, fun id hid hlt => ?_, by simp,
    fun k hk => ?_, by simp⟩
  · rw [hempty id hid] at hlt; omega
  · simp [QueueCore.pinned] at hk

theorem State.recorderReset_queueSound {s : State} (h : s.queueSound) : s.recorderReset.queueSound := by
  have haborted : ((s.withSr .afterReset).abort .reset).queueSound := State.queueSound_of_core h (by simp)
  exact State.queueSound_of_core (State.flushQueue_queueSound haborted) (State.updateIdle_queueCore _)

/-! ### The calibration store -/

/-- A set's record replaced by one of the same use count, READY when that is not 0. -/
theorem State.withSet_queueSound {s : State} (h : s.queueSound) (id : Nat) (r : SetRecord)
    (hcount : r.useCount = (s.setAt id).useCount) (hready : 0 < r.useCount → r.ready?.isSome = true) :
    (s.withSet id r).queueSound := by
  have hset (j : Nat) : (s.withSet id r).queueCore.setAt j = if id = j ∧ j < 8 then r else s.setAt j :=
    s.setAt_withSet id j r
  refine ⟨h.bounded, h.distinct, fun j hj => ?_, fun j hj hlt => ?_, h.tables, h.window, h.apart⟩
  · refine Eq.trans ?_ (h.counts j hj)
    rw [hset]
    split
    next hid => rw [hcount, hid.1]; rfl
    · rfl
  · rw [hset] at hlt ⊢
    split at hlt
    next hid => rw [if_pos hid]; exact hready hlt
    next hid => rw [if_neg hid]; exact h.ready j hj hlt

/-- R100: a set that is not READY is named by no entry. -/
theorem State.useCount_of_unready {s : State} (h : s.queueSound) {id : Nat} (hid : id < 8)
    (hr : (s.setAt id).ready? = none) : (s.setAt id).useCount = 0 := by
  by_contra hne
  have := h.ready id hid (Nat.pos_of_ne_zero hne)
  change (s.setAt id).ready?.isSome = true at this
  simp [hr] at this

theorem SetRecord.ready?_of_building {r : SetRecord} {c : SetContent} (h : r.building? = some c) : r.ready? = none := by
  unfold SetRecord.building? at h
  unfold SetRecord.ready?
  split at h <;> simp_all

/-- A set that is not READY changed to another state. -/
theorem State.setState_queueSound {s : State} (h : s.queueSound) {id : Nat} (hid : id < 8)
    (hr : (s.setAt id).ready? = none) (st : SetState) : (s.setState id st).queueSound :=
  State.withSet_queueSound h id _ rfl fun hlt => by
    rw [show (s.setAt id).useCount = 0 from State.useCount_of_unready h hid hr] at hlt; omega

theorem setId_lt {id : Nat} (h : setId id = true) : id < 8 := by
  simp only [setId, decide_eq_true_eq] at h; omega

theorem decideBeginSet_queueSound {s : State} (h : s.queueSound) (role : Role) (payload : Payload BeginSetArgs) :
    (decideBeginSet role payload s).state.queueSound := by
  unfold decideBeginSet
  split
  · exact h
  · split
    · exact h
    · split
      · exact h
      next a hargs =>
        split
        next hfree =>
          have hid : setId a.id = true := by simp_all
          have hcount := State.useCount_of_unready h (setId_lt hid) (by simp [SetRecord.ready?, hfree])
          exact State.withSet_queueSound h a.id _ hcount.symm (by simp)
        all_goals exact h

theorem decideWriteTable_queueSound {s : State} (h : s.queueSound) (role : Role) (payload : Payload WriteTableArgs) :
    (decideWriteTable role payload s).state.queueSound := by
  unfold decideWriteTable
  split
  · exact h
  · split
    · exact h
    next a =>
      split
      · exact h
      · dsimp only
        split
        · exact h
        next hargs =>
          split
          · exact h
          next c hc =>
            have hid : setId a.id = true := by simp_all
            exact State.setState_queueSound h (setId_lt hid) (SetRecord.ready?_of_building hc) _

theorem decidePublishSet_queueSound {s : State} (h : s.queueSound) (role : Role) (payload : Payload Nat) :
    (decidePublishSet role payload s).state.queueSound := by
  unfold decidePublishSet
  split
  · exact h
  · split
    · exact h
    next id =>
      split
      · exact h
      · split
        · exact h
        next c _ =>
          split
          · exact h
          · exact State.queueSound_of_core (State.withSet_queueSound h id
              ⟨.ready c (BitVec.ofNat 16 (tableSum c)), (s.setAt id).useCount⟩ rfl fun _ => rfl) rfl

theorem decideFreeSet_queueSound {s : State} (h : s.queueSound) (role : Role) (payload : Payload Nat) :
    (decideFreeSet role payload s).state.queueSound := by
  unfold decideFreeSet
  split
  · exact h
  · split
    · exact h
    · split
      · exact h
      next id hid =>
        split
        · exact h
        next hb =>
          exact State.setState_queueSound h (setId_lt (by simpa using hid)) (by simp [SetRecord.ready?, hb]) _
        · split
          · exact h
          next hcount => exact State.withSet_queueSound h id _ rfl fun hlt => absurd hlt hcount

theorem decideSetTrim_queueSound {s : State} (h : s.queueSound) (role : Role) (payload : Payload SetTrimArgs) :
    (decideSetTrim role payload s).state.queueSound := by
  unfold decideSetTrim
  split
  · exact h
  · split
    · exact h
    next a =>
      split
      · exact h
      next ch _ =>
        split
        · exact h
        next hargs =>
          split
          · exact h
          · refine State.withSet_queueSound h a.id _ rfl fun hlt => ?_
            have hready : (s.setAt a.id).ready?.isSome = true :=
              h.ready a.id (setId_lt (by simpa using hargs)) hlt
            unfold SetRecord.ready? at hready ⊢
            cases hst : (s.setAt a.id).state <;> simp_all [SetState.map]

end Sys2Proof.Machine
end

section
/-! ## The decisions of the owning blocks, and the step -/

namespace Sys2Proof.Machine
/-! ### Decisions that leave the queue's core -/

theorem query_queueCore (payload : Payload Unit) (answer : State → ReplyData) (s : State) :
    (query payload answer s).state.queueCore = s.queueCore := by
  cases payload <;> rfl

theorem decideBindAttn_queueCore (sender : Addr) (payload : List Byte) (s : State) :
    (decideBindAttn sender payload s).state.queueCore = s.queueCore := by
  unfold decideBindAttn; repeat' split
  all_goals rfl

theorem decideUnbind_queueCore (sender : Addr) (payload : List Byte) (s : State) :
    (decideUnbind sender payload s).state.queueCore = s.queueCore := by
  unfold decideUnbind; repeat' split
  all_goals rfl

theorem decideOwner_queueCore (change : AttentionLine → Word16 → AttentionLine) (answer : AttentionLine → ReplyData)
    (sender : Addr) (payload : List Byte) (s : State) :
    (decideOwner change answer sender payload s).state.queueCore = s.queueCore := by
  unfold decideOwner; dsimp only; repeat' split
  all_goals rfl

theorem decideReadEvents_queueCore (payload : List Byte) (s : State) :
    (decideReadEvents payload s).state.queueCore = s.queueCore := by
  unfold decideReadEvents; split <;> rfl

theorem decideReadTable_queueCore (payload : Payload ReadTableArgs) (s : State) :
    (decideReadTable payload s).state.queueCore = s.queueCore := by
  unfold decideReadTable; repeat' split
  all_goals rfl

theorem decideQuerySet_queueCore (payload : Payload Nat) (s : State) :
    (decideQuerySet payload s).state.queueCore = s.queueCore := by
  unfold decideQuerySet; repeat' split
  all_goals rfl

theorem decideWriteOptics_queueCore (role : Role) (payload : Payload WriteOpticsArgs) (s : State) :
    (decideWriteOptics role payload s).state.queueCore = s.queueCore := by
  unfold decideWriteOptics; dsimp only; repeat' split
  all_goals rfl

theorem decideReadOptics_queueCore (payload : Payload ReadOpticsArgs) (s : State) :
    (decideReadOptics payload s).state.queueCore = s.queueCore := by
  unfold decideReadOptics; repeat' split
  all_goals rfl

theorem State.takeMagazine_queueCore (s : State) (t : MagazineTag) : (s.takeMagazine t).queueCore = s.queueCore := by
  unfold State.takeMagazine; split <;> rfl

theorem decideMagLoad_queueCore (role : Role) (payload : List Byte) (s : State) :
    (decideMagLoad role payload s).state.queueCore = s.queueCore := by
  unfold decideMagLoad; dsimp only; repeat' split
  any_goals rfl
  exact s.takeMagazine_queueCore _

theorem decideMagUnload_queueCore (role : Role) (payload : Payload Unit) (s : State) :
    (decideMagUnload role payload s).state.queueCore = s.queueCore := by
  have hunload : s.unloadMagazine.queueCore = s.queueCore := by
    unfold State.unloadMagazine; split <;> simp
  unfold decideMagUnload; repeat' split
  any_goals rfl
  exact hunload

theorem decideGateFault_queueCore (role : Role) (payload : Payload Unit) (s : State) :
    (decideGateFault role payload s).state.queueCore = s.queueCore := by
  unfold decideGateFault; repeat' split
  any_goals rfl
  exact s.abort_queueCore .gateFault

theorem decideAbortFrame_queueCore (role : Role) (payload : Payload Unit) (s : State) :
    (decideAbortFrame role payload s).state.queueCore = s.queueCore := by
  unfold decideAbortFrame; repeat' split
  any_goals rfl
  exact s.abort_queueCore .aborted

theorem decideReadMap_queueCore (payload : Payload Nat) (s : State) :
    (decideReadMap payload s).state.queueCore = s.queueCore := by
  unfold decideReadMap; repeat' split
  all_goals rfl

theorem decideHold_queueCore (role : Role) (payload : Payload Unit) (s : State) :
    (decideHold role payload s).state.queueCore = s.queueCore := by
  unfold decideHold; repeat' split
  any_goals rfl
  exact s.addHeld_queueCore .operator

theorem decideQueryEntry_queueCore (payload : Payload EntryName) (s : State) :
    (decideQueryEntry payload s).state.queueCore = s.queueCore := by
  unfold decideQueryEntry; repeat' split
  all_goals rfl

theorem decideStripsOf_queueCore (key : Key) (first : Option Nat) (s : State) :
    (decideStripsOf key first s).state.queueCore = s.queueCore := by
  unfold decideStripsOf; repeat' split
  all_goals rfl

theorem decideQueryStrips_queueCore (payload : NamedPayload StripsArgs (Nat × Word32)) (s : State) :
    (decideQueryStrips payload s).state.queueCore = s.queueCore := by
  unfold decideQueryStrips
  split
  · rfl
  all_goals exact decideStripsOf_queueCore ..

theorem decideEStop_queueCore (role : Role) (payload : Payload Unit) (s : State) :
    (decideEStop role payload s).state.queueCore = s.queueCore := by
  unfold decideEStop; repeat' split
  any_goals rfl
  exact s.halt_queueCore

theorem decideQueryStatus_queueCore (payload : List Byte) (s : State) :
    (decideQueryStatus payload s).state.queueCore = s.queueCore := by
  unfold decideQueryStatus; split <;> rfl

theorem decideWake_queueCore (role : Role) (payload : Payload Unit) (s : State) :
    (decideWake role payload s).state.queueCore = s.queueCore := by
  have hrestart : s.restartIdle.queueCore = s.queueCore := by
    unfold State.restartIdle; split <;> rfl
  unfold decideWake; repeat' split
  any_goals rfl
  exact hrestart

theorem decideSetParam_queueCore (role : Role) (payload : Payload ScannerParamArgs) (s : State) :
    (decideSetParam role payload s).state.queueCore = s.queueCore := by
  unfold decideSetParam; repeat' split
  any_goals rfl
  exact s.storeScanner_queueCore _ _

theorem decideSetParamLaser_queueCore (role : Role) (payload : Payload LaserParamArgs) (s : State) :
    (decideSetParamLaser role payload s).state.queueCore = s.queueCore := by
  unfold decideSetParamLaser; dsimp only; repeat' split
  all_goals rfl

theorem decideScannerReset_queueCore (role : Role) (payload : Payload Unit) (s : State) :
    (decideScannerReset role payload s).state.queueCore = s.queueCore := by
  unfold decideScannerReset; repeat' split
  any_goals rfl
  exact State.wakeIfDue_queueCore _

theorem decideLaserReset_queueCore (role : Role) (payload : Payload (Coded LaserTarget)) (s : State) :
    (decideLaserReset role payload s).state.queueCore = s.queueCore := by
  unfold decideLaserReset; repeat' split
  all_goals rfl

theorem decideQueryScanner_queueCore (payload : Payload Unit) (s : State) :
    (decideQueryScanner payload s).state.queueCore = s.queueCore := by
  cases payload <;> rfl

/-! ### Decisions that may start or remove an entry -/

theorem decideNamed_queueSound {α : Type} {s : State} (h : s.queueSound) (sender : Addr)
    (submitter : α → Option Nat) (payload : NamedPayload α Nat) (take : α → Nat → Decision)
    (htake : ∀ a n, (take a n).state.queueSound) : (decideNamed sender submitter payload take s).state.queueSound := by
  unfold decideNamed; dsimp only; repeat' split
  any_goals exact h
  exact htake _ _

theorem decideCancel_queueSound {s : State} (h : s.queueSound) (sender : Addr)
    (payload : NamedPayload CancelArgs Nat) : (decideCancel sender payload s).state.queueSound := by
  refine decideNamed_queueSound h _ _ _ _ fun a n => ?_
  split
  · exact h
  next e _ =>
    split
    · exact State.settle_queueSound s (State.cancelEntry_queueSound h e)
    · exact h

theorem decideFlush_queueSound {s : State} (h : s.queueSound) (sender : Addr)
    (payload : NamedPayload (Option Nat) Nat) : (decideFlush sender payload s).state.queueSound :=
  decideNamed_queueSound h _ _ _ _ fun _ n =>
    State.settle_queueSound s (State.cancelAll_queueSound (keysOf s.fq.entries n) h)

theorem decideRelease_queueSound {s : State} (h : s.queueSound) (role : Role) (payload : Payload Unit) :
    (decideRelease role payload s).state.queueSound := by
  unfold decideRelease; repeat' split
  any_goals exact h
  exact State.settle_queueSound s (State.queueSound_of_core h (s.withFq_queueCore _ rfl))

theorem decidePosition_queueSound {s : State} (h : s.queueSound) (q : Nat) :
    (decidePosition q s).state.queueSound := by
  unfold decidePosition
  split
  · exact h
  · split
    · exact h
    · exact State.settle_queueSound s
        (State.queueSound_of_core h ((State.withGc_queueCore ..).trans (State.appendUnknown_queueCore ..)))

theorem decideGateReady_queueSound {s : State} (h : s.queueSound) (role : Role) (payload : Payload Nat) :
    (decideGateReady role payload s).state.queueSound := by
  unfold decideGateReady; repeat' split
  any_goals exact h
  all_goals exact decidePosition_queueSound h _

theorem decideRecorderReset_queueSound {s : State} (h : s.queueSound) (role : Role) (payload : Payload Unit) :
    (decideRecorderReset role payload s).state.queueSound := by
  unfold decideRecorderReset; repeat' split
  any_goals exact h
  exact State.recorderReset_queueSound h

theorem decideResume_queueSound {s : State} (h : s.queueSound) (role : Role) (payload : Payload Unit) :
    (decideResume role payload s).state.queueSound := by
  have hresume : s.resume.queueSound := by
    unfold State.resume
    split
    · exact State.settle_queueSound s (State.queueSound_of_core h (State.wakeIfDue_queueCore _))
    · exact h
  unfold decideResume; repeat' split
  any_goals exact h
  exact hresume

/-- Whatever an owning block decides of a message keeps the queue's invariants. -/
theorem decisionOf_queueSound {c : Instr} {d : State → Decision} (hd : decisionOf c = some d) {s : State}
    (h : s.queueSound) : (d s).state.queueSound := by
  cases c <;> cases hd
  case bindAttn => exact State.queueSound_of_core h (decideBindAttn_queueCore ..)
  case unbind => exact State.queueSound_of_core h (decideUnbind_queueCore ..)
  case setMask | ackEvents | forceEvent => exact State.queueSound_of_core h (decideOwner_queueCore ..)
  case readEvents => exact State.queueSound_of_core h (decideReadEvents_queueCore ..)
  case beginSet => exact decideBeginSet_queueSound h _ _
  case writeTable => exact decideWriteTable_queueSound h _ _
  case publishSet => exact decidePublishSet_queueSound h _ _
  case freeSet => exact decideFreeSet_queueSound h _ _
  case setTrim => exact decideSetTrim_queueSound h _ _
  case readTable => exact State.queueSound_of_core h (decideReadTable_queueCore ..)
  case querySet => exact State.queueSound_of_core h (decideQuerySet_queueCore ..)
  case writeOptics => exact State.queueSound_of_core h (decideWriteOptics_queueCore ..)
  case readOptics => exact State.queueSound_of_core h (decideReadOptics_queueCore ..)
  case magLoad => exact State.queueSound_of_core h (decideMagLoad_queueCore ..)
  case magUnload => exact State.queueSound_of_core h (decideMagUnload_queueCore ..)
  case gateReady => exact decideGateReady_queueSound h _ _
  case gateFault => exact State.queueSound_of_core h (decideGateFault_queueCore ..)
  case abortFrame => exact State.queueSound_of_core h (decideAbortFrame_queueCore ..)
  case readMap => exact State.queueSound_of_core h (decideReadMap_queueCore ..)
  case submitStored =>
    refine decideSubmit_queueSound h _ _ _ fun f hf => ?_
    obtain ⟨a, -, rfl⟩ := Option.map_eq_some_iff.mp hf
    exact storedSubmission_proper a
  case submitFlat =>
    refine decideSubmit_queueSound h _ _ _ fun f hf => ?_
    obtain ⟨a, -, rfl⟩ := Option.map_eq_some_iff.mp hf
    exact flatSubmission_proper a
  case submitRunout =>
    refine decideSubmit_queueSound h _ _ _ fun f hf => ?_
    obtain ⟨a, -, rfl⟩ := Option.map_eq_some_iff.mp hf
    exact runoutSubmission_proper a
  case cancel => exact decideCancel_queueSound h _ _
  case flush => exact decideFlush_queueSound h _ _
  case hold => exact State.queueSound_of_core h (decideHold_queueCore ..)
  case release => exact decideRelease_queueSound h _ _
  case queryEntry => exact State.queueSound_of_core h (decideQueryEntry_queueCore ..)
  case queryStrips => exact State.queueSound_of_core h (decideQueryStrips_queueCore ..)
  case queryQueue | queryMemory | queryReader | queryPipeline | queryLaser =>
    exact State.queueSound_of_core h (query_queueCore ..)
  case eStop => exact State.queueSound_of_core h (decideEStop_queueCore ..)
  case recorderReset => exact decideRecorderReset_queueSound h _ _
  case queryStatus => exact State.queueSound_of_core h (decideQueryStatus_queueCore ..)
  case resume => exact decideResume_queueSound h _ _
  case wake => exact State.queueSound_of_core h (decideWake_queueCore ..)
  case setParam => exact State.queueSound_of_core h (decideSetParam_queueCore ..)
  case setParamLaser => exact State.queueSound_of_core h (decideSetParamLaser_queueCore ..)
  case scannerReset => exact State.queueSound_of_core h (decideScannerReset_queueCore ..)
  case laserReset => exact State.queueSound_of_core h (decideLaserReset_queueCore ..)
  case queryScanner => exact State.queueSound_of_core h (decideQueryScanner_queueCore ..)
  case unknownKindMessage => exact h

/-! ### Commands -/

/-- Reception adds only the reply to what the decision makes of the state. -/
theorem onMessage_queueSound {c : Instr} {a : Addr} {k : Byte} {d : State → Decision} {s t : State}
    (h : s.queueSound) (hd : (d s).state.queueSound) (ht : onMessage c a k d s = .next t) : t.queueSound := by
  unfold onMessage at ht
  split at ht
  · split at ht <;> cases ht
    · exact State.queueSound_of_core hd rfl
    · exact h
  · cases ht; exact h

theorem whenRunning_queueSound {f : State → State} {s t : State} (h : s.queueSound) (hf : (f s).queueSound)
    (ht : whenRunning f s = .next t) : t.queueSound := by
  unfold whenRunning at ht
  split at ht <;> cases ht
  · exact h
  · exact hf

/-- A message addressed to the part keeps the queue's invariants. -/
theorem exec_message_queueSound {c : Instr} {a : Addr} (ha : c.sender? = some a) {s t : State} (h : s.queueSound)
    (ht : exec c s = .next t) : t.queueSound := by
  obtain ⟨k, d, hk, hd⟩ := decisionOf_isSome c a ha
  by_cases hu : ∃ b code, c = .unknownKindMessage b code ∧ kindCodes.contains code = true
  · obtain ⟨b, code, rfl, hcode⟩ := hu
    simp only [exec, execUnknownKindMessage, hcode, if_true, Host.Outcome.next.injEq] at ht
    exact ht ▸ h
  · rw [exec_message c a k d s ha hk hd fun b code hc => by simpa using fun hcode => hu ⟨b, code, hc, hcode⟩] at ht
    exact onMessage_queueSound h (decisionOf_queueSound hd h) ht

theorem State.stagingReadDone_queueSound {s : State} (h : s.queueSound) : s.stagingReadDone.queueSound := by
  unfold State.stagingReadDone
  split
  · exact State.settle_queueSound s (State.walk_queueSound (State.queueSound_of_core h s.freeChannel_queueCore) _ _)
  · exact h

theorem State.fetchBytes_queueCore (s : State) (e : Entry) (f : LineFetch) (bytes : List Byte) :
    (s.fetchBytes e f bytes).queueCore = s.queueCore := by
  unfold State.fetchBytes State.handOver; dsimp only; repeat' split
  all_goals simp

theorem State.fetchReadDone_queueSound {s : State} (h : s.queueSound) : s.fetchReadDone.queueSound := by
  unfold State.fetchReadDone
  split
  · exact State.settle_queueSound s
      (State.queueSound_of_core h ((State.fetchBytes_queueCore ..).trans s.freeChannel_queueCore))
  · exact h

theorem State.markingDone_queueSound {s : State} (h : s.queueSound) : s.markingDone.queueSound := by
  have hfreed : s.freeChannel.queueSound := State.queueSound_of_core h s.freeChannel_queueCore
  unfold State.markingDone
  split
  · refine State.settle_queueSound s ?_
    split
    · exact State.endWriteBack_queueSound hfreed
    · exact hfreed
  · exact h

theorem State.lineDone_queueSound {s : State} (h : s.queueSound) : s.lineDone.queueSound := by
  unfold State.lineDone
  split
  · exact h
  · split
    · split
      · exact State.settle_queueSound s (State.queueSound_of_core h (State.mapExposure_queueCore ..))
      · exact h
    · exact h

theorem State.takeWrite_queueCore (s : State) (offset : Nat) (bytes : List Byte) :
    (s.takeWrite offset bytes).queueCore = s.queueCore := by
  unfold State.takeWrite; split <;> rfl

theorem State.takeRead_queueCore (s : State) (offset length records : Nat) :
    (s.takeRead offset length records).queueCore = s.queueCore := by
  unfold State.takeRead State.serveWaiting; dsimp only; repeat' split
  all_goals rfl

theorem State.takeBroadcast_queueCore (s : State) (sender : Addr) (kind : Byte) :
    (s.takeBroadcast sender kind).queueCore = s.queueCore := by
  unfold State.takeBroadcast; split <;> simp

theorem State.afterHardReset_queueSound (s1 s0 estopLow : Bool) (epoch lstep free : Nat) (pending : List Instr) :
    (State.afterHardReset s1 s0 estopLow epoch lstep free pending).queueSound := by
  have hunused : ∀ id < 8, ((State.afterHardReset s1 s0 estopLow epoch lstep free pending).queueCore.setAt id).useCount
      = 0 := by
    intro id hid
    simp [QueueCore.setAt, State.queueCore, State.afterHardReset, hid, SetRecord.afterReset]
  refine ⟨by simp [State.queueCore, State.afterHardReset, FrameQueue.afterReset], List.nodup_nil,
    fun id hid => (hunused id hid).trans rfl, fun id hid hlt => ?_, fun c hc => (nomatch hc), fun k hk => ?_,
    fun k ha => (nomatch ha)⟩
  · rw [hunused id hid] at hlt; omega
  · rcases hk with hk | hk <;> cases hk

/-- A command that is no message addressed to the part keeps the queue's invariants. -/
theorem exec_event_queueSound {c : Instr} (hc : c.sender? = none) {s t : State} (h : s.queueSound)
    (ht : exec c s = .next t) : t.queueSound := by
  have kept (u : State) (hu : u.queueCore = s.queueCore) : u.queueSound := State.queueSound_of_core h hu
  cases c <;> simp only [Instr.sender?, reduceCtorEq] at hc
  case broadcastMessage sender kind =>
    simp only [exec, execBroadcastMessage] at ht
    split at ht
    · split at ht <;> cases ht
      · exact kept _ (s.takeBroadcast_queueCore sender kind)
      · exact h
    · cases ht; exact h
  case frameDiscard frame => simp only [exec, execFrameDiscard] at ht; split at ht <;> cases ht <;> exact h
  case frameIgnored a b => simp only [exec, execFrameIgnored] at ht; split at ht <;> cases ht <;> exact h
  case replyCollision => simp only [exec, execReplyCollision] at ht; split at ht <;> cases ht <;> exact h
  case replyEnd => simp only [exec, execReplyEnd] at ht; split at ht <;> cases ht <;> exact h
  case portWrite offset bytes =>
    simp only [exec, execPortWrite] at ht
    split at ht <;> cases ht
    · exact kept _ (s.takeWrite_queueCore _ _)
    · exact h
  case portRead offset request =>
    simp only [exec, execPortRead] at ht
    split at ht <;> cases ht
    · exact kept _ (s.takeRead_queueCore _ _ _)
    · exact h
  case pcieLinkUp => simp only [exec, execPcieLinkUp] at ht; split at ht <;> cases ht <;> exact h
  case deckBusIdle =>
    exact whenRunning_queueSound (f := fun s => s.withDbi { s.dbi with waitIdle := false }) h h ht
  case startOfScanMark ticks samples order =>
    refine whenRunning_queueSound h ?_ ht
    split
    · exact State.takeMark_queueSound h ticks samples order
    · exact h
  case indexPulse => exact whenRunning_queueSound h (kept _ (by split <;> simp)) ht
  case spinUpTimerExpiry =>
    exact whenRunning_queueSound h (kept _ (by split <;> simp [State.scannerFault, State.channelsOff])) ht
  case missingMarkTimerExpiry => exact whenRunning_queueSound h (kept _ (by split <;> simp)) ht
  case idleTimerExpiry => exact whenRunning_queueSound h (kept _ (by split <;> simp [State.standby])) ht
  case estopNAsserted =>
    simp only [exec, execEstopNAsserted] at ht
    split at ht <;> cases ht
    · exact h
    · exact kept _ (State.halt_queueCore _)
  case estopNDeasserted => cases ht; exact h
  case hardReset =>
    cases ht
    exact kept _ (by simp [State.silenceBus, State.endOperations])
  case hardResetEnd s1 s0 => cases ht; exact State.afterHardReset_queueSound ..
  case stagingRead => exact whenRunning_queueSound h (State.stagingReadDone_queueSound h) ht
  case lineFetchRead => exact whenRunning_queueSound h (State.fetchReadDone_queueSound h) ht
  case writeBackMarking => exact whenRunning_queueSound h (State.markingDone_queueSound h) ht
  case lineComputed => exact whenRunning_queueSound h (State.lineDone_queueSound h) ht

/-- Every command keeps the queue's invariants. -/
theorem exec_queueSound {c : Instr} {s t : State} (h : s.queueSound) (ht : exec c s = .next t) : t.queueSound := by
  cases hc : c.sender? with
  | some a => exact exec_message_queueSound hc h ht
  | none => exact exec_event_queueSound hc h ht

theorem step_queueSound {s t : State} (h : s.queueSound) (ht : step s = .next t) : t.queueSound := by
  cases hp : s.pending with
  | nil => rw [step_nil s hp] at ht; cases ht; exact h
  | cons c rest =>
    rw [step_cons s c rest hp] at ht
    exact exec_queueSound (s := s.withPending rest) h ht

/-- Settles O54: the four invariants are read from the queue's core, which every command keeps sound. -/
theorem stepKeepsQueueInvariants : Obligations.StepKeepsQueueInvariants := fun s t h ht =>
  (State.queueSound_iff t).mp (step_queueSound ((State.queueSound_iff s).mpr h) ht)

end Sys2Proof.Machine
end

section
/-! ## Hard reset, queries, refusals of a submission -/

namespace Sys2Proof.Machine
/-! ### Hard reset -/

/-- Settles O3: the state HARD_RESET_END leaves is written out in State.afterHardReset; only the vectors of sets and
attention lines and the channel triples are read by index. -/
theorem hardResetEndGivesResetValues : Obligations.HardResetEndGivesResetValues := fun s1 s0 s =>
  ⟨State.afterHardReset s1 s0 s.pins.estopLow (s.fmc.epoch + 1) s.pins.lstep s.free s.pending, rfl,
    rfl, rfl, rfl, rfl, fun id => by simp [State.afterHardReset, SetRecord.afterReset],
    rfl, rfl, rfl, rfl, rfl, rfl, rfl, rfl, rfl, rfl, rfl, rfl, rfl, fun c => by cases c <;> rfl, rfl, rfl,
    fun n => by simp [State.afterHardReset, AttentionLine.afterReset], rfl, rfl, rfl⟩

/-- Settles O4: the queue's invariants are those of every hard reset; the others speak of an exposure, a turning scanner
or a frame in the gate, and there is none. -/
theorem resetStateHasInvariants : Obligations.ResetStateHasInvariants := by
  obtain ⟨hbounded, hcounts, htables, hpins⟩ :=
    (State.queueSound_iff State.reset).mp (State.afterHardReset_queueSound false false false 0 0 0 [])
  have hexposure : State.reset.exposure? = none := rfl
  have hposition : State.reset.gatePosition? = none := rfl
  refine ⟨fun s hestop hpending => ?_, rfl, rfl, fun hgate => absurd rfl hgate, ?_, hbounded, hcounts, htables, hpins,
    ⟨⟨by decide, by decide⟩, fun f hf => (nomatch hf)⟩, fun _ c => by cases c <;> rfl, fun hx => (nomatch hx), ?_, ?_, ?_,
    ?_, rfl, rfl⟩
  · simp only [exec, execHardResetEnd, hestop, hpending]
    rfl
  · unfold State.drivesLimited
    rw [hexposure]
    intro c
    cases c <;> rfl
  · exact fun x hx => absurd (hexposure.symm.trans hx) nofun
  · exact fun _ x hx => absurd (hexposure.symm.trans hx) nofun
  · exact fun hdue => nomatch hdue.1
  · exact fun q hq => absurd (hposition.symm.trans hq) nofun

/-! ### Queries -/

/-- A decision that leaves the state as it is, but for the model's free-value counter. -/
def Decision.changesOnlyFree (d : Decision) (s : State) (n : Nat) : Prop := d.state = { s with free := n }

theorem Decision.replied_of_free {d : Decision} {s : State} {n : Nat} (h : d.changesOnlyFree s n) (c : Instr) (a : Addr)
    (k : Byte) : d.replied c a k = State.replying { s with free := n } c a k d.status d.data := by
  unfold Decision.replied State.replying
  rw [show d.state = { s with free := n } from h]

/-- What the owner of a query decides leaves the state; QUERY_SCANNER moves the free-value counter on. -/
theorem decisionOf_query {c : Instr} {d : State → Decision} (hq : c.isQuery = true) (hd : decisionOf c = some d)
    (s : State) : ∃ n, (d s).changesOnlyFree s n ∧ (n = s.free ∨ ∃ a p, c = .queryScanner a p ∧ n = s.free + 1) := by
  have stands (hs : (d s).state = s) : ∃ n, (d s).changesOnlyFree s n ∧
      (n = s.free ∨ ∃ a p, c = .queryScanner a p ∧ n = s.free + 1) := ⟨s.free, hs, .inl rfl⟩
  cases c <;> simp only [Instr.isQuery, Bool.false_eq_true] at hq <;> cases hd
  case queryScanner a p =>
    cases p with
    | fits _ => exact ⟨s.free + 1, rfl, .inr ⟨a, _, rfl, rfl⟩⟩
    | misfit => exact stands rfl
  case queryQueue p | queryMemory p | queryReader p | queryPipeline p | queryLaser p =>
    exact stands (by cases p <;> rfl)
  case queryStatus => exact stands (by unfold decideQueryStatus; split <;> rfl)
  case queryEntry => exact stands (by unfold decideQueryEntry; repeat' split
                                      all_goals rfl)
  case queryStrips => exact stands (by unfold decideQueryStrips decideStripsOf; repeat' split
                                       all_goals rfl)
  case readTable => exact stands (by unfold decideReadTable; repeat' split
                                     all_goals rfl)
  case querySet => exact stands (by unfold decideQuerySet; repeat' split
                                    all_goals rfl)
  case readOptics => exact stands (by unfold decideReadOptics; repeat' split
                                      all_goals rfl)
  case readMap => exact stands (by unfold decideReadMap; repeat' split
                                   all_goals rfl)
  case readEvents => exact stands (by unfold decideReadEvents; split <;> rfl)

/-- A message that is taken is answered with its owner's decision. -/
theorem exec_taken {c : Instr} {a : Addr} {k : Byte} {d : State → Decision} {s : State} (ha : c.sender? = some a)
    (hk : c.kind? = some k) (hd : decisionOf c = some d) (hu : ∀ b code, c ≠ .unknownKindMessage b code)
    (h : s.takes a = true) : exec c s = .next ((d s).replied c a k) := by
  rw [exec_message c a k d s ha hk hd fun b code hc => absurd hc (hu b code), onMessage_taken c a k d s h]

/-- Settles O13: every query's decision leaves the state, and reception adds the reply. -/
theorem queriesChangeNothing : Obligations.QueriesChangeNothing := by
  intro c a k s ha hk hq htakes
  obtain ⟨k', d, hk', hd⟩ := decisionOf_isSome c a ha
  obtain rfl : k' = k := Option.some.inj (hk'.symm.trans hk)
  obtain ⟨n, hfree, hn⟩ := decisionOf_query hq hd s
  refine ⟨(d s).status, (d s).data, n, ?_, hn.imp id fun ⟨b, p, hc, hm⟩ => ⟨p, ?_, hm⟩⟩
  · rw [exec_taken ha hk hd (fun b code hc => by simp [hc, Instr.isQuery] at hq) htakes,
      Decision.replied_of_free hfree]
  · subst hc
    obtain rfl : b = a := Option.some.inj ha
    rfl

theorem Rgb.get_map {α β : Type} (f : α → β) (v : Rgb α) (c : Channel) : (v.map f).get c = f (v.get c) := by
  cases c <;> rfl

/-- The seconds left on a timer that runs are no more than its full period. -/
theorem Timer.left_running (full n : Nat) : ∃ m ≤ full, (Timer.running full).left n = some m :=
  ⟨_, Nat.min_le_right _ _, rfl⟩

/-- Settles O14: each reply is built of the block's own fields. -/
theorem stateQueriesAnswer : Obligations.StateQueriesAnswer := by
  intro a s htakes
  refine ⟨onMessage_taken _ _ _ _ s htakes, onMessage_taken _ _ _ _ s htakes,
    ⟨s.readerReply, onMessage_taken _ _ _ _ s htakes, rfl, rfl, rfl, rfl⟩, onMessage_taken _ _ _ _ s htakes,
    ⟨s.lcu.map LaserUnit.report, onMessage_taken _ _ _ _ s htakes, fun c => ?_⟩,
    ⟨s.scannerReply, onMessage_taken _ _ _ _ s htakes, rfl, rfl, rfl, rfl, rfl, rfl, ?_, ?_, ?_, ?_, ?_, ?_, rfl⟩⟩
  · rw [Rgb.get_map]
    generalize s.lcu.get c = u
    refine ⟨rfl, rfl, rfl, ?_, rfl, rfl, rfl, fun hstate => ?_, fun hstate => ?_⟩
    · cases hm : u.lastSample <;> simp [LaserUnit.report, absentWord16, hm]
    · simp [LaserUnit.report, absentWord16, hstate]
    · simp [LaserUnit.report, absentWord16, hstate, powerGain]
  · cases hp : s.stu.lastPeriod <;> simp [State.scannerReply, absentWord32, hp]
  · simp [State.scannerReply]
  · intro full hfull
    simpa only [State.scannerReply, hfull] using Timer.left_running full _
  · intro hstopped
    simp [State.scannerReply, hstopped, Timer.left]
  · intro full hfull
    simpa only [State.scannerReply, hfull] using Timer.left_running full _
  · intro hstopped
    simp [State.scannerReply, hstopped, Timer.left]

/-! ### QUERY_ENTRY and QUERY_STRIPS -/

/-- In a list whose keys differ the entry at a position is the one its key finds, and that is its position. -/
theorem positionOf_of_getElem {es : List Entry} (hd : (es.map Entry.key).Nodup) {p : Nat} {e : Entry}
    (he : es[p]? = some e) : findEntry es e.key = some e ∧ positionOf es e.key = some p := by
  induction es generalizing p with
  | nil => simp at he
  | cons x xs ih =>
    obtain ⟨hx, hxs⟩ := List.nodup_cons.mp hd
    cases p with
    | zero =>
      obtain rfl : x = e := Option.some.inj he
      simp [findEntry, positionOf]
    | succ p =>
      have htail : xs[p]? = some e := by simpa using he
      have hne : x.key ≠ e.key := fun heq => hx (heq ▸ List.mem_map_of_mem (List.mem_of_getElem? htail))
      obtain ⟨hfind, hpos⟩ := ih hxs htail
      exact ⟨by simpa [findEntry, hne] using hfind, by simp [positionOf, hne, hpos]⟩

theorem entryReply_eq (p : Nat) (e : Entry) : entryReply p e = .entry p
    { e with body := (match e.body with
      | .stored i q => .stored i { q with stripMap := none }
      | .flat i values => .flat i values
      | .runout n => .runout n) }
    (match e.body with
      | .stored _ q => q.stripMap.map List.length
      | .flat _ _ => none
      | .runout _ => none) := by
  rcases e with ⟨n, k, st, ⟨i, q⟩ | ⟨i, v⟩ | m⟩ <;> rfl

theorem decideQueryEntry_position {s : State} {p : Nat} {e : Entry} (he : s.fq.entries[p]? = some e) :
    decideQueryEntry (.fits (.position p)) s = accept s (entryReply p e) := by
  simp [decideQueryEntry, he]

/-- Settles O15: both queries are decided by a look-up in the list. -/
theorem entryQueriesAnswer : Obligations.EntryQueriesAnswer := by
  refine ⟨fun a s htakes => ⟨fun p hp => ?_, fun n tag hnone => ?_, fun p e he => ?_, fun p e hb he => ?_⟩,
    fun a q s htakes => ⟨fun hnone => ?_, fun e he => ⟨fun hmap => ?_, fun items hmap => ⟨fun hle => ?_, fun hlt => ?_⟩⟩⟩⟩
  · refine (onMessage_taken _ _ _ _ s htakes).trans ?_
    simp [decideQueryEntry, List.getElem?_eq_none hp, refuse_replied]
  · refine (onMessage_taken _ _ _ _ s htakes).trans ?_
    simp [decideQueryEntry, findEntry_eq_none.mpr hnone, refuse_replied]
  · refine ⟨_, _, (onMessage_taken _ _ _ _ s htakes).trans ?_, rfl, rfl⟩
    rw [decideQueryEntry_position he, entryReply_eq]
    rfl
  · obtain ⟨hfind, hpos⟩ := positionOf_of_getElem hb.2 he
    refine ⟨e.mapStored fun q => { q with stripMap := none }, e.itemCount,
      (onMessage_taken _ _ _ _ s htakes).trans ?_, (onMessage_taken _ _ _ _ s htakes).trans ?_⟩
    · rw [decideQueryEntry_position he]; rfl
    · have hkey : decideQueryEntry (.fits (.key e.key.submitter e.key.tag)) s = accept s (entryReply p e) := by
        simp only [decideQueryEntry, hfind, hpos]
      rw [hkey]; rfl
  · refine (onMessage_taken _ _ _ _ s htakes).trans ?_
    simp [decideQueryStrips, decideStripsOf, findEntry_eq_none.mpr hnone, refuse_replied]
  · refine (onMessage_taken _ _ _ _ s htakes).trans ?_
    simp [decideQueryStrips, decideStripsOf, he, hmap, refuse_replied]
  · refine (onMessage_taken _ _ _ _ s htakes).trans ?_
    simp [decideQueryStrips, decideStripsOf, he, hmap, hle, refuse_replied]
  · refine (onMessage_taken _ _ _ _ s htakes).trans ?_
    simp [decideQueryStrips, decideStripsOf, he, hmap, Nat.not_le.mpr hlt]
    rfl

end Sys2Proof.Machine
end

section
/-! ## Submissions decided -/

namespace Sys2Proof.Machine

/-- A submission from a role that may send it is decided by the tests after ROLE. -/
theorem exec_submission {c : Instr} {a : Addr} {k : Byte} {roles : List Role} {f : Submission} {s : State}
    (ha : c.sender? = some a) (hk : c.kind? = some k) (hroles : c.roles? = some roles) (hrole : roleOf a ∈ roles)
    (hf : submissionOf c = some f) (htakes : s.takes a = true) :
    exec c s = .next ((decideSubmit true a (some f) s).replied c a k) := by
  cases c <;> simp only [submissionOf, reduceCtorEq] at hf
  all_goals
    cases ha; cases hk; cases hroles
    refine (onMessage_taken _ _ _ _ s htakes).trans ?_
    rw [hf]
    simp only [List.mem_cons, List.not_mem_nil, or_false] at hrole
    simp only [hrole, decide_true]

/-- R6, R5: the tests of Table 1-2 after ROLE, FULL and DUPLICATE, each with what it reads. -/
theorem submissionFailure_eq (s : State) (a : Addr) (f : Submission) : submissionFailure s a f =
    if ∃ e ∈ s.fq.entries, e.key = ⟨a.toNat, f.tag⟩ then some .duplicate
    else if f.valid = false then some .arg
    else if ∃ id, f.set = some id ∧ (s.setAt id).ready? = none then some .set
    else if f.front = true ∧ s.fq.held.any = false then some .state
    else if f.front = true ∧ s.leavingNear s.frontPlace = true then some .busy
    else none := by
  have hdup : (findEntry s.fq.entries ⟨a.toNat, f.tag⟩).isSome = true ↔
      ∃ e ∈ s.fq.entries, e.key = ⟨a.toNat, f.tag⟩ := by
    simp [findEntry]
  have hset : (!s.setReady f.set) = true ↔ ∃ id, f.set = some id ∧ (s.setAt id).ready? = none := by
    cases f.set <;> simp [State.setReady]
  unfold submissionFailure
  simp only [hdup, hset, Bool.and_eq_true, Bool.not_eq_true']

theorem decideSubmit_full {s : State} {a : Addr} {f : Submission} (h : 64 ≤ s.fq.entries.length) :
    decideSubmit true a (some f) s = refuse s .full := by
  simp [decideSubmit, Config.queueCapacity, h]

theorem decideSubmit_fails {s : State} {a : Addr} {f : Submission} {st : Status} (h : ¬ 64 ≤ s.fq.entries.length)
    (hf : submissionFailure s a f = some st) : decideSubmit true a (some f) s = refuse s st := by
  simp [decideSubmit, Config.queueCapacity, h, hf]

theorem decideSubmit_passes {s : State} {a : Addr} {f : Submission} (h : ¬ 64 ≤ s.fq.entries.length)
    (hf : submissionFailure s a f = none) : decideSubmit true a (some f) s =
      accept (s.submit a f) (.bytes (beBytes 2 s.fq.serial.toNat ++ beBytes 1 (s.placeOf f.front))) := by
  simp [decideSubmit, Config.queueCapacity, h, hf]

theorem imageValid_iff (set width height repeats : Nat) (lights : Rgb Int) :
    imageValid set width height repeats lights = true ↔
      set ≤ 7 ∧ width % 2 = 0 ∧ 256 ≤ width ∧ width ≤ 4096 ∧ 128 ≤ height ∧ height ≤ 3520 ∧ 1 ≤ repeats ∧
      repeats ≤ 250 ∧ -2048 ≤ lights.r ∧ lights.r ≤ 2047 ∧ -2048 ≤ lights.g ∧ lights.g ≤ 2047 ∧ -2048 ≤ lights.b ∧
      lights.b ≤ 2047 := by
  simp only [imageValid, Bool.and_eq_true, decide_eq_true_eq, and_assoc]

/-- Settles O29: the refusals follow the chain of submissionFailure; the ranges are read off the submissions. -/
theorem submissionRefusals : Obligations.SubmissionRefusals := by
  refine ⟨fun c a k roles f s ha hk hroles hrole hf htakes => ?_, fun a => ?_, fun a => imageValid_iff .., fun a => ?_⟩
  · rw [exec_submission ha hk hroles hrole hf htakes]
    have refused {st : Status} (hfull : ¬ 64 ≤ s.fq.entries.length) (hst : submissionFailure s a f = some st) :
        Host.Outcome.next (ρ := Refusal) (φ := Fault) ((decideSubmit true a (some f) s).replied c a k) =
          .next (s.replying c a k st .none) := by
      rw [decideSubmit_fails hfull hst, refuse_replied]
    rw [submissionFailure_eq] at refused
    refine ⟨fun hfull => by rw [decideSubmit_full hfull, refuse_replied], fun hfull hdup => refused hfull ?_,
      fun hfull hdup hv => refused hfull ?_, fun hfull hdup hv hset => refused hfull ?_,
      fun hfull hdup hv hset hfront hheld => refused hfull ?_,
      fun hfull hdup hv hset hfront hheld hnear => refused hfull ?_⟩
    · rw [if_pos hdup]
    · rw [if_neg hdup, if_pos hv]
    · rw [if_neg hdup, if_neg (by simp [hv]), if_pos hset]
    · rw [if_neg hdup, if_neg (by simp [hv]), if_neg hset, if_pos ⟨hfront, hheld⟩]
    · rw [if_neg hdup, if_neg (by simp [hv]), if_neg hset, if_neg (by simp [hheld]), if_pos ⟨hfront, hnear⟩]
  · simp only [storedSubmission, Bool.and_eq_true, imageValid_iff, decide_eq_true_eq, and_assoc]
  · simp only [runoutSubmission, decide_eq_true_eq]

end Sys2Proof.Machine
end

section
/-! ## The end of an event at which no start is taken -/

namespace Sys2Proof.Machine
/-! ### Starts -/

theorem State.frameReady_eq (s : State) : s.frameReady = (s.gateReady && !s.gc.halted && !s.fq.held.any &&
    s.headIsFrame && s.isLocked && s.lasersReady) := by
  simp [State.frameReady, State.startConditions, Bool.and_assoc]

/-- No start is due: the conditions of neither kind all hold (R156, R159). -/
def State.startless (s : State) : Prop := s.frameReady = false ∧ s.runoutReady = false

theorem State.startless_of_noStart {s : State} (h : s.noStart = true) : s.startless := by
  simp only [State.noStart, Bool.or_eq_true, Bool.not_eq_true'] at h
  rcases h with h | h <;> simp [State.startless, State.frameReady_eq, State.runoutReady, h]

theorem State.startless_of_head {s : State} (hr : s.headIsRunout = false)
    (hf : s.headIsFrame = false ∨ s.isLocked = false ∨ s.lasersReady = false) : s.startless := by
  refine ⟨?_, by simp [State.runoutReady, hr]⟩
  rcases hf with hf | hf | hf <;> simp [State.frameReady_eq, hf]

/-- An event that makes no start due and writes no record ends with what the part then goes on to do. -/
theorem State.settle_of_startless {b s : State} (h : s.startless) (hport : s.port = b.port) :
    State.settle b s = s.quiesce := by
  obtain ⟨hf, hr⟩ := h
  simp [State.settle, State.startIfDue, hf, hr, State.recordsEnd, hport]

/-! ### What quiesce may change -/

theorem State.mapExposure_shape (s : State) (f : Exposure → Exposure) : ∃ g,
    s.mapExposure f = { s with gc := { s.gc with gate := g } } := by
  unfold State.mapExposure
  cases s.gc.gate with
  | exposing x => exact ⟨_, rfl⟩
  | noFilm | advancing | ready | filmOut | fault => exact ⟨s.gc.gate, rfl⟩

/-- R68: a line that begins touches the gate's exposure, the line fetch and the channel. -/
theorem State.beginLine_shape (s : State) : ∃ g f c,
    s.beginLine = { s with gc := { s.gc with gate := g }, sr := { s.sr with fetch := f, channel := c } } := by
  unfold State.beginLine
  repeat' split
  next x _ _ _ _ _ i p _ =>
    obtain ⟨g, hg⟩ := s.mapExposure_shape (·.begin .fetching)
    rw [hg]
    exact ⟨g, _, _, rfl⟩
  next v _ =>
    obtain ⟨g, hg⟩ := s.mapExposure_shape (·.begin (.computing (flatSource v)))
    rw [hg]
    exact ⟨g, _, _, rfl⟩
  all_goals exact ⟨s.gc.gate, s.sr.fetch, s.sr.channel, rfl⟩

theorem State.updateIdle_shape (s : State) : ∃ i, s.updateIdle = { s with stu := { s.stu with idle := i } } := by
  unfold State.updateIdle
  repeat' split
  next => exact ⟨s.stu.idle, rfl⟩
  all_goals exact ⟨_, rfl⟩

theorem State.requestMarking_channelOnly (s : State) : s.channelOnly s.requestMarking := by
  unfold State.requestMarking
  split
  · exact s.channelOnly_refl
  · exact s.withChannel_channelOnly _

/-- R11, R46, R47: the staging context and the pin records after an offer: nothing is offered, or an idle reader takes
up the walk of a STAGING entry, whose table range grows over descriptor 0. -/
def State.walkOffered (s : State) (st : Option Staging) (a b : Option PinRecord) : Prop :=
  (st = s.sr.staging ∧ a = s.fmc.pinA ∧ b = s.fmc.pinB) ∨
  (s.sr.staging = none ∧ ∃ e ∈ s.fq.entries, e.state = .staging ∧ st.map Staging.key = some e.key ∧
    a = changePin e.key (·.extendTable 16) s.fmc.pinA ∧ b = changePin e.key (·.extendTable 16) s.fmc.pinB)

theorem State.offerStaging_shape (s : State) (h : s.tablesInRange) : ∃ st w a b,
    s.offerStaging = { s with
      sr := { s.sr with staging := st, channel := { s.sr.channel with waitStage := w } }
      fmc := { s.fmc with pinA := a, pinB := b } } ∧ s.walkOffered st a b := by
  have stands : ∃ st w a b, s = { s with
      sr := { s.sr with staging := st, channel := { s.sr.channel with waitStage := w } }
      fmc := { s.fmc with pinA := a, pinB := b } } ∧ s.walkOffered st a b :=
    ⟨s.sr.staging, s.sr.channel.waitStage, s.fmc.pinA, s.fmc.pinB, rfl, .inl ⟨rfl, rfl, rfl⟩⟩
  unfold State.offerStaging
  split
  · exact stands
  next hidle =>
    split
    next e he =>
      have hmem : e ∈ s.fq.entries := List.mem_of_find?_eq_some he
      have hstaging : e.state = .staging := by
        have := List.find?_some he
        simp only [Bool.and_eq_true, decide_eq_true_eq] at this
        exact this.1
      split
      next i p hbody =>
        have hrange : ¬ Config.mapBase ≤ p.tableOffset + Config.descriptorSize * 0 := by
          have := h e hmem p (by simp [Entry.stored?, hbody])
          omega
        unfold State.walkToDescriptor newStaging
        rw [if_neg hrange]
        exact ⟨_, _, _, _, rfl, .inr ⟨hidle, e, hmem, hstaging, rfl, rfl, rfl⟩⟩
      all_goals exact stands
    · exact stands

/-- What the end of an event may change: the exposure in the gate, the strip reader but for the write-back list, the
bytes of frame memory, the idle timer, and, by an offered walk, the pins. -/
theorem State.quiesce_shape (s : State) (h : s.tablesInRange) : ∃ g st f p c m a b i,
    s.quiesce = { s with
      gc := { s.gc with gate := g }
      sr := { s.sr with staging := st, fetch := f, wbPos := p, channel := c }
      fmc := { s.fmc with mem := m, pinA := a, pinB := b }
      stu := { s.stu with idle := i } } ∧ s.walkOffered st a b := by
  obtain ⟨g, f, c1, hline⟩ := s.beginLine_shape
  obtain ⟨st, c2, a, b, hoffer, hwalk⟩ := s.beginLine.offerStaging_shape (by rw [hline]; exact h)
  obtain ⟨c3, p, m, hgrant⟩ := State.channelOnly_trans s.beginLine.offerStaging.requestMarking_channelOnly
    s.beginLine.offerStaging.requestMarking.grant_channelOnly
  obtain ⟨i, hidle⟩ := s.beginLine.offerStaging.requestMarking.grant.updateIdle_shape
  refine ⟨g, st, f, p, c3, m, a, b, i, ?_, ?_⟩
  · rw [State.quiesce, hidle, hgrant, hoffer, hline]
  · rw [hline] at hwalk
    exact hwalk

/-! ### HOLD and RELEASE -/

theorem State.settle_dbi (b s : State) : (State.settle b s).dbi = s.dbi := congrArg Prod.fst (State.settle_bus b s)

/-- Settles O31: HOLD adds a reason, which raises QUEUE_HELD when it is new; RELEASE empties the set, and without a start
the end of the event leaves what the statement names. -/
theorem holdAndRelease : Obligations.HoldAndRelease := by
  refine ⟨fun a s htakes => ⟨fun hrole => ?_, fun hrole => ?_⟩, fun a s htakes hrole => ?_⟩
  · refine (onMessage_taken _ _ _ _ s htakes).trans ?_
    rw [decideHold, if_pos hrole, refuse_replied]
  · obtain ⟨au, hadd, hraised⟩ := s.addHeld_spec .operator
    refine ⟨s.addHeld .operator, (onMessage_taken _ _ _ _ s htakes).trans ?_, ?_, hraised⟩
    · simp only [decideHold, hrole, ne_eq, not_true_eq_false, if_false]
      rfl
    · rw [hadd]; rfl
  · have hdecided : decideRelease (roleOf a) (.fits ()) s = accept s.release (.held s.fq.held) := by
      simp [decideRelease, hrole]
    refine ⟨s.release, (onMessage_taken _ _ _ _ s htakes).trans (by rw [hdecided]; rfl), State.settle_dbi _ _,
      fun hquiet htables => ?_⟩
    have hless : (s.withFq { s.fq with held := .empty }).startless := by
      rcases hquiet with hno | ⟨hrunout, hframe⟩
      · exact State.startless_of_noStart hno
      · exact State.startless_of_head hrunout hframe
    obtain ⟨g, st, f, p, c, m, a, b, i, hq, -⟩ := (s.withFq { s.fq with held := .empty }).quiesce_shape htables
    rw [State.release, State.settle_of_startless (b := s) hless rfl, hq]
    exact ⟨rfl, rfl, rfl, rfl, rfl, rfl, rfl, rfl⟩

end Sys2Proof.Machine
end

section
/-! ## A submission that is accepted -/

namespace Sys2Proof.Machine
/-! ### Pin records taken, kept and grown -/

/-- R40: with a free place in the pin table a record that is taken joins those held. -/
theorem State.takePin_holdsPin {s : State} (r : PinRecord) (hfree : s.fmc.pinA = none ∨ s.fmc.pinB = none)
    (q : PinRecord) : (s.takePin r).holdsPin q ↔ s.holdsPin q ∨ q = r := by
  unfold State.takePin State.holdsPin
  rcases ha : s.fmc.pinA with _ | p
  · simp only [State.withFmc_fmc, Option.some.injEq, reduceCtorEq, false_or]
    rw [or_comm, eq_comm (a := r)]
  · rcases hb : s.fmc.pinB with _ | p'
    · simp only [State.withFmc_fmc, ha, Option.some.injEq, reduceCtorEq, or_false]
      rw [eq_comm (a := r)]
    · simp [ha, hb] at hfree

theorem State.takePin_shape (s : State) (r : PinRecord) : ∃ a b,
    s.takePin r = { s with fmc := { s.fmc with pinA := a, pinB := b } } := by
  unfold State.takePin
  split
  · exact ⟨_, _, rfl⟩
  · exact ⟨_, _, rfl⟩
  · exact ⟨s.fmc.pinA, s.fmc.pinB, rfl⟩

theorem changePin_eq_some {k : Key} {f : PinRecord → PinRecord} {r : Option PinRecord} {q : PinRecord} :
    changePin k f r = some q ↔ ∃ p, r = some p ∧ (if p.key = k then f p else p) = q := by
  simp [changePin]

/-- The pin records and the staging context of the second state are those an offer makes of the first (R11, R47). -/
def State.offeredFrom (s u : State) : Prop := s.walkOffered u.sr.staging u.fmc.pinA u.fmc.pinB

/-- R47: every record held after an offer comes from one of its key that was held before. -/
theorem State.offeredFrom_source {s u : State} (h : s.offeredFrom u) {q : PinRecord} (hq : u.holdsPin q) :
    ∃ p, s.holdsPin p ∧ q.key = p.key := by
  have grown {k : Key} {r : Option PinRecord} (hr : changePin k (·.extendTable 16) r = some q) :
      ∃ p, r = some p ∧ q.key = p.key := by
    obtain ⟨p, rfl, rfl⟩ := changePin_eq_some.mp hr
    exact ⟨p, rfl, by split <;> rfl⟩
  rcases h with ⟨-, ha, hb⟩ | ⟨-, e, -, -, -, ha, hb⟩
  · exact ⟨q, hq.imp (ha ▸ ·) (hb ▸ ·), rfl⟩
  · rcases hq with hq | hq
    · obtain ⟨p, hp, hk⟩ := grown (ha ▸ hq)
      exact ⟨p, .inl hp, hk⟩
    · obtain ⟨p, hp, hk⟩ := grown (hb ▸ hq)
      exact ⟨p, .inr hp, hk⟩

/-- R40, R47: a record held before an offer is held after it, its table range grown to 16 bytes when the walk of its
entry begins. -/
theorem State.offeredFrom_held {s u : State} (h : s.offeredFrom u) {p : PinRecord} (hp : s.holdsPin p) :
    u.holdsPin (if s.sr.staging = none ∧ u.sr.staging.map Staging.key = some p.key then p.extendTable 16 else p) := by
  rcases h with ⟨hst, ha, hb⟩ | ⟨hidle, e, -, -, hst, ha, hb⟩
  · rw [if_neg fun hc => by rw [hst, hc.1] at hc; exact nomatch hc.2]
    exact hp.imp (ha ▸ ·) (hb ▸ ·)
  · have hgrown : (if p.key = e.key then p.extendTable 16 else p) =
        if s.sr.staging = none ∧ u.sr.staging.map Staging.key = some p.key then p.extendTable 16 else p := by
      simp only [hidle, hst, true_and, Option.some.injEq, eq_comm (a := e.key)]
    exact hp.imp (fun hA => ha.trans (changePin_eq_some.mpr ⟨p, hA, hgrown⟩))
      fun hB => hb.trans (changePin_eq_some.mpr ⟨p, hB, hgrown⟩)

/-- R40: a record just taken is fresh, or has grown over descriptor 0 when the walk of its entry began. -/
theorem State.offeredFrom_fresh {s u : State} (h : s.offeredFrom u) {e : Entry} {p : StoredPart}
    (hheld : s.holdsPin (freshPin e p)) (hst : s.sr.staging.map Staging.key ≠ some e.key) : u.holdsFreshPin e p := by
  have hu := State.offeredFrom_held h hheld
  unfold State.holdsFreshPin
  have hkey : (freshPin e p).key = e.key := rfl
  by_cases hbegun : u.sr.staging.map Staging.key = some e.key
  · have hidle : s.sr.staging = none := by
      rcases h with ⟨hsame, -, -⟩ | ⟨hidle, -⟩
      · exact absurd (hsame ▸ hbegun) hst
      · exact hidle
    rw [hkey, if_pos ⟨hidle, hbegun⟩] at hu
    rwa [if_pos hbegun]
  · rw [hkey, if_neg fun hc => hbegun hc.2] at hu
    rwa [if_neg hbegun]

/-! ### Entry into the window -/

theorem State.enterWindow_stored {s : State} {pos : Nat} {e : Entry} {p : StoredPart}
    (he : s.fq.entries[pos]? = some e) (hleave : e.leaving = false) (hstate : e.state = .queued)
    (hp : e.stored? = some p) : s.enterWindow pos =
      (s.takePin (freshPin e p)).withEntries (changeAt s.fq.entries pos (·.withState .staging)) := by
  simp [State.enterWindow, he, hleave, hstate, hp]

theorem State.enterWindow_unstored {s : State} {pos : Nat} {e : Entry}
    (he : s.fq.entries[pos]? = some e) (hleave : e.leaving = false) (hstate : e.state = .queued)
    (hp : e.stored? = none) : s.enterWindow pos = s.withEntries (changeAt s.fq.entries pos (·.withState .staged)) := by
  simp [State.enterWindow, he, hleave, hstate, hp]

theorem changeAt_insertIdx {es : List Entry} {n : Nat} (e : Entry) (f : Entry → Entry) (hn : n ≤ es.length) :
    changeAt (es.insertIdx n e) n f = es.insertIdx n (f e) := by
  induction es generalizing n with
  | nil =>
    obtain rfl : n = 0 := Nat.le_zero.mp hn
    rfl
  | cons x xs ih =>
    cases n with
    | zero => rfl
    | succ n => simp [changeAt, ih (Nat.le_of_succ_le_succ hn)]

theorem changeAt_length (es : List Entry) (n : Nat) (f : Entry → Entry) : (changeAt es n f).length = es.length := by
  simpa using congrArg List.length (changeAt_map es n f (fun _ => ()) fun _ => rfl)

/-! ### The place of a submission -/

/-- R7, R9: the list a submission joins. -/
def State.roomEntries (s : State) (front : Bool) : List Entry :=
  if front then changeAt s.fq.entries 1 Entry.pushedOut else s.fq.entries

theorem State.roomMade_fq (s : State) (front : Bool) :
    (s.roomMade front).fq = { s.fq with entries := s.roomEntries front } := by
  cases front
  · rfl
  · exact s.pushOut_fq

theorem State.roomEntries_length (s : State) (front : Bool) :
    (s.roomEntries front).length = s.fq.entries.length := by
  cases front
  · rfl
  · exact changeAt_length _ _ _

/-- R9: the key of the entry that a submission pushes out of the window. -/
def State.pushedKey (s : State) (front : Bool) : Option Key :=
  if front then s.fq.entries[1]?.map Entry.key else none

/-- R9: the pins of the entry pushed out are released. -/
theorem State.roomMade_pins (s : State) (front : Bool) :
    (s.roomMade front).fmc.pinA = s.fmc.pinA.filter (fun p => some p.key != s.pushedKey front) ∧
    (s.roomMade front).fmc.pinB = s.fmc.pinB.filter (fun p => some p.key != s.pushedKey front) := by
  have unpushed (r : Option PinRecord) : r = r.filter fun p => some p.key != none := by
    cases r <;> simp [Option.filter]
  cases front with
  | false => exact ⟨unpushed _, unpushed _⟩
  | true =>
    unfold State.roomMade State.pushOut State.pushedKey
    simp only [if_true]
    cases s.fq.entries[1]? with
    | none => exact ⟨unpushed _, unpushed _⟩
    | some e =>
      obtain ⟨c, p, m, hs⟩ := s.stopWalk_shape e.key
      dsimp only
      rw [hs]
      exact ⟨by simp [State.withEntries, State.releasePin, unlessKey, bne],
        by simp [State.withEntries, State.releasePin, unlessKey, bne]⟩

theorem State.roomMade_holdsPin (s : State) (front : Bool) (q : PinRecord) :
    (s.roomMade front).holdsPin q ↔ s.holdsPin q ∧ some q.key ≠ s.pushedKey front := by
  obtain ⟨ha, hb⟩ := s.roomMade_pins front
  simp only [State.holdsPin, ha, hb, Option.filter_eq_some_iff, bne_iff_ne]
  rw [← or_and_right]

/-- R9: making room touches the list, the walk and the channel, the bytes of memory and the pins. -/
theorem State.roomMade_shape (s : State) (front : Bool) : ∃ es st c p m a b,
    s.roomMade front = { s with
      fq := { s.fq with entries := es }
      sr := { s.sr with staging := st, wbPos := p, channel := c }
      fmc := { s.fmc with mem := m, pinA := a, pinB := b } } ∧
    (st = none ∨ st = s.sr.staging) := by
  have stands : ∃ es st c p m a b, s = { s with
      fq := { s.fq with entries := es }
      sr := { s.sr with staging := st, wbPos := p, channel := c }
      fmc := { s.fmc with mem := m, pinA := a, pinB := b } } ∧ (st = none ∨ st = s.sr.staging) :=
    ⟨s.fq.entries, s.sr.staging, s.sr.channel, s.sr.wbPos, s.fmc.mem, s.fmc.pinA, s.fmc.pinB, rfl, .inr rfl⟩
  cases front with
  | false => exact stands
  | true =>
    unfold State.roomMade State.pushOut
    simp only [if_true]
    cases s.fq.entries[1]? with
    | none => exact stands
    | some e =>
      obtain ⟨c, p, m, hs⟩ := s.stopWalk_shape e.key
      dsimp only
      rw [hs]
      refine ⟨_, _, c, p, m, _, _, rfl, ?_⟩
      cases s.sr.staging with
      | none => exact .inl rfl
      | some g => by_cases hk : g.key = e.key <;> simp [Option.filter, hk]

/-- R39, R40: the pin table has a free place for an entry that joins in the window. -/
theorem State.roomMade_free {s : State} (hw : s.pinsInWindow) {front : Bool}
    (hplace : s.placeOf front ≤ 1) :
    (s.roomMade front).fmc.pinA = none ∨ (s.roomMade front).fmc.pinB = none := by
  have atHead {q : PinRecord} (hq : (s.roomMade front).holdsPin q) : ∃ e, s.fq.entries[0]? = some e ∧ e.key = q.key := by
    obtain ⟨hheld, hpushed⟩ := (s.roomMade_holdsPin front q).mp hq
    obtain ⟨n, e, hn, he, hkey, -⟩ := hw.1 q hheld
    have hne : n ≠ 1 := fun h1 => by
      subst h1
      cases front with
      | false =>
        have := (List.getElem?_eq_some_iff.mp he).1
        have : s.fq.entries.length ≤ 1 := hplace
        omega
      | true => exact hpushed (by simp [State.pushedKey, he, hkey])
    exact ⟨e, by rwa [show n = 0 by omega] at he, hkey⟩
  cases ha : (s.roomMade front).fmc.pinA with
  | none => exact .inl rfl
  | some p =>
    cases hb : (s.roomMade front).fmc.pinB with
    | none => exact .inr rfl
    | some q =>
      obtain ⟨e, he, hp⟩ := atHead (.inl ha)
      obtain ⟨e', he', hq⟩ := atHead (.inr hb)
      obtain rfl : e = e' := Option.some.inj (he.symm.trans he')
      obtain ⟨hpa, hpb⟩ := s.roomMade_pins front
      exact absurd (hp.symm.trans hq)
        (hw.2 p q (Option.filter_eq_some_iff.mp (hpa ▸ ha)).1 (Option.filter_eq_some_iff.mp (hpb ▸ hb)).1)

/-! ### The new entry in the list -/

/-- R10: the record an entry is given when it joins at a place of the window. -/
def State.pinFor (s : State) (place : Nat) (e : Entry) : State :=
  if place ≤ 1 then
    match e.stored? with
    | some p => s.takePin (freshPin e p)
    | none => s
  else s

theorem State.pinFor_shape (s : State) (place : Nat) (e : Entry) : ∃ a b,
    s.pinFor place e = { s with fmc := { s.fmc with pinA := a, pinB := b } } := by
  unfold State.pinFor
  split
  · split
    · exact s.takePin_shape _
    · exact ⟨s.fmc.pinA, s.fmc.pinB, rfl⟩
  · exact ⟨s.fmc.pinA, s.fmc.pinB, rfl⟩

/-- R10: a QUEUED entry that is not leaving joins: it stands as accepted, with the record it is given. -/
theorem State.joinQueue_accepted (s : State) (a : Addr) (f : Submission)
    (hleave : (newEntry s.fq.serial a f).leaving = false) : s.joinQueue a f =
      ((s.joined a f).pinFor (s.placeOf f.front) (newEntry s.fq.serial a f)).withEntries
        ((s.roomEntries f.front).insertIdx (s.placeOf f.front)
          (acceptedEntry (s.placeOf f.front) (newEntry s.fq.serial a f))) := by
  have hfq := s.joined_fq a f
  rw [State.roomMade_fq] at hfq
  have hentries : (s.joined a f).fq.entries =
      (s.roomEntries f.front).insertIdx (s.placeOf f.front) (newEntry s.fq.serial a f) := by rw [hfq]
  have hle : s.placeOf f.front ≤ (s.roomEntries f.front).length :=
    s.roomEntries_length f.front ▸ s.placeOf_le_length f.front
  have hat : (s.joined a f).fq.entries[s.placeOf f.front]? = some (newEntry s.fq.serial a f) := by
    rw [hentries, List.getElem?_insertIdx_self, if_pos hle]
  rw [State.joinQueue_eq]
  unfold State.pinFor acceptedEntry
  split
  next hplace =>
    rw [if_neg (by omega)]
    cases hp : (newEntry s.fq.serial a f).stored? with
    | some p =>
      rw [State.enterWindow_stored hat hleave rfl hp, hentries, changeAt_insertIdx _ _ hle,
        if_pos (by simp [Entry.isStored, hp])]
    | none =>
      rw [State.enterWindow_unstored hat hleave rfl hp, hentries, changeAt_insertIdx _ _ hle,
        if_neg (by simp [Entry.isStored, hp])]
  next hplace =>
    rw [if_pos (by omega), show (newEntry s.fq.serial a f).withState .queued = newEntry s.fq.serial a f from rfl,
      ← hentries]
    rfl

/-- A submission that a message carries makes an entry that is not leaving. -/
theorem submissionOf_leaving {c : Instr} {f : Submission} (h : submissionOf c = some f) (n : Word16) (a : Addr) :
    (newEntry n a f).leaving = false := by
  rcases submissionOf_cases h with ⟨b, rfl⟩ | ⟨b, rfl⟩ | ⟨b, rfl⟩ <;> rfl

/-- R110: a wake touches the scan timing unit alone, and moves a stopped scanner to SPINNING_UP. -/
theorem State.wakeIfDue_shape (s : State) : ∃ v, s.wakeIfDue = { s with stu := v } ∧
    v.scanner = if s.stu.scanner = .stopped ∧ s.gc.halted = false ∧ s.hasImageEntry = true then .spinningUp
      else s.stu.scanner := by
  unfold State.wakeIfDue
  simp only [Bool.not_eq_true]
  split
  · exact ⟨_, rfl, rfl⟩
  · exact ⟨s.stu, rfl, rfl⟩

/-- R7 to R10: what joining the queue may change. -/
theorem State.joinQueue_shape (s : State) (a : Addr) (f : Submission)
    (hleave : (newEntry s.fq.serial a f).leaving = false) : ∃ st c p m pa pb cs,
    s.joinQueue a f = { s with
      fq := { s.fq with
        serial := s.fq.serial + 1
        entries := (s.roomEntries f.front).insertIdx (s.placeOf f.front)
          (acceptedEntry (s.placeOf f.front) (newEntry s.fq.serial a f)) }
      sr := { s.sr with staging := st, wbPos := p, channel := c }
      fmc := { s.fmc with mem := m, pinA := pa, pinB := pb }
      cs := cs } ∧
    (st = none ∨ st = s.sr.staging) ∧ QueueCore.countChanged s.cs cs f.set (· + 1) := by
  obtain ⟨es, st, c, p, m, pa, pb, hroom, hst⟩ := s.roomMade_shape f.front
  obtain ⟨pa', pb', hpin⟩ := (s.joined a f).pinFor_shape (s.placeOf f.front) (newEntry s.fq.serial a f)
  have hcount := s.joined_countChanged a f
  rw [State.roomMade_cs] at hcount
  have hjoined : s.joined a f = { s with
      fq := { s.fq with
        serial := s.fq.serial + 1
        entries := es.insertIdx (s.placeOf f.front) (newEntry s.fq.serial a f) }
      sr := { s.sr with staging := st, wbPos := p, channel := c }
      fmc := { s.fmc with mem := m, pinA := pa, pinB := pb }
      cs := (s.joined a f).cs } := by
    unfold State.joined
    rw [hroom]
    cases f.set <;> rfl
  refine ⟨st, c, p, m, pa', pb', (s.joined a f).cs, ?_, hst, hcount⟩
  rw [s.joinQueue_accepted a f hleave, hpin, hjoined]
  rfl

/-! ### Acceptance -/

/-- R7, R110: the entry has joined and the scanner is woken when that is due. -/
def State.enlisted (s : State) (a : Addr) (f : Submission) : State :=
  if f.set.isSome then (s.joinQueue a f).wakeIfDue else s.joinQueue a f

/-- R7, R110: joining wakes a stopped scanner of a part that is not halted when the entry names a set. -/
theorem State.enlisted_shape (s : State) (a : Addr) (f : Submission)
    (hset : (newEntry s.fq.serial a f).core.set = f.set) : ∃ v, s.enlisted a f = { s.joinQueue a f with stu := v } ∧
    ((newEntry s.fq.serial a f).leaving = false → v.scanner =
      if f.set ≠ none ∧ s.stu.scanner = .stopped ∧ s.gc.halted = false then .spinningUp else s.stu.scanner) := by
  unfold State.enlisted
  cases hf : f.set with
  | none =>
    refine ⟨(s.joinQueue a f).stu, rfl, fun hleave => ?_⟩
    obtain ⟨st, c, p, m, pa, pb, cs, hjoin, -⟩ := s.joinQueue_shape a f hleave
    simp [hjoin]
  | some id =>
    obtain ⟨v, hwake, hv⟩ := (s.joinQueue a f).wakeIfDue_shape
    refine ⟨v, hwake, fun hleave => ?_⟩
    obtain ⟨st, c, p, m, pa, pb, cs, hjoin, -⟩ := s.joinQueue_shape a f hleave
    have himage : (s.joinQueue a f).hasImageEntry = true := by
      have hmade : (acceptedEntry (s.placeOf f.front) (newEntry s.fq.serial a f)).isImage = true := by
        have hcore : (newEntry s.fq.serial a f).isImage = true := by
          rw [hf] at hset
          obtain ⟨i, hi, -⟩ := Option.map_eq_some_iff.mp hset
          simp [Entry.isImage, hi]
        unfold acceptedEntry
        split
        · exact hcore
        · split <;> exact hcore
      rw [hjoin]
      refine List.any_eq_true.mpr ⟨_, (List.mem_insertIdx ?_).mpr (.inl rfl), hmade⟩
      exact s.roomEntries_length f.front ▸ s.placeOf_le_length f.front
    rw [hv, himage, hjoin]
    simp

theorem State.submit_eq (s : State) (a : Addr) (f : Submission) :
    s.submit a f = State.settle s (s.enlisted a f) := rfl

theorem acceptedEntry_core (place : Nat) (e : Entry) : (acceptedEntry place e).core = e.core := by
  unfold acceptedEntry
  split
  · rfl
  · split <;> rfl

/-- R5: a valid submission leaves every strip table below the reel-map region. -/
theorem State.joinQueue_tables {s : State} {a : Addr} {f : Submission} (h : s.tablesInRange) (hp : f.proper)
    (hvalid : f.valid = true) (hleave : (newEntry s.fq.serial a f).leaving = false) :
    (s.joinQueue a f).tablesInRange := by
  obtain ⟨st, c, p, m, pa, pb, cs, hjoin, -⟩ := s.joinQueue_shape a f hleave
  rw [State.tablesInRange_iff] at h ⊢
  have hcore : (s.joinQueue a f).queueCore.entries =
      s.queueCore.entries.insertIdx (s.placeOf f.front) (newEntry s.fq.serial a f).core := by
    have hroom := s.roomMade_entries f.front
    simp only [State.queueCore, State.roomMade_fq] at hroom
    simp only [hjoin, State.queueCore, List.map_insertIdx, acceptedEntry_core, hroom]
  intro e he
  rw [hcore] at he
  rcases List.eq_or_mem_of_mem_insertIdx he with rfl | hmem
  · exact fun t ht => hp.2 _ _ t hvalid ht
  · exact h e hmem

/-- A set that is READY is one of the eight. -/
theorem State.lt_of_ready {s : State} {id : Nat} {v : SetContent} (h : (s.setAt id).ready? = some v) : id < 8 := by
  by_contra hge
  simp [State.setAt, Nat.le_of_not_lt hge, SetRecord.afterReset, SetRecord.ready?] at h

/-- Two stores of equal set states by id are equal in each record's state. -/
theorem QueueCore.countChanged.state_eq {cs cs' : Vector SetRecord 8} {set : Option Nat} {f : Nat → Nat}
    (h : QueueCore.countChanged cs cs' set f) (id : Fin 8) : cs'[id].state = cs[id].state := by
  simpa using (h id.val id.isLt).1

/-- R9, R39, R40: the pins at the end of the event of an accepted submission. -/
theorem State.accepted_pins {s u : State} {a : Addr} {f : Submission} (hw : s.pinsInWindow)
    (hnew : ∀ e ∈ s.fq.entries, e.key ≠ ⟨a.toNat, f.tag⟩)
    (hleave : (newEntry s.fq.serial a f).leaving = false) (hoffer : (s.joinQueue a f).offeredFrom u)
    (hst : s.sr.staging.map Staging.key ≠ some ⟨a.toNat, f.tag⟩) :
    let made := newEntry s.fq.serial a f
    (∀ p, s.placeOf f.front ≤ 1 → made.stored? = some p → u.holdsFreshPin made p) ∧
    (1 < s.placeOf f.front ∨ made.isStored = false → ∀ q, u.holdsPin q → q.key ≠ made.key) ∧
    (∀ q, u.holdsPin q → some q.key ≠ s.pushedKey f.front) ∧
    (∀ q, s.holdsPin q → some q.key ≠ s.pushedKey f.front → ∃ q', u.holdsPin q' ∧ q'.key = q.key ∧
      q'.serial = q.serial ∧ q'.table.offset = q.table.offset ∧ q'.strips = q.strips) := by
  intro made
  have heq := s.joinQueue_accepted a f hleave
  have hmade : made.key = ⟨a.toNat, f.tag⟩ := rfl
  have hroom (q : PinRecord) : (s.joined a f).holdsPin q ↔ s.holdsPin q ∧ some q.key ≠ s.pushedKey f.front := by
    rw [← s.roomMade_holdsPin, State.holdsPin, State.joined_fmc]; rfl
  have hknown {q : PinRecord} (hq : s.holdsPin q) : q.key ≠ made.key := fun hk => by
    obtain ⟨n, e, -, he, hkey, -⟩ := hw.1 q hq
    exact hnew e (List.mem_of_getElem? he) (hkey.trans hk)
  have hpushed : some made.key ≠ s.pushedKey f.front := fun hk => by
    unfold State.pushedKey at hk
    split at hk
    · obtain ⟨e, he, hkey⟩ := Option.map_eq_some_iff.mp hk.symm
      exact hnew e (List.mem_of_getElem? he) hkey
    · cases hk
  have hpins (q : PinRecord) : (s.joinQueue a f).holdsPin q ↔
      ((s.joined a f).pinFor (s.placeOf f.front) made).holdsPin q := by rw [heq]; rfl
  have htaken {p : StoredPart} (hplace : s.placeOf f.front ≤ 1) (hp : made.stored? = some p) (q : PinRecord) :
      (s.joinQueue a f).holdsPin q ↔ (s.joined a f).holdsPin q ∨ q = freshPin made p := by
    rw [hpins, State.pinFor, if_pos hplace, hp]
    exact State.takePin_holdsPin _ (by rw [State.joined_fmc]; exact State.roomMade_free hw hplace) q
  have hnone (h : 1 < s.placeOf f.front ∨ made.isStored = false) (q : PinRecord) :
      (s.joinQueue a f).holdsPin q ↔ (s.joined a f).holdsPin q := by
    rw [hpins, State.pinFor]
    split
    next hplace =>
      have hp : made.stored? = none := by
        have : made.isStored = false := h.resolve_left (by omega)
        simpa [Entry.isStored] using this
      rw [hp]
    · exact Iff.rfl
  have hheld (q : PinRecord) : ((s.joinQueue a f).holdsPin q → (s.joined a f).holdsPin q ∨ q.key = made.key) ∧
      ((s.joined a f).holdsPin q → (s.joinQueue a f).holdsPin q) := by
    by_cases hplace : s.placeOf f.front ≤ 1
    · cases hp : made.stored? with
      | some p => exact ⟨fun hq => ((htaken hplace hp q).mp hq).imp id (congrArg PinRecord.key),
          fun hq => (htaken hplace hp q).mpr (.inl hq)⟩
      | none =>
        have h := hnone (.inr (by simp [Entry.isStored, hp])) q
        exact ⟨fun hq => .inl (h.mp hq), h.mpr⟩
    · have h := hnone (.inl (by omega)) q
      exact ⟨fun hq => .inl (h.mp hq), h.mpr⟩
  obtain ⟨st, c, w, m, pa, pb, cs, hjoin, hwalk, -⟩ := s.joinQueue_shape a f hleave
  refine ⟨fun p hplace hp => ?_, fun h q hq => ?_, fun q hq => ?_, fun q hq hne => ?_⟩
  · refine State.offeredFrom_fresh hoffer ((htaken hplace hp _).mpr (.inr rfl)) ?_
    rw [hjoin]
    rcases hwalk with rfl | rfl
    · exact nofun
    · exact hst
  · obtain ⟨q0, hq0, hkey⟩ := State.offeredFrom_source hoffer hq
    exact hkey ▸ hknown ((hroom q0).mp ((hnone h q0).mp hq0)).1
  · obtain ⟨q0, hq0, hkey⟩ := State.offeredFrom_source hoffer hq
    rcases (hheld q0).1 hq0 with h | h
    · exact hkey ▸ ((hroom q0).mp h).2
    · exact hkey ▸ h ▸ hpushed
  · have hu := State.offeredFrom_held hoffer ((hheld q).2 ((hroom q).mpr ⟨hq, hne⟩))
    refine ⟨_, hu, ?_⟩
    split <;> exact ⟨rfl, rfl, rfl, rfl⟩

/-- The key a submission pushes out is that of the entry at position 1, when it asks for the front. -/
theorem State.pushedKey_eq_some (s : State) (front : Bool) (k : Key) : some k = s.pushedKey front ↔
    front = true ∧ ∃ e, s.fq.entries[1]? = some e ∧ e.key = k := by
  unfold State.pushedKey
  cases front <;> simp [eq_comm]

/-- Settles O30: a submission that passes joins the queue, wakes the scanner when that is due, and, no start being due,
the event ends with what the part then goes on to do. -/
theorem submissionAccepted : Obligations.SubmissionAccepted := by
  intro c a k roles f s ha hk hroles hrole hf htakes hroom hnew hvalid hready hfront hno htables
  have hproper := submissionOf_proper hf
  have hleave := submissionOf_leaving hf s.fq.serial a
  have hpass : submissionFailure s a f = none := by
    rw [submissionFailure_eq, if_neg (by simpa using hnew), if_neg (by simp [hvalid]), if_neg, if_neg, if_neg]
    · exact fun h => by simp [(hfront h.1).2] at h
    · exact fun h => by simp [(hfront h.1).1] at h
    · rintro ⟨id, hid, hnone⟩
      obtain ⟨v, hv⟩ := hready id hid
      rw [hnone] at hv
      cases hv
  obtain ⟨st, ch, p, m, pa, pb, cs, hjoin, hst, hcount⟩ := s.joinQueue_shape a f hleave
  obtain ⟨v, hwake, hv⟩ := s.enlisted_shape a f (hproper.1 _ _)
  have hno' : (s.enlisted a f).noStart = true := by rw [hwake, hjoin]; exact hno
  have hport : (s.enlisted a f).port = s.port := by rw [hwake, hjoin]
  have hquiet : s.submit a f = (s.enlisted a f).quiesce :=
    State.settle_of_startless (State.startless_of_noStart hno') hport
  obtain ⟨g, st', fe, p', ch', m', pa', pb', i, hq, hoffer⟩ :=
    (s.enlisted a f).quiesce_shape (by rw [hwake]; exact State.joinQueue_tables htables hproper hvalid hleave)
  have hoffered : (s.joinQueue a f).offeredFrom (s.submit a f) := by
    rw [hwake] at hoffer
    rw [hquiet, hq]
    exact hoffer
  refine ⟨s.submit a f, ?_, ?_, fun id hid => ?_, fun id => ?_, ?_, ?_⟩
  · rw [exec_submission ha hk hroles hrole hf htakes, decideSubmit_passes (by omega) hpass]
    rfl
  · rw [hquiet, hq, hwake, hjoin]
    rfl
  · obtain ⟨w, hw⟩ := hready id hid
    have := (hcount id (State.lt_of_ready hw)).2
    rw [if_pos hid] at this
    rw [hquiet, hq, hwake, hjoin]
    exact this
  · rw [hquiet, hq, hwake, hjoin]
    exact hcount.state_eq id
  · rw [hquiet, hq, hwake]
    exact hv hleave
  · refine ⟨?_, ?_, ?_, ?_, ?_, ?_, ?_, ?_, fun hb hw hstage => ?_⟩
    iterate 8 rw [hquiet, hq, hwake, hjoin]
    obtain ⟨hfresh, hbeyond, hout, hstand⟩ := State.accepted_pins hw hnew hleave hoffered hstage
    simp only [ne_eq, State.pushedKey_eq_some] at hout hstand
    exact ⟨hfresh, hbeyond, hout, hstand⟩

end Sys2Proof.Machine
end

section
/-! ## Entries that leave: the shapes of leaving, removal and cancelling -/

namespace Sys2Proof.Machine
/-! ### Lists of entries -/

/-- The list around the entry a key finds, with the entry's position. -/
theorem findEntry_split {es : List Entry} {k : Key} {e : Entry} (h : findEntry es k = some e) :
    ∃ xs ys, es = xs ++ e :: ys ∧ (∀ x ∈ xs, x.key ≠ k) ∧ e.key = k ∧ positionOf es k = some xs.length := by
  induction es with
  | nil => cases h
  | cons x xs ih =>
    by_cases hx : x.key = k
    · obtain rfl : x = e := by simpa [findEntry, hx] using h
      exact ⟨[], xs, rfl, by simp, hx, by simp [positionOf, hx]⟩
    · have htail : findEntry xs k = some e := by simpa [findEntry, hx] using h
      obtain ⟨us, vs, rfl, hus, hk, hpos⟩ := ih htail
      refine ⟨x :: us, vs, rfl, ?_, hk, by simp [positionOf, hx, hpos]⟩
      simpa [hx] using hus

theorem changeEntry_split {xs ys : List Entry} {e : Entry} {k : Key} (f : Entry → Entry)
    (hxs : ∀ x ∈ xs, x.key ≠ k) (hk : e.key = k) : changeEntry (xs ++ e :: ys) k f = xs ++ f e :: ys := by
  induction xs with
  | nil => simp [changeEntry, hk]
  | cons x xs ih =>
    obtain ⟨hx, hrest⟩ := List.forall_mem_cons.mp hxs
    rw [List.cons_append, changeEntry, if_neg hx, ih hrest, List.cons_append]

theorem eraseIdx_split (xs ys : List Entry) (e : Entry) : (xs ++ e :: ys).eraseIdx xs.length = xs ++ ys := by
  rw [List.eraseIdx_append_of_length_le (Nat.le_refl _), Nat.sub_self, List.eraseIdx_cons_zero]

/-- Two changes that agree on the entry of a key agree on the list. -/
theorem changeEntry_congr {es : List Entry} {k : Key} {e : Entry} (h : findEntry es k = some e) {f g : Entry → Entry}
    (hfg : f e = g e) : changeEntry es k f = changeEntry es k g := by
  obtain ⟨xs, ys, rfl, hxs, hk, -⟩ := findEntry_split h
  rw [changeEntry_split f hxs hk, changeEntry_split g hxs hk, hfg]

theorem changeAt_getElem? (es : List Entry) (n m : Nat) (f : Entry → Entry) :
    (changeAt es n f)[m]? = if m = n then es[m]?.map f else es[m]? := by
  induction es generalizing n m with
  | nil => simp [changeAt]
  | cons e es ih => cases n <;> cases m <;> simp [changeAt, ih]

theorem mem_changeAt {es : List Entry} {n : Nat} {f : Entry → Entry} {e : Entry} (h : e ∈ changeAt es n f) :
    e ∈ es ∨ ∃ x ∈ es, e = f x := by
  obtain ⟨m, hm⟩ := List.mem_iff_getElem?.mp h
  rw [changeAt_getElem?] at hm
  split at hm
  · obtain ⟨x, hx, rfl⟩ := Option.map_eq_some_iff.mp hm
    exact .inr ⟨x, List.mem_of_getElem? hx, rfl⟩
  · exact .inl (List.mem_of_getElem? hm)

theorem mem_changeEntry {es : List Entry} {k : Key} {f : Entry → Entry} {e : Entry} (h : e ∈ changeEntry es k f) :
    e ∈ es ∨ ∃ x ∈ es, e = f x := by
  induction es with
  | nil => cases h
  | cons y ys ih =>
    unfold changeEntry at h
    split at h <;> rcases List.mem_cons.mp h with rfl | h
    · exact .inr ⟨y, .head _, rfl⟩
    · exact .inl (.tail _ h)
    · exact .inl (.head _)
    · exact (ih h).imp (.tail _) fun ⟨x, hx, he⟩ => ⟨x, .tail _ hx, he⟩

/-! ### Leaving -/

theorem Entry.leave_stored {e : Entry} {i : ImagePart} {q : StoredPart} (h : e.body = .stored i q) (c : Completion) :
    e.leave c = { e with
      state := if e.state = .staging then .queued else e.state
      body := .stored i { q with completion := some c } } := by
  rcases e with ⟨n, k, st, b⟩
  obtain rfl : b = .stored i q := h
  unfold Entry.leave Entry.withState
  by_cases hst : st = .staging <;> simp [hst, Entry.mapStored]

theorem Entry.leave_key (e : Entry) (c : Completion) : (e.leave c).key = e.key := congrArg EntryCore.key (e.core_leave c)

theorem Entry.leave_image? (e : Entry) (c : Completion) : (e.leave c).image? = e.image? := by
  rcases e with ⟨n, k, st, ⟨i, p⟩ | ⟨i, v⟩ | m⟩ <;> (unfold Entry.leave; split <;> rfl)

/-- Leaving rejects no entry. -/
theorem Entry.leave_rejected? {e : Entry} (h : e.rejected? = none) (c : Completion) : (e.leave c).rejected? = none := by
  have kept (x : Entry) (f : StoredPart → StoredPart) : (x.mapStored f).rejected? = x.rejected? := by
    rcases x with ⟨n, k, st, ⟨i, p⟩ | ⟨i, v⟩ | m⟩ <;> rfl
  unfold Entry.leave
  rw [kept]
  split
  · rfl
  · exact h

/-- R2: an entry begins to leave: its walk stops, it is changed, and its write-back joins the list's tail. -/
theorem State.beginLeaving_shape (s : State) (k : Key) (c : Completion) : ∃ ch w m,
    s.beginLeaving k c = { s with
      fq := { s.fq with entries := changeEntry s.fq.entries k (Entry.leave c) }
      sr := { s.sr with
        staging := s.sr.staging.filter (fun g => g.key != k), channel := ch, wbPos := w, wbList := s.sr.wbList ++ [k] }
      fmc := { s.fmc with mem := m } } := by
  obtain ⟨ch, w, m, hs⟩ := s.stopWalk_shape k
  rw [State.beginLeaving_eq, hs]
  exact ⟨ch, _, m, rfl⟩

/-! ### Window entry and removal -/

/-- R10: an entry after it has entered the staging window. -/
def Entry.entered (e : Entry) : Entry :=
  if e.leaving then e
  else if e.state = .queued then (if e.isStored then e.withState .staging else e.withState .staged)
  else e

theorem Entry.entered_cases (e : Entry) : e.entered = e ∨ e.state = .queued ∧
    (e.entered = e.withState .staging ∨ e.entered = e.withState .staged) := by
  unfold Entry.entered
  split
  · exact .inl rfl
  · split
    next hq =>
      refine .inr ⟨hq, ?_⟩
      split
      · exact .inl rfl
      · exact .inr rfl
    · exact .inl rfl

theorem Entry.entered_core (e : Entry) : e.entered.core = e.core := by
  rcases e.entered_cases with h | ⟨-, h | h⟩ <;> rw [h] <;> rfl

theorem Entry.entered_key (e : Entry) : e.entered.key = e.key := congrArg EntryCore.key e.entered_core

/-- Window entry rejects no entry. -/
theorem Entry.entered_rejected? {e : Entry} (h : e.rejected? = none) : e.entered.rejected? = none := by
  rcases e.entered_cases with h' | ⟨-, h' | h'⟩ <;> rw [h']
  · exact h
  · rfl
  · rfl

theorem changeAt_of_fixed {es : List Entry} {n : Nat} {f : Entry → Entry} {e : Entry} (he : es[n]? = some e)
    (hf : f e = e) : changeAt es n f = es := by
  refine List.ext_getElem? fun m => ?_
  rw [changeAt_getElem?]
  split
  next h => rw [h, he, Option.map_some, hf]
  · rfl

theorem changeAt_congr {es : List Entry} {n : Nat} {f g : Entry → Entry} {e : Entry} (he : es[n]? = some e)
    (hfg : f e = g e) : changeAt es n f = changeAt es n g := by
  refine List.ext_getElem? fun m => ?_
  rw [changeAt_getElem?, changeAt_getElem?]
  split
  next h => rw [h, he, Option.map_some, Option.map_some, hfg]
  · rfl

/-- R10, R40, R41: the pin record an entry is given on entering the window. -/
def Entry.windowPin (e : Entry) : Option PinRecord :=
  if e.leaving then none
  else e.stored?.bind fun p =>
    match e.state with
    | .queued => some (freshPin e p)
    | .rejected _ => some (rejectedPin e p)
    | _ => none

/-- R10: window entry changes the entry's state and gives it the record it is due. -/
theorem State.enterWindow_eq {s : State} {pos : Nat} {e : Entry} (he : s.fq.entries[pos]? = some e) :
    s.enterWindow pos = (e.windowPin.elim s s.takePin).withEntries (changeAt s.fq.entries pos Entry.entered) := by
  have fixed (h : e.entered = e) : s.withEntries (changeAt s.fq.entries pos Entry.entered) = s := by
    rw [changeAt_of_fixed he h]; rfl
  unfold State.enterWindow
  rw [he]
  dsimp only
  split
  next hl =>
    rw [Entry.windowPin, if_pos hl]
    exact (fixed (by simp [Entry.entered, hl])).symm
  next hl =>
    have hpin := Entry.windowPin.eq_1 e
    rw [if_neg hl] at hpin
    cases hp : e.stored? with
    | none =>
      have hunstored : e.isStored = false := by simp [Entry.isStored, hp]
      rw [hp] at hpin
      cases hst : e.state with
      | queued =>
        rw [hpin, changeAt_congr (f := Entry.entered) (g := (·.withState .staged)) he
          (by simp [Entry.entered, hl, hst, hunstored])]
        rfl
      | staging | staged | exposing | rejected =>
        rw [hpin]
        exact (fixed (by simp [Entry.entered, hl, hst])).symm
    | some p =>
      have hstored : e.isStored = true := by simp [Entry.isStored, hp]
      rw [hp] at hpin
      cases hst : e.state with
      | queued =>
        rw [hpin, hst, changeAt_congr (f := Entry.entered) (g := (·.withState .staging)) he
          (by simp [Entry.entered, hl, hst, hstored])]
        rfl
      | rejected r =>
        rw [hpin, hst, changeAt_of_fixed (f := Entry.entered) he (by simp [Entry.entered, hl, hst])]
        change s.takePin (rejectedPin e p) = (s.takePin (rejectedPin e p)).withEntries s.fq.entries
        obtain ⟨a, b, hpins⟩ := s.takePin_shape (rejectedPin e p)
        rw [hpins]
        rfl
      | staging | staged | exposing =>
        rw [hpin, hst]
        exact (fixed (by simp [Entry.entered, hl, hst])).symm

/-- The list after the entry at a position has been removed (R14). -/
def removedAt (es : List Entry) (pos : Nat) : List Entry :=
  if pos ≤ 1 then changeAt (es.eraseIdx pos) 1 Entry.entered else es.eraseIdx pos

theorem removedAt_map {β : Type} (es : List Entry) (pos : Nat) (g : Entry → β) (hg : ∀ e : Entry, g e.entered = g e) :
    (removedAt es pos).map g = (es.map g).eraseIdx pos := by
  unfold removedAt
  split
  · rw [changeAt_map _ _ _ _ hg, List.eraseIdx_map]
  · rw [List.eraseIdx_map]

theorem removedAt_length {es : List Entry} {pos : Nat} (h : pos < es.length) :
    (removedAt es pos).length = es.length - 1 := by
  have := congrArg List.length (removedAt_map es pos (fun _ => ()) fun _ => rfl)
  simpa [List.length_eraseIdx, h] using this

theorem mem_removedAt {es : List Entry} {pos : Nat} {e : Entry} (h : e ∈ removedAt es pos) :
    e ∈ es ∨ ∃ x ∈ es, e = x.entered := by
  unfold removedAt at h
  split at h
  · exact (mem_changeAt h).imp List.mem_of_mem_eraseIdx fun ⟨x, hx, he⟩ => ⟨x, List.mem_of_mem_eraseIdx hx, he⟩
  · exact .inl (List.mem_of_mem_eraseIdx h)

/-- R14: what a removal may change. -/
theorem State.removeAt_shape {s : State} {pos : Nat} {e : Entry} (he : s.fq.entries[pos]? = some e) : ∃ a b au,
    s.removeAt pos = { s with
      fq := { s.fq with entries := removedAt s.fq.entries pos }
      fmc := { s.fmc with pinA := a, pinB := b }
      cs := (s.unname e).cs
      au := au } ∧
    s.raisedOnly (s.removeAt pos) (if s.fq.entries.length = 1 then [.queueEmpty] else []) := by
  have hout : ∃ a b, s.takeOut pos e = { s with
      fq := { s.fq with entries := s.fq.entries.eraseIdx pos }
      fmc := { s.fmc with pinA := a, pinB := b }
      cs := (s.unname e).cs } := by
    unfold State.takeOut State.unname
    cases e.isStored <;> cases e.image? <;> exact ⟨_, _, rfl⟩
  have hwindow : ∃ a b, (if pos ≤ 1 then (s.takeOut pos e).enterWindow 1 else s.takeOut pos e) = { s with
      fq := { s.fq with entries := removedAt s.fq.entries pos }
      fmc := { s.fmc with pinA := a, pinB := b }
      cs := (s.unname e).cs } := by
    obtain ⟨a, b, hout⟩ := hout
    unfold removedAt
    split
    · cases hc : (s.takeOut pos e).fq.entries[1]? with
      | none =>
        have hgone : (s.fq.entries.eraseIdx pos)[1]? = none := by rwa [State.takeOut_fq] at hc
        have hstays : (s.takeOut pos e).enterWindow 1 = s.takeOut pos e := by rw [State.enterWindow, hc]
        rw [changeAt_of_none _ hgone, hstays]
        exact ⟨a, b, hout⟩
      | some c =>
        rw [State.enterWindow_eq hc, hout]
        cases c.windowPin with
        | none => exact ⟨a, b, rfl⟩
        | some r =>
          obtain ⟨a', b', hpin⟩ := State.takePin_shape { s with
            fq := { s.fq with entries := s.fq.entries.eraseIdx pos }
            fmc := { s.fmc with pinA := a, pinB := b }
            cs := (s.unname e).cs } r
          exact ⟨a', b', congrArg (State.withEntries · _) hpin⟩
    · exact ⟨a, b, hout⟩
  obtain ⟨a, b, hwindow⟩ := hwindow
  obtain ⟨hpos, -⟩ := List.getElem?_eq_some_iff.mp he
  have hlength := removedAt_length hpos
  rw [s.removeAt_eq he, hwindow, State.reportEmpty]
  by_cases h1 : s.fq.entries.length = 1
  · have hnil : (removedAt s.fq.entries pos).isEmpty = true := by
      rw [List.isEmpty_iff_length_eq_zero]; omega
    rw [if_pos hnil, if_pos h1]
    exact ⟨a, b, _, rfl, State.raisedOnly_raise (es := []) (State.raisedOnly_of_au s.raisedOnly_refl rfl) _⟩
  · have hne : ¬ (removedAt s.fq.entries pos).isEmpty = true := by
      rw [List.isEmpty_iff_length_eq_zero]; omega
    rw [if_neg hne, if_neg h1]
    exact ⟨a, b, s.au, rfl, State.raisedOnly_of_au s.raisedOnly_refl rfl⟩

/-- R15: where no FLAT or RUNOUT entry waits in REJECTED, a head is settled by beginning to leave, or not at all. -/
theorem State.settleHead_cases {s : State} (h : s.flatsNotRejected) : s.settleHead = s ∨
    ∃ e r, s.head? = some e ∧ e.rejected? = some r ∧ s.settleHead = s.beginLeaving e.key .rejected := by
  unfold State.settleHead
  cases hes : s.fq.entries with
  | nil => exact .inl rfl
  | cons e es =>
    have hhead : s.head? = some e := by simp [State.head?, hes]
    simp only [List.length_cons, State.takeRejectedHead, hhead]
    cases hr : e.rejected? with
    | none => exact .inl rfl
    | some r =>
      dsimp only
      split
      · exact .inl rfl
      · have hstored : e.isStored = true := by
          by_contra hst
          have := h e (by simp [hes]) (by simpa using hst)
          rw [hr] at this
          cases this
        rw [if_pos hstored]
        exact .inr ⟨e, r, rfl, hr, rfl⟩

theorem State.tablesInRange_of_sub {s t : State} (h : s.tablesInRange)
    (hsub : ∀ c ∈ t.queueCore.entries, c ∈ s.queueCore.entries) : t.tablesInRange := by
  rw [State.tablesInRange_iff] at h ⊢
  exact fun c hc => h c (hsub c hc)

end Sys2Proof.Machine
end

section
/-! ## CANCEL -/

namespace Sys2Proof.Machine
/-! ### The sender's right to name -/

/-- R19, R20: a sender that may cancel, naming a submitter it may name. -/
theorem decideNamed_taken {α : Type} {a : Addr} {submitter : α → Option Nat} {x : α}
    (take : α → Nat → Decision) (s : State) (hrole : roleOf a = .job ∨ roleOf a = .calibration)
    (hname : roleOf a = .calibration → (submitter x).getD a.toNat = a.toNat)
    (hlow : 1 ≤ (submitter x).getD a.toNat) (hhigh : (submitter x).getD a.toNat ≤ 11) :
    decideNamed a submitter (.fits x) take s = take x ((submitter x).getD a.toNat) := by
  have hmay : mayCancel a = true := by simpa [mayCancel] using hrole
  have hnamed : mayName a (submitter x) = true := by
    rcases hrole with h | h
    · simp [mayName, h]
    · simp [mayName, hname h]
  have hvalid : submitterValid ((submitter x).getD a.toNat) = true := by simp [submitterValid, hlow, hhigh]
  simp [decideNamed, hmay, hnamed, hvalid]

theorem Entry.cancellable_iff (e : Entry) : e.cancellable = true ↔ e.state ≠ .exposing ∧ e.leaving = false := by
  simp [Entry.cancellable]

/-! ### A first marking (R34 to R36) -/

theorem State.readByte_writeMark {s : State} (hmem : s.memoryCanonical) {a : Nat} (ha : a + 16 ≤ Config.windowSize)
    (control : Byte) (c : Completion) (n : Nat) :
    let t := s.writeMark a control (some (completionWord c n))
    t.readByte a = markedControl control ∧ t.readByte (a + 12) = c.byte ∧ t.readByte (a + 13) = BitVec.ofNat 8 n ∧
    t.readByte (a + 14) = 0 ∧ t.readByte (a + 15) = 0 ∧
    ∀ b, b ≠ a → ¬ (a + 12 ≤ b ∧ b < a + 16) → t.readByte b = s.readByte b := by
  have hfirst : (s.writeBytes a [markedControl control]).fmc.mem.wf = true := Memory.write_wf _ _ _ hmem
  have hword (i : Nat) (hi : i < 4) : (s.writeMark a control (some (completionWord c n))).readByte (a + 12 + i) =
      (completionWord c n).getD i 0 :=
    State.readByte_writeBytes_inside _ _ i _ hfirst hi (by simp only [completionWord, List.length_cons, List.length_nil]; omega)
  have hother (b : Nat) (hb : ¬ (a + 12 ≤ b ∧ b < a + 16)) :
      (s.writeMark a control (some (completionWord c n))).readByte b =
        (s.writeBytes a [markedControl control]).readByte b :=
    State.readByte_writeBytes_other _ _ _ _
      (by simp only [completionWord, List.length_cons, List.length_nil]; omega)
  refine ⟨?_, hword 0 (by omega), hword 1 (by omega), hword 2 (by omega), hword 3 (by omega), fun b hb hw => ?_⟩
  · rw [hother a (by omega)]
    exact State.readByte_writeBytes_inside s a 0 [markedControl control] hmem (by simp)
      (by simp only [List.length_cons, List.length_nil]; omega)
  · rw [hother b hw]
    exact State.readByte_writeBytes_other s a b _ (by simp only [List.length_cons, List.length_nil]; omega)

/-- R35, R36, R65: a free channel that no line fetch waits for grants the first marking of a write-back. -/
theorem State.grant_first {s : State} {k : Key} {e : Entry} {i : ImagePart} {p : StoredPart} {c : Completion}
    {ks : List Key} {w : Bool} (hch : s.sr.channel = ⟨none, false, true, w⟩) (hlist : s.sr.wbList = k :: ks)
    (hfind : findEntry s.fq.entries k = some e) (hbody : e.body = .stored i p) (hc : p.completion = some c)
    (hpos : s.sr.wbPos = 0) (hrange : p.tableOffset + 16 ≤ Config.mapBase) : ∃ ch,
    s.grant = (s.writeMark p.tableOffset (s.readByte p.tableOffset) (some (completionWord c i.exposed))).withSr
      { s.sr with wbPos := 1, channel := ch } ∧ ch.busy = some (.mark (s.readByte p.tableOffset)) := by
  have hmark : s.grant = s.grantMark := by simp [State.grant, hch]
  have hsr : ∀ a b w, (s.writeMark a b w).sr = s.sr := fun a b w => by cases w <;> rfl
  refine ⟨{ s.sr.channel with busy := some (.mark (s.readByte p.tableOffset)), waitMark := false }, ?_, rfl⟩
  rw [hmark]
  simp [State.grantMark, hlist, hfind, hbody, hpos, hrange, hc, Config.descriptorSize, hsr]

theorem State.beginLine_of_begun {s : State} (h : ∀ x, s.exposure? = some x → s.lineDue x = false) :
    s.beginLine = s := by
  unfold State.beginLine
  split
  next x e hx _ => rw [if_neg (by simp [h x hx])]
  · rfl

/-- The height of the frame on the film is read off the head's image part. -/
theorem State.frameHeight_congr {s t : State} (hgc : t.gc = s.gc)
    (himage : t.fq.entries.map Entry.image? = s.fq.entries.map Entry.image?) : t.frameHeight = s.frameHeight := by
  have hhead : t.head?.map Entry.image? = s.head?.map Entry.image? := by
    simpa [State.head?] using congrArg List.head? himage
  have hbind : t.head?.bind Entry.image? = s.head?.bind Entry.image? := by
    cases ht : t.head? <;> cases hs : s.head? <;> simp_all
  have hexposing : t.isExposing = s.isExposing := by simp [State.isExposing, State.exposure?, hgc]
  unfold State.frameHeight State.exposingEntry?
  rw [hexposing]
  cases s.isExposing
  · rfl
  · simp only [if_true, hbind]

theorem State.stopWalk_idle {s : State} (h : s.sr.channel = .idle) (k : Key) :
    s.stopWalk k = s.withSr { s.sr with staging := s.sr.staging.filter (fun g => g.key != k) } := by
  have hdiscard : s.discardStaging = s.withSr { s.sr with staging := none } := by
    simp [State.discardStaging, h, ReadChannel.idle, ReadChannel.staging?]
  have kept (h : s.sr.staging.filter (fun g => g.key != k) = s.sr.staging) :
      s = s.withSr { s.sr with staging := s.sr.staging.filter (fun g => g.key != k) } := by rw [h]; rfl
  unfold State.stopWalk
  split
  next g hg =>
    split
    next hk => rw [hg, Option.filter_some_neg (by simp [hk]), hdiscard]
    next hk => exact kept (by rw [hg, Option.filter_some_pos (by simp [hk])])
  next hg => exact kept (by rw [hg, Option.filter_none])

theorem findEntry_changeEntry {es : List Entry} {k : Key} {e : Entry} (h : findEntry es k = some e) {f : Entry → Entry}
    (hf : (f e).key = e.key) : findEntry (changeEntry es k f) k = some (f e) := by
  obtain ⟨xs, ys, rfl, hxs, hk, -⟩ := findEntry_split h
  rw [changeEntry_split _ hxs hk]
  unfold findEntry
  rw [List.find?_append, List.find?_eq_none.mpr (by simpa using hxs), Option.none_or, List.find?_cons_of_pos]
  simp [hf, hk]

/-- R34 to R36, R65: an idle channel, with no line to begin, marks descriptor 0 of the table at the front of the
write-back list at the end of the event. -/
theorem State.quiesce_marks {t : State} {k : Key} {ks : List Key} {e : Entry} {i : ImagePart} {p : StoredPart}
    {c : Completion} (hbegun : t.beginLine = t) (hch : t.sr.channel = .idle) (hlist : t.sr.wbList = k :: ks)
    (hpos : t.sr.wbPos = 0) (hmem : t.memoryCanonical) (htables : t.tablesInRange)
    (hfind : findEntry t.fq.entries k = some e) (hbody : e.body = .stored i p) (hc : p.completion = some c)
    (halign : p.tableOffset % 16 = 0) : t.marksFirst t.quiesce i p c := by
  have hrange : p.tableOffset + 16 ≤ Config.mapBase := by
    have := htables e (List.mem_of_find?_eq_some hfind) p (by simp [Entry.stored?, hbody])
    simp only [Config.mapBase] at this ⊢
    omega
  have hwindow : p.tableOffset + 16 ≤ Config.windowSize := by
    simp only [Config.mapBase, Config.windowSize] at hrange ⊢
    omega
  obtain ⟨st, w, a, b, hoffer, -⟩ := t.offerStaging_shape htables
  have hasked : t.beginLine.offerStaging.requestMarking = { t with
      sr := { t.sr with staging := st, channel := ⟨none, false, true, w⟩ }
      fmc := { t.fmc with pinA := a, pinB := b } } := by
    rw [hbegun, hoffer]
    simp [State.requestMarking, State.withChannel, State.withSr, hch, hlist, ReadChannel.idle, ReadChannel.mark?]
  obtain ⟨ch, hgrant, hbusy⟩ := State.grant_first (s := t.beginLine.offerStaging.requestMarking) (k := k) (ks := ks)
    (e := e) (w := w) (by rw [hasked]) (by rw [hasked]; exact hlist) (by rw [hasked]; exact hfind) hbody hc
    (by rw [hasked]; exact hpos) hrange
  obtain ⟨idle, hidle⟩ := t.beginLine.offerStaging.requestMarking.grant.updateIdle_shape
  obtain ⟨h0, h12, h13, h14, h15, hothers⟩ := State.readByte_writeMark hmem hwindow (t.readByte p.tableOffset) c i.exposed
  rw [State.quiesce, hidle, hgrant, hasked]
  rw [hasked] at hbusy
  exact ⟨rfl, hbusy, h0, h12.trans (by cases c <;> rfl), h13, h14, h15, hothers⟩

/-- R2: the state in which an entry has begun to leave, with the channel idle and no write-back before it. -/
def State.leavingAlone (s : State) (k : Key) (c : Completion) : State :=
  { s with
    fq := { s.fq with entries := changeEntry s.fq.entries k (Entry.leave c) }
    sr := { s.sr with staging := s.sr.staging.filter (fun g => g.key != k), wbList := [k], wbPos := 0 } }

theorem State.beginLeaving_alone {s : State} (hlist : s.sr.wbList = []) (hch : s.sr.channel = .idle) (k : Key)
    (c : Completion) : s.beginLeaving k c = s.leavingAlone k c := by
  rw [State.beginLeaving_eq, State.stopWalk_idle hch]
  simp [State.requestWriteBack, State.withEntries, State.withSr, State.withFq, hlist, State.leavingAlone]

/-- R68: an entry that begins to leave makes no line due. -/
theorem State.leavingAlone_beginLine {s : State} (hline : s.lineBegun) (hrun : s.pins.resetLow = false) (k : Key)
    (c : Completion) : (s.leavingAlone k c).beginLine = s.leavingAlone k c := by
  refine State.beginLine_of_begun fun x hx => ?_
  have hheight : (s.leavingAlone k c).frameHeight = s.frameHeight :=
    State.frameHeight_congr rfl (changeEntry_map _ _ _ _ fun e => e.leave_image? c)
  have hbegun := hline hrun x hx
  simpa only [State.lineDue, hheight] using hbegun

/-- R34, R35: with the channel idle and no write-back before it, an entry that begins to leave has descriptor 0 marked
at the same event. -/
theorem State.quiesce_marksFirst {s : State} {k : Key} {e : Entry} {i : ImagePart} {q : StoredPart} (c : Completion)
    (hlist : s.sr.wbList = []) (hch : s.sr.channel = .idle) (hmem : s.memoryCanonical) (hline : s.lineBegun)
    (hrun : s.pins.resetLow = false) (htables : s.tablesInRange) (hfind : findEntry s.fq.entries k = some e)
    (hbody : e.body = .stored i q) (halign : q.tableOffset % 16 = 0) :
    s.marksFirst (s.beginLeaving k c).quiesce i q c := by
  have htables' : (s.leavingAlone k c).tablesInRange := State.tablesInRange_of_sub htables fun d hd => by
    rwa [← State.beginLeaving_alone hlist hch, State.beginLeaving_queueCore] at hd
  have hfound : findEntry (s.leavingAlone k c).fq.entries k = some (e.leave c) :=
    findEntry_changeEntry hfind (e.leave_key c)
  rw [State.beginLeaving_alone hlist hch]
  exact State.quiesce_marks (p := { q with completion := some c })
    (State.leavingAlone_beginLine hline hrun k c) hch rfl rfl hmem htables' hfound
    (congrArg Entry.body (Entry.leave_stored hbody c)) rfl halign

end Sys2Proof.Machine
end

section
/-! ## The settling of O32 -/

namespace Sys2Proof.Machine

theorem State.settle_of_noStart {b s : State} (h : b.noStart = true) (hgc : s.gc = b.gc) (hport : s.port = b.port) :
    State.settle b s = s.quiesce :=
  State.settle_of_startless
    (State.startless_of_noStart (by simpa only [State.noStart, State.gateReady, hgc] using h)) hport
/-! ### A STORED entry is cancelled -/

/-- R19: what a CANCEL of a STORED entry leaves. -/
theorem State.cancel_stored {s : State} {k : Key} {e : Entry} {i : ImagePart} {q : StoredPart}
    (hfind : findEntry s.fq.entries k = some e) (hno : s.noStart = true) (htables : s.tablesInRange)
    (hbody : e.body = .stored i q) : ∃ u : State,
    State.settle s (s.cancelEntry e) = u ∧
    u.fq = { s.fq with entries := changeEntry s.fq.entries k (fun e => { e with
      state := if e.state = .staging then .queued else e.state
      body := .stored i { q with completion := some .cancelled } }) } ∧
    u.rm = s.rm ∧ u.lcu = s.lcu ∧ u.dbi = s.dbi ∧ u.sr.wbList = s.sr.wbList ++ [k] ∧ u.cs = s.cs ∧ u.au = s.au ∧
    (s.sr.wbList = [] → s.sr.channel = .idle → s.memoryCanonical → s.lineBegun → s.pins.resetLow = false →
      q.tableOffset % 16 = 0 → s.marksFirst u i q .cancelled) := by
  obtain ⟨-, -, -, -, hk, -⟩ := findEntry_split hfind
  have hcancel : s.cancelEntry e = s.beginLeaving k .cancelled := by
    simp [State.cancelEntry, Entry.isStored, Entry.stored?, hbody, hk]
  obtain ⟨ch, w, m, hleave⟩ := s.beginLeaving_shape k .cancelled
  have htables' : (s.beginLeaving k .cancelled).tablesInRange :=
    State.tablesInRange_of_sub htables fun c hc => by rwa [State.beginLeaving_queueCore] at hc
  obtain ⟨g, st, f, p, c, m', a, b, idle, hq, -⟩ := (s.beginLeaving k .cancelled).quiesce_shape htables'
  have hsettle : State.settle s (s.cancelEntry e) = (s.beginLeaving k .cancelled).quiesce := by
    rw [hcancel, State.settle_of_noStart hno] <;> rw [hleave]
  refine ⟨_, hsettle, ?_, ?_, ?_, ?_, ?_, ?_, ?_, fun hlist hch hmem hline hrun halign =>
    State.quiesce_marksFirst .cancelled hlist hch hmem hline hrun htables hfind hbody halign⟩
  · rw [hq, hleave]
    exact congrArg (FrameQueue.mk · _ _ _) (changeEntry_congr hfind (Entry.leave_stored hbody _))
  all_goals rw [hq, hleave]

/-! ### An entry that is not STORED is removed -/

/-- R15: where no FLAT or RUNOUT entry waits in REJECTED, settling the head changes no entry behind it, no entry's
core and no pin, and gives up a walk at most. -/
theorem State.settleHead_shape {s : State} (h : s.flatsNotRejected) : ∃ es sr m,
    s.settleHead = { s with fq := { s.fq with entries := es }, sr := sr, fmc := { s.fmc with mem := m } } ∧
    es.map Entry.core = s.fq.entries.map Entry.core ∧ (∀ n, n ≠ 0 → es[n]? = s.fq.entries[n]?) ∧
    (sr.staging = s.sr.staging ∨ ∃ k, sr.staging = s.sr.staging.filter (fun g => g.key != k)) := by
  rcases State.settleHead_cases h with hs | ⟨e, r, hhead, -, hs⟩
  · exact ⟨s.fq.entries, s.sr, s.fmc.mem, hs, rfl, fun _ _ => rfl, .inl rfl⟩
  · obtain ⟨ch, w, m, hleave⟩ := s.beginLeaving_shape e.key .rejected
    refine ⟨_, _, m, hs.trans hleave, changeEntry_map _ _ _ _ fun e => e.core_leave _, fun n hn => ?_, .inr ⟨_, rfl⟩⟩
    obtain ⟨es, hes⟩ : ∃ es, s.fq.entries = e :: es := by
      cases hl : s.fq.entries with
      | nil => simp [State.head?, hl] at hhead
      | cons x xs =>
        obtain rfl : x = e := by simpa [State.head?, hl] using hhead
        exact ⟨xs, rfl⟩
    obtain ⟨n, rfl⟩ := Nat.exists_eq_succ_of_ne_zero hn
    rw [hes, changeEntry, if_pos rfl, List.getElem?_cons_succ, List.getElem?_cons_succ]

/-- No removal rejects an entry. -/
theorem State.removeAt_flatsNotRejected {s : State} (h : s.flatsNotRejected) {pos : Nat} {e : Entry}
    (he : s.fq.entries[pos]? = some e) : (s.removeAt pos).flatsNotRejected := by
  obtain ⟨a, b, au, hremove, -⟩ := State.removeAt_shape he
  rw [hremove]
  intro x hx hst
  rcases mem_removedAt hx with hx | ⟨y, hy, rfl⟩
  · exact h x hx hst
  · refine Entry.entered_rejected? (h y hy ?_)
    rwa [Entry.isStored_iff_table, Entry.entered_core, ← Entry.isStored_iff_table] at hst

/-- R39, R40: with an entry in the staging window that is not STORED the pin table has a free place. -/
theorem State.pin_free_of_unstored {s : State} (h : s.pinsInWindow) {pos : Nat} (hpos : pos ≤ 1) {e : Entry}
    (he : s.fq.entries[pos]? = some e) (hst : e.isStored = false) : s.fmc.pinA = none ∨ s.fmc.pinB = none := by
  obtain ⟨hwindow, hapart⟩ := h
  rcases ha : s.fmc.pinA with _ | p
  · exact .inl rfl
  rcases hb : s.fmc.pinB with _ | q
  · exact .inr rfl
  obtain ⟨m, x, hm, hx, hxk, hxs⟩ := hwindow p (.inl ha)
  obtain ⟨n, y, hn, hy, hyk, hys⟩ := hwindow q (.inr hb)
  have beside {j : Nat} {z : Entry} (hz : s.fq.entries[j]? = some z) (hzs : z.isStored = true) : j ≠ pos := by
    rintro rfl
    obtain rfl : z = e := Option.some.inj (hz.symm.trans he)
    rw [hst] at hzs
    cases hzs
  have hmn : m = n := by
    have := beside hx hxs
    have := beside hy hys
    omega
  subst hmn
  obtain rfl : x = y := Option.some.inj (hx.symm.trans hy)
  exact absurd (hxk.symm.trans hyk) (hapart p q ha hb)

/-- R14: a removal leaves the strip reader, and gives the entry it brings into the window the record that is due. -/
theorem State.removeAt_holdsPin {s : State} (h : s.pinsInWindow) {pos : Nat} (hpos : pos ≤ 1) {e e2 : Entry}
    (he : s.fq.entries[pos]? = some e) (hst : e.isStored = false) (h2 : s.fq.entries[2]? = some e2) {r : PinRecord}
    (hr : e2.windowPin = some r) : (s.removeAt pos).holdsPin r := by
  have hfmc : (s.takeOut pos e).fmc = s.fmc := by simp [State.takeOut, hst, State.withEntries]
  have hnext : (s.takeOut pos e).fq.entries[1]? = some e2 := by
    rw [State.takeOut_fq]
    exact (List.getElem?_eraseIdx_of_ge hpos).trans h2
  have hfree := State.pin_free_of_unstored h hpos he hst
  have hremove : (s.removeAt pos).fmc = ((s.takeOut pos e).takePin r).fmc := by
    rw [s.removeAt_eq he, if_pos hpos, State.enterWindow_eq hnext, hr, State.reportEmpty]
    split <;> rfl
  unfold State.holdsPin
  rw [hremove]
  exact (State.takePin_holdsPin r (by rwa [hfmc]) r).mpr (.inr rfl)

theorem removedAt_getElem?_one {es : List Entry} {pos : Nat} (hpos : pos ≤ 1) :
    (removedAt es pos)[1]? = es[2]?.map Entry.entered := by
  rw [removedAt, if_pos hpos, changeAt_getElem?, if_pos rfl, List.getElem?_eraseIdx_of_ge hpos]

/-- R10: what makes the entry at position 1 one that has entered the window. -/
theorem State.windowTook_of {t : State} {e : Entry} (hentry : t.fq.entries[1]? = some e.entered)
    (hfresh : ∀ p, e.leaving = false → e.state = .queued → e.stored? = some p → t.holdsFreshPin e p)
    (hrejected : ∀ r p, e.leaving = false → e.state = .rejected r → e.stored? = some p → t.holdsPin (rejectedPin e p)) :
    t.windowTook e := by
  have stored {p : StoredPart} (hp : e.stored? = some p) : e.isStored = true := by simp [Entry.isStored, hp]
  refine ⟨fun hl => ?_, fun hl hq hs => ?_, fun p hl hq hp => ⟨?_, hfresh p hl hq hp⟩,
    fun r p hl hr hp => ⟨?_, hrejected r p hl hr hp⟩⟩
  · simpa [Entry.entered, hl] using hentry
  · simpa [Entry.entered, hl, hq, hs] using hentry
  · simpa [Entry.entered, hl, hq, stored hp] using hentry
  · simpa [Entry.entered, hl, hr] using hentry

/-- R47: no walk begins of an entry that is not STAGING. -/
theorem State.offeredFrom_unstaged {s u : State} (h : s.offeredFrom u) (hkeys : (s.fq.entries.map Entry.key).Nodup)
    {e : Entry} (he : e ∈ s.fq.entries) (hstate : e.state ≠ .staging) {p : PinRecord} (hp : s.holdsPin p)
    (hk : p.key = e.key) : u.holdsPin p := by
  have hheld := State.offeredFrom_held h hp
  rwa [if_neg] at hheld
  rintro ⟨hidle, hbegun⟩
  rcases h with ⟨hsame, -, -⟩ | ⟨-, x, hx, hstaging, hst, -⟩
  · rw [hsame, hidle] at hbegun
    cases hbegun
  · have hkey : x.key = e.key := (Option.some.inj (hst.symm.trans hbegun)).trans hk
    obtain rfl : x = e := List.inj_on_of_nodup_map hkeys hx he hkey
    exact hstate hstaging

theorem keys_eraseIdx_of_cores {es xs : List Entry} {pos : Nat}
    (h : es.map Entry.core = (xs.map Entry.core).eraseIdx pos) :
    es.map Entry.key = (xs.map Entry.key).eraseIdx pos := by
  have hkeys := congrArg (List.map EntryCore.key) h
  rwa [← List.eraseIdx_map, List.map_map, List.map_map] at hkeys

/-- R14: what a removal followed by the settling of the head leaves, the event then ending without a start. -/
theorem State.removed_quiesces {s : State} {pos : Nat} {e : Entry} (he : s.fq.entries[pos]? = some e)
    (hno : s.noStart = true) (htables : s.tablesInRange) (hflats : s.flatsNotRejected) :
    let v := (s.removeAt pos).settleHead
    let u := State.settle s v
    v.offeredFrom u ∧ v.fq = { s.fq with entries := v.fq.entries } ∧ u.fq = v.fq ∧
    v.fq.entries.map Entry.core = (s.fq.entries.map Entry.core).eraseIdx pos ∧
    (∀ n, n ≠ 0 → v.fq.entries[n]? = (removedAt s.fq.entries pos)[n]?) ∧
    (∀ r, (s.removeAt pos).holdsPin r → v.holdsPin r) ∧
    (∀ k, s.sr.staging.map Staging.key ≠ some k → v.sr.staging.map Staging.key ≠ some k) ∧
    u.cs = (s.unname e).cs ∧ u.rm = s.rm ∧ u.lcu = s.lcu ∧ u.dbi = s.dbi ∧
    s.raisedOnly u (if s.fq.entries.length = 1 then [.queueEmpty] else []) := by
  intro v u
  obtain ⟨a, b, au, hremove, hraised⟩ := State.removeAt_shape he
  obtain ⟨es, sr, m, hsettled, hcore, hothers, hstaging⟩ :=
    State.settleHead_shape (State.removeAt_flatsNotRejected hflats he)
  have hv : v = (s.removeAt pos).settleHead := rfl
  rw [hremove] at hcore hothers hstaging
  rw [removedAt_map _ _ _ Entry.entered_core] at hcore
  rw [hsettled, hremove] at hv
  have htables' : v.tablesInRange := State.tablesInRange_of_sub htables fun c hc => by
    have hc' : c ∈ es.map Entry.core := by rw [hv] at hc; exact hc
    rw [hcore] at hc'
    exact List.mem_of_mem_eraseIdx hc'
  obtain ⟨g, st, f, p, c, m', a', b', idle, hq, hoffer⟩ := v.quiesce_shape htables'
  have hu : u = v.quiesce := State.settle_of_noStart hno (by rw [hv]) (by rw [hv])
  have hpins (r : PinRecord) (hr : (s.removeAt pos).holdsPin r) : v.holdsPin r := by
    rw [hremove] at hr
    rw [hv]
    exact hr
  refine ⟨?_, by rw [hv], by rw [hu, hq], by rw [hv]; exact hcore, by rw [hv]; exact hothers, hpins, fun k hk => ?_,
    by rw [hu, hq, hv], by rw [hu, hq, hv], by rw [hu, hq, hv], by rw [hu, hq, hv], ?_⟩
  · rw [hu, hq]
    exact hoffer
  · have hsr : v.sr = sr := by rw [hv]
    rw [hsr]
    rcases hstaging with h | ⟨j, h⟩
    · rw [h]
      exact hk
    · rw [h]
      cases hs : s.sr.staging with
      | none => simp
      | some g =>
        rw [hs] at hk
        simp only [Option.filter_some]
        split
        · exact hk
        · simp
  · exact State.raisedOnly_of_au hraised (by rw [hu, hq, hv, hremove])

/-- R10, R40, R41: the entry that a removal brings to position 1 has entered the window when the event ends. -/
theorem State.removed_windowTook {s : State} {pos : Nat} {e e2 : Entry} (he : s.fq.entries[pos]? = some e)
    (hno : s.noStart = true) (htables : s.tablesInRange) (hflats : s.flatsNotRejected) (hbounded : s.queueBounded)
    (hwindow : s.pinsInWindow) (hpos : pos ≤ 1) (hst : e.isStored = false) (h2 : s.fq.entries[2]? = some e2)
    (hstaging : s.sr.staging.map Staging.key ≠ some e2.key) :
    (State.settle s (s.removeAt pos).settleHead).windowTook e2 := by
  obtain ⟨hoffer, -, hfq, hcore, hothers, hpins, hstage, -⟩ := State.removed_quiesces he hno htables hflats
  have hentry : ((s.removeAt pos).settleHead).fq.entries[1]? = some e2.entered := by
    rw [hothers 1 (by omega), removedAt_getElem?_one hpos, h2, Option.map_some]
  have hkeys : (((s.removeAt pos).settleHead).fq.entries.map Entry.key).Nodup :=
    keys_eraseIdx_of_cores hcore ▸ hbounded.2.eraseIdx pos
  have held {r : PinRecord} (hr : e2.windowPin = some r) : ((s.removeAt pos).settleHead).holdsPin r :=
    hpins r (State.removeAt_holdsPin hwindow hpos he hst h2 hr)
  refine State.windowTook_of (by rw [hfq]; exact hentry) (fun p hl hq hp => ?_) (fun r p hl hr hp => ?_)
  · exact State.offeredFrom_fresh hoffer (held (by simp [Entry.windowPin, hl, hp, hq])) (hstage _ hstaging)
  · have hin : e2 ∈ ((s.removeAt pos).settleHead).fq.entries := by
      refine List.mem_of_getElem? (i := 1) (hentry.trans ?_)
      simp [Entry.entered, hl, hr]
    exact State.offeredFrom_unstaged hoffer hkeys hin (by simp [hr]) (held (by simp [Entry.windowPin, hl, hp, hr])) rfl

theorem State.cancelEntry_unstored {s : State} {k : Key} {e : Entry} (hfind : findEntry s.fq.entries k = some e)
    (hst : e.isStored = false) : ∃ pos, positionOf s.fq.entries k = some pos ∧ s.fq.entries[pos]? = some e ∧
    (s.fq.entries.map Entry.key).eraseIdx pos = (s.fq.entries.map Entry.key).erase k ∧
    s.cancelEntry e = (s.removeAt pos).settleHead := by
  obtain ⟨xs, ys, hes, hxs, hk, hpos⟩ := findEntry_split hfind
  refine ⟨xs.length, hpos, by simp [hes], ?_, by simp [State.cancelEntry, hst, State.removeEntry, hk, hpos]⟩
  have hnot : k ∉ xs.map Entry.key := by simpa using hxs
  rw [hes, List.map_append, List.map_cons, hk, List.erase_append_right _ hnot, List.erase_cons_head,
    List.eraseIdx_append_of_length_le (by simp), List.length_map, Nat.sub_self, List.eraseIdx_cons_zero]

theorem decideCancel_of_named {a : Addr} {g : CancelArgs} (s : State) (hrole : roleOf a = .job ∨ roleOf a = .calibration)
    (hname : roleOf a = .calibration → g.submitter.getD a.toNat = a.toNat)
    (hlow : 1 ≤ g.submitter.getD a.toNat) (hhigh : g.submitter.getD a.toNat ≤ 11) :
    decideCancel a (.fits g) s = match findEntry s.fq.entries ⟨g.submitter.getD a.toNat, g.tag⟩ with
      | none => refuse s .unknownId
      | some e => if e.cancellable then accept (State.settle s (s.cancelEntry e)) (.cancelled 1) else refuse s .state :=
  decideNamed_taken _ s hrole hname hlow hhigh

/-- Settles O32: a STORED entry that is cancelled begins to leave, and any other is removed; without a start the end of
the event adds a first marking, or an offered walk, at most. -/
theorem cancelTakesOneEntry : Obligations.CancelTakesOneEntry := by
  intro a g s htakes hrole hname hlow hhigh c key
  have hexec : exec c s = .next ((decideCancel a (.fits g) s).replied c a 0x13) := onMessage_taken _ _ _ _ s htakes
  rw [decideCancel_of_named s hrole hname hlow hhigh] at hexec
  refine ⟨fun hnone => ?_, fun e hfind => ?_⟩
  · rw [hexec, hnone, refuse_replied]
  change exec c s = .next (Decision.replied (match findEntry s.fq.entries key with
      | none => refuse s .unknownId
      | some e => if e.cancellable then accept (State.settle s (s.cancelEntry e)) (.cancelled 1) else refuse s .state)
    c a 0x13) at hexec
  rw [hfind] at hexec
  dsimp only at hexec
  refine ⟨fun hstands => ?_, fun hexposing hleaving hno htables hflats => ?_⟩
  · rw [hexec, if_neg (by rw [Entry.cancellable_iff]; rcases hstands with h | h <;> simp [h]), refuse_replied]
  rw [if_pos (e.cancellable_iff.mpr ⟨hexposing, hleaving⟩)] at hexec
  refine ⟨State.settle s (s.cancelEntry e), hexec, ?_⟩
  cases hst : e.isStored with
  | true =>
    obtain ⟨i, q, hbody⟩ : ∃ i q, e.body = .stored i q := by
      cases hb : e.body with
      | stored i q => exact ⟨i, q, rfl⟩
      | flat | runout => simp [Entry.isStored, Entry.stored?, hb] at hst
    obtain ⟨u, hu, hfq, hrm, hlcu, hdbi, hlist, hcs, hau, hmarks⟩ := State.cancel_stored hfind hno htables hbody
    rw [hu, hfq]
    refine ⟨rfl, rfl, rfl, hrm, hlcu, hdbi, fun i' q' hbody' => ?_, fun h => nomatch h⟩
    obtain ⟨rfl, rfl⟩ := EntryBody.stored.inj (hbody'.symm.trans hbody)
    exact ⟨rfl, hlist, hcs, hau, fun hempty hch _ hmem hline hrun halign => hmarks hempty hch hmem hline hrun halign⟩
  | false =>
    obtain ⟨pos, hpos, he, hkeys, hcancel⟩ := State.cancelEntry_unstored hfind hst
    obtain ⟨-, hv, hfq, hcore, -, -, -, hcs, hrm, hlcu, hdbi, hraised⟩ :=
      State.removed_quiesces he hno htables hflats
    rw [hcancel, hfq]
    refine ⟨by rw [hv], by rw [hv], by rw [hv], hrm, hlcu, hdbi, fun i q hbody => ?_, fun _ =>
      ⟨?_, fun i himage hset => ?_, hraised, fun hbounded hwindow hplace e2 h2 hstaging => ?_⟩⟩
    · simp [Entry.isStored, Entry.stored?, hbody] at hst
    · exact (keys_eraseIdx_of_cores hcore).trans hkeys
    · have := (s.unname_countChanged e i.set (by omega)).2
      rw [Entry.core, himage, Option.map_some, if_pos rfl] at this
      unfold State.setAt
      rw [hcs]
      exact this
    · have hle : pos ≤ 1 := by
        have place {n : Nat} (hn : s.fq.entries[n]? = some e) : n = pos := by
          obtain ⟨-, -, -, -, hk, -⟩ := findEntry_split hfind
          have := (positionOf_of_getElem hbounded.2 hn).2
          rw [hk, hpos] at this
          exact (Option.some.inj this).symm
        rcases hplace with h | h <;> (have := place h; omega)
      exact State.removed_windowTook he hno htables hflats hbounded hwindow hle hst h2 hstaging

end Sys2Proof.Machine
end

section
/-! ## FLUSH

A FLUSH cancels the entries of one submitter one after another. What each cancelling does to the list is told on the
standing of the entries: the key, whether the entry may be cancelled, and whether it is STORED. -/

namespace Sys2Proof.Machine
/-! ### Standings -/

/-- What a FLUSH reads of an entry, and what it leaves of one. -/
structure Standing where
  key : Key
  cancellable : Bool
  stored : Bool

/-- The standing of an entry. -/
def Entry.standing (e : Entry) : Standing := ⟨e.key, e.cancellable, e.isStored⟩

/-- The standings of the queue, in its order. -/
def State.standings (s : State) : List Standing := s.fq.entries.map Entry.standing

/-- R19: what a cancelling leaves: a STORED entry stays and is leaving, any other that may be cancelled is gone. -/
def Standing.cancelled (v : Standing) : Option Standing :=
  if v.cancellable then (if v.stored then some { v with cancellable := false } else none) else some v

/-- R20: what the cancelling of some keys leaves. -/
def Standing.cancelledIf (p : Key → Bool) (v : Standing) : Option Standing :=
  if p v.key then v.cancelled else some v

theorem Standing.cancelled_of_fixed {v : Standing} (h : v.cancellable = false) : v.cancelled = some v := by
  simp [Standing.cancelled, h]

theorem Standing.cancelled_eq_some {v w : Standing} (h : v.cancelled = some w) : w.key = v.key ∧ w.cancellable = false := by
  unfold Standing.cancelled at h
  split at h
  · split at h
    · obtain rfl := Option.some.inj h
      exact ⟨rfl, rfl⟩
    · cases h
  next hc =>
    obtain rfl := Option.some.inj h
    exact ⟨rfl, Bool.not_eq_true _ ▸ hc⟩

theorem Standing.cancelledIf_key {p : Key → Bool} {v w : Standing} (h : v.cancelledIf p = some w) : w.key = v.key := by
  unfold Standing.cancelledIf at h
  split at h
  · exact (Standing.cancelled_eq_some h).1
  · rw [Option.some.inj h]

theorem Standing.cancelledIf_congr {p q : Key → Bool} {v : Standing} (h : p v.key = q v.key) :
    v.cancelledIf p = v.cancelledIf q := by
  rw [Standing.cancelledIf, Standing.cancelledIf, h]

theorem Standing.cancelledIf_of_not {p : Key → Bool} {v : Standing} (h : p v.key = false) : v.cancelledIf p = some v := by
  simp [Standing.cancelledIf, h]

/-- An entry that is STORED, EXPOSING or leaving stays in the list. -/
theorem Standing.cancelledIf_stays (p : Key → Bool) {v : Standing} (h : v.cancellable = false ∨ v.stored = true) :
    ∃ w, v.cancelledIf p = some w := by
  unfold Standing.cancelledIf Standing.cancelled
  rcases h with h | h
  · exact ⟨v, by simp [h]⟩
  · rw [if_pos h]
    split
    · split <;> exact ⟨_, rfl⟩
    · exact ⟨v, rfl⟩

/-- Cancelling spares the entries of the other keys. -/
theorem Standing.filterMap_cancelledIf_others (p : Key → Bool) (vs : List Standing) :
    ((vs.filterMap (·.cancelledIf p)).filter fun v => !p v.key).map Standing.key =
      (vs.filter fun v => !p v.key).map Standing.key := by
  induction vs with
  | nil => rfl
  | cons v vs ih =>
    cases hp : p v.key with
    | false =>
      rw [List.filterMap_cons_some (Standing.cancelledIf_of_not hp), List.filter_cons_of_pos (by simp [hp]),
        List.filter_cons_of_pos (by simp [hp]), List.map_cons, List.map_cons, ih]
    | true =>
      rw [List.filter_cons_of_neg (a := v) (by simp [hp]), ← ih]
      cases hc : v.cancelledIf p with
      | none => rw [List.filterMap_cons_none hc]
      | some w =>
        rw [List.filterMap_cons_some hc, List.filter_cons_of_neg (by simp [Standing.cancelledIf_key hc, hp])]

/-! ### One key of the list -/

/-- What the cancelling of a list of keys leaves of a standing. -/
def Standing.cancelledIn (ks : List Key) : Standing → Option Standing :=
  Standing.cancelledIf fun k => decide (k ∈ ks)

/-- How many of the standings are cancelled under a list of keys. -/
def countCancelled (ks : List Key) (vs : List Standing) : Nat :=
  vs.countP fun v => decide (v.key ∈ ks) && v.cancellable

theorem Standing.cancelledIn_cons_of_ne {k : Key} {ks : List Key} {v : Standing} (h : v.key ≠ k) :
    v.cancelledIn (k :: ks) = v.cancelledIn ks := by
  simp [Standing.cancelledIn, Standing.cancelledIf, h]

/-- A cancelling done is not done again. -/
theorem Standing.cancelledIn_cons_self {ks : List Key} (v : Standing) :
    v.cancelledIn (v.key :: ks) = v.cancelled.bind (·.cancelledIn ks) := by
  have again {w : Standing} (h : w.cancellable = false) : w.cancelledIn ks = some w := by
    simp [Standing.cancelledIn, Standing.cancelledIf, Standing.cancelled_of_fixed h]
  have hself : v.cancelledIn (v.key :: ks) = v.cancelled := by simp [Standing.cancelledIn, Standing.cancelledIf]
  rw [hself]
  cases hc : v.cancelled with
  | none => rfl
  | some w => exact (again (Standing.cancelled_eq_some hc).2).symm

theorem filterMap_cancelledIn_of_ne {k : Key} {ks : List Key} {vs : List Standing} (h : ∀ v ∈ vs, v.key ≠ k) :
    vs.filterMap (Standing.cancelledIn (k :: ks)) = vs.filterMap (Standing.cancelledIn ks) :=
  List.filterMap_congr fun v hv => Standing.cancelledIn_cons_of_ne (h v hv)

theorem countCancelled_of_ne {k : Key} {ks : List Key} {vs : List Standing} (h : ∀ v ∈ vs, v.key ≠ k) :
    countCancelled (k :: ks) vs = countCancelled ks vs :=
  List.countP_congr fun v hv => by simp [h v hv]

/-- R20: the first key of the list is cancelled, then the others. -/
theorem filterMap_cancelledIn_cons {k : Key} {ks : List Key} {xs ys : List Standing} {v : Standing}
    (hxs : ∀ x ∈ xs, x.key ≠ k) (hys : ∀ y ∈ ys, y.key ≠ k) (hk : v.key = k) :
    (xs ++ v :: ys).filterMap (Standing.cancelledIn (k :: ks)) =
      (xs ++ (v.cancelled.toList ++ ys)).filterMap (Standing.cancelledIn ks) := by
  subst hk
  have hself : [v].filterMap (Standing.cancelledIn (v.key :: ks)) =
      v.cancelled.toList.filterMap (Standing.cancelledIn ks) := by
    cases hc : v.cancelled with
    | none => simp [Standing.cancelledIn_cons_self, hc]
    | some w => simp [List.filterMap_cons, Standing.cancelledIn_cons_self, hc]
  rw [← List.singleton_append (x := v), List.filterMap_append, List.filterMap_append, List.filterMap_append,
    List.filterMap_append, filterMap_cancelledIn_of_ne hxs, filterMap_cancelledIn_of_ne hys, hself]

theorem countCancelled_cons {k : Key} {ks : List Key} {xs ys : List Standing} {v : Standing}
    (hxs : ∀ x ∈ xs, x.key ≠ k) (hys : ∀ y ∈ ys, y.key ≠ k) (hk : v.key = k) (hc : v.cancellable = true) :
    countCancelled (k :: ks) (xs ++ v :: ys) = countCancelled ks (xs ++ (v.cancelled.toList ++ ys)) + 1 := by
  have hself : countCancelled (k :: ks) [v] = 1 := by simp [countCancelled, hk, hc]
  have hleft : countCancelled ks v.cancelled.toList = 0 := by
    unfold countCancelled
    rw [List.countP_eq_zero]
    intro w hw
    simp [(Standing.cancelled_eq_some (Option.mem_toList.mp hw)).2]
  have happend (ks : List Key) (us vs : List Standing) :
      countCancelled ks (us ++ vs) = countCancelled ks us + countCancelled ks vs := List.countP_append
  rw [← List.singleton_append (x := v), happend, happend, happend, happend, countCancelled_of_ne hxs, countCancelled_of_ne hys,
    hself, hleft]
  omega

/-- A key whose entry may not be cancelled, or that no entry has, changes nothing. -/
theorem filterMap_cancelledIn_idle {k : Key} {ks : List Key} {vs : List Standing}
    (h : ∀ v ∈ vs, v.key = k → v.cancellable = false) :
    vs.filterMap (Standing.cancelledIn (k :: ks)) = vs.filterMap (Standing.cancelledIn ks) ∧
    countCancelled (k :: ks) vs = countCancelled ks vs := by
  refine ⟨List.filterMap_congr fun v hv => ?_, List.countP_congr fun v hv => ?_⟩
  · by_cases hk : v.key = k
    · subst hk
      rw [Standing.cancelledIn_cons_self, Standing.cancelled_of_fixed (h v hv rfl), Option.bind_some]
    · exact Standing.cancelledIn_cons_of_ne hk
  · by_cases hk : v.key = k
    · simp [h v hv hk]
    · simp [hk]

/-! ### Standings after window entry and leaving -/

theorem Entry.entered_standing (e : Entry) : e.entered.standing = e.standing := by
  have hstored : e.entered.isStored = e.isStored := by
    rw [Entry.isStored_iff_table, Entry.isStored_iff_table, Entry.entered_core]
  have hcancellable : e.entered.cancellable = e.cancellable := by
    rcases e.entered_cases with h | ⟨hq, h | h⟩ <;> rw [h]
    · simp [Entry.cancellable, Entry.withState, Entry.leaving, Entry.stored?, hq]
    · simp [Entry.cancellable, Entry.withState, Entry.leaving, Entry.stored?, hq]
  rw [Entry.standing, Entry.standing, hstored, hcancellable, Entry.entered_key]

/-- R2: a STORED entry that begins to leave stands as a cancelled one does. -/
theorem Entry.leave_standing {e : Entry} (hst : e.isStored = true) (hc : e.cancellable = true) (c : Completion) :
    e.standing.cancelled = some (e.leave c).standing := by
  obtain ⟨i, q, hbody⟩ : ∃ i q, e.body = .stored i q := by
    cases hb : e.body with
    | stored i q => exact ⟨i, q, rfl⟩
    | flat | runout => simp [Entry.isStored, Entry.stored?, hb] at hst
  have hleft : (e.leave c).standing = ⟨e.key, false, true⟩ := by
    rw [Entry.leave_stored hbody]
    simp [Entry.standing, Entry.cancellable, Entry.leaving, Entry.stored?, Entry.isStored]
  rw [hleft]
  simp [Standing.cancelled, Entry.standing, hst, hc]

/-! ### One entry cancelled -/

/-- What a FLUSH relies on from one cancelling to the next. -/
structure State.Flushable (s : State) : Prop where
  distinct : (s.fq.entries.map Entry.key).Nodup
  tables : s.tablesInRange
  unrejected : ∀ e ∈ s.fq.entries, e.rejected? = none

/-- Only the list of entries, the strip reader, frame memory, the sets and the attention lines differ. -/
def State.queueOnly (s t : State) : Prop := ∃ es sr fmc cs au,
  t = { s with fq := { s.fq with entries := es }, sr := sr, fmc := fmc, cs := cs, au := au }

theorem State.queueOnly_refl (s : State) : s.queueOnly s := ⟨_, _, _, _, _, rfl⟩

theorem State.queueOnly_trans {s t u : State} (h : s.queueOnly t) (k : t.queueOnly u) : s.queueOnly u := by
  obtain ⟨_, _, _, _, _, rfl⟩ := h
  obtain ⟨_, _, _, _, _, rfl⟩ := k
  exact ⟨_, _, _, _, _, rfl⟩

/-- Where no entry waits in REJECTED the head is not taken. -/
theorem State.settleHead_of_unrejected {s : State} (h : ∀ e ∈ s.fq.entries, e.rejected? = none) : s.settleHead = s := by
  rcases State.settleHead_cases fun e he _ => h e he with hs | ⟨e, r, hhead, hr, -⟩
  · exact hs
  · rw [h e (List.mem_of_head? hhead)] at hr
    cases hr

/-- R19: one cancelling, on the list. -/
theorem State.cancelEntry_entries {s : State} (h : s.Flushable) {k : Key} {e : Entry} {xs ys : List Entry}
    (hes : s.fq.entries = xs ++ e :: ys) (hxs : ∀ x ∈ xs, x.key ≠ k) (hk : e.key = k)
    (hpos : positionOf s.fq.entries k = some xs.length) : s.queueOnly (s.cancelEntry e) ∧
    (s.cancelEntry e).fq.entries =
      if e.isStored then xs ++ e.leave .cancelled :: ys else removedAt s.fq.entries xs.length := by
  cases hst : e.isStored with
  | true =>
    obtain ⟨ch, w, m, hleave⟩ := s.beginLeaving_shape k .cancelled
    have hcancel : s.cancelEntry e = s.beginLeaving k .cancelled := by simp [State.cancelEntry, hst, hk]
    rw [hcancel, hleave]
    exact ⟨⟨_, _, _, _, _, rfl⟩, by rw [if_pos rfl, hes, changeEntry_split _ hxs hk]⟩
  | false =>
    obtain ⟨a, b, au, hremove, -⟩ := State.removeAt_shape (s := s) (pos := xs.length) (e := e) (by simp [hes])
    have hsettled : (s.removeAt xs.length).settleHead = s.removeAt xs.length := by
      refine State.settleHead_of_unrejected fun x hx => ?_
      rw [hremove] at hx
      rcases mem_removedAt hx with hx | ⟨y, hy, rfl⟩
      · exact h.unrejected x hx
      · exact Entry.entered_rejected? (h.unrejected y hy)
    have hcancel : s.cancelEntry e = s.removeAt xs.length := by
      simp [State.cancelEntry, hst, State.removeEntry, hk, hpos, hsettled]
    rw [hcancel, hremove]
    exact ⟨⟨_, _, _, _, _, rfl⟩, rfl⟩

theorem State.cancelEntry_flushable {s : State} (h : s.Flushable) {k : Key} {e : Entry}
    (hfind : findEntry s.fq.entries k = some e) : (s.cancelEntry e).Flushable := by
  obtain ⟨xs, ys, hes, hxs, hk, hpos⟩ := findEntry_split hfind
  obtain ⟨-, hentries⟩ := State.cancelEntry_entries h hes hxs hk hpos
  have hcores : ((s.cancelEntry e).fq.entries.map Entry.core).Sublist (s.fq.entries.map Entry.core) := by
    rw [hentries]
    split
    · rw [hes, List.map_append, List.map_append, List.map_cons, List.map_cons, Entry.core_leave]
    · rw [removedAt_map _ _ _ Entry.entered_core]
      exact List.eraseIdx_sublist _ _
  have hkeys := hcores.map EntryCore.key
  rw [List.map_map, List.map_map] at hkeys
  refine ⟨hkeys.nodup h.distinct, State.tablesInRange_of_sub h.tables fun c hc => hcores.subset hc, fun x hx => ?_⟩
  rw [hentries] at hx
  split at hx
  · rw [← changeEntry_split (Entry.leave .cancelled) hxs hk, ← hes] at hx
    rcases mem_changeEntry hx with hx | ⟨y, hy, rfl⟩
    · exact h.unrejected x hx
    · exact Entry.leave_rejected? (h.unrejected y hy) _
  · rcases mem_removedAt hx with hx | ⟨y, hy, rfl⟩
    · exact h.unrejected x hx
    · exact Entry.entered_rejected? (h.unrejected y hy)

/-- R19: one cancelling, on the standings. -/
theorem State.cancelEntry_standings {s : State} (h : s.Flushable) {k : Key} {e : Entry}
    (hfind : findEntry s.fq.entries k = some e) (hc : e.cancellable = true) : ∃ xs ys,
    s.standings = xs ++ e.standing :: ys ∧ (∀ x ∈ xs, x.key ≠ k) ∧ (∀ y ∈ ys, y.key ≠ k) ∧ e.standing.key = k ∧
    (s.cancelEntry e).standings = xs ++ (e.standing.cancelled.toList ++ ys) := by
  obtain ⟨xs, ys, hes, hxs, hk, hpos⟩ := findEntry_split hfind
  obtain ⟨-, hentries⟩ := State.cancelEntry_entries h hes hxs hk hpos
  have hys : ∀ y ∈ ys, y.key ≠ k := by
    have hdistinct := h.distinct
    rw [hes, List.map_append, List.map_cons, hk] at hdistinct
    have hnot := (List.nodup_cons.mp (List.nodup_append.mp hdistinct).2.1).1
    exact fun y hy heq => hnot (heq ▸ List.mem_map_of_mem hy)
  refine ⟨xs.map Entry.standing, ys.map Entry.standing, by simp [State.standings, hes], ?_, ?_, hk, ?_⟩
  · simpa [Entry.standing] using hxs
  · simpa [Entry.standing] using hys
  · rw [State.standings, hentries]
    cases hst : e.isStored with
    | true =>
      rw [Entry.leave_standing hst hc .cancelled]
      simp
    | false =>
      have hgone : e.standing.cancelled = none := by simp [Standing.cancelled, Entry.standing, hst, hc]
      rw [if_neg Bool.false_ne_true, removedAt_map _ _ _ Entry.entered_standing, List.eraseIdx_map, hes, eraseIdx_split,
        hgone]
      simp

/-! ### All the keys -/

/-- R20: what the cancelling of a list of keys leaves, and how many it cancels. -/
structure State.Cancels (s : State) (ks : List Key) (r : State × Nat) : Prop where
  flushable : r.1.Flushable
  queueOnly : s.queueOnly r.1
  standings : r.1.standings = s.standings.filterMap (Standing.cancelledIn ks)
  count : r.2 = countCancelled ks s.standings

theorem State.cancelAll_cancels (ks : List Key) {s : State} (h : s.Flushable) : s.Cancels ks (s.cancelAll ks) := by
  induction ks generalizing s with
  | nil =>
    refine ⟨h, s.queueOnly_refl, ?_, by simp [State.cancelAll, countCancelled]⟩
    have hnone : Standing.cancelledIn [] = some := by
      funext v
      simp [Standing.cancelledIn, Standing.cancelledIf]
    rw [hnone, List.filterMap_some]
    rfl
  | cons k ks ih =>
    have idle (hidle : ∀ v ∈ s.standings, v.key = k → v.cancellable = false)
        (hstep : s.cancelAll (k :: ks) = s.cancelAll ks) :
        s.Cancels (k :: ks) (s.cancelAll (k :: ks)) := by
      obtain ⟨hleft, hcount⟩ := filterMap_cancelledIn_idle (ks := ks) hidle
      obtain ⟨hflush, honly, hstand, hnumber⟩ := ih h
      rw [hstep]
      exact ⟨hflush, honly, hstand.trans hleft.symm, hnumber.trans hcount.symm⟩
    cases hfind : findEntry s.fq.entries k with
    | none =>
      refine idle (fun v hv hk => ?_) (by simp [State.cancelAll, hfind])
      obtain ⟨e, he, rfl⟩ := List.mem_map.mp hv
      exact absurd hk (findEntry_eq_none.mp hfind e he)
    | some e =>
      cases hc : e.cancellable with
      | false =>
        refine idle (fun v hv hk => ?_) (by simp [State.cancelAll, hfind, hc])
        obtain ⟨x, hx, rfl⟩ := List.mem_map.mp hv
        obtain ⟨us, vs, hes, -, hek, -⟩ := findEntry_split hfind
        obtain rfl : x = e :=
          List.inj_on_of_nodup_map h.distinct hx (by simp [hes]) ((show x.key = k from hk).trans hek.symm)
        exact hc
      | true =>
        obtain ⟨xs, ys, hes, hxs, hys, hk, hleft⟩ := State.cancelEntry_standings h hfind hc
        obtain ⟨us, vs, hsplit, hus, hek, hpos⟩ := findEntry_split hfind
        obtain ⟨hflush, honly, hstand, hcount⟩ := ih (State.cancelEntry_flushable h hfind)
        have hstep : s.cancelAll (k :: ks) =
            (((s.cancelEntry e).cancelAll ks).1, ((s.cancelEntry e).cancelAll ks).2 + 1) := by
          simp [State.cancelAll, hfind, hc]
        rw [hstep]
        refine ⟨hflush, State.queueOnly_trans (State.cancelEntry_entries h hsplit hus hek hpos).1 honly, ?_, ?_⟩
        · change ((s.cancelEntry e).cancelAll ks).1.standings = _
          rw [hstand, hes, hleft, filterMap_cancelledIn_cons hxs hys hk]
        · change ((s.cancelEntry e).cancelAll ks).2 + 1 = _
          rw [hcount, hes, hleft, countCancelled_cons hxs hys hk hc]

/-! ### The settling of O33 -/

theorem mem_keysOf {es : List Entry} {n : Nat} {e : Entry} (he : e ∈ es) :
    e.key ∈ keysOf es n ↔ e.key.submitter = n := by
  have : e.key ∈ es.map Entry.key := List.mem_map_of_mem he
  simp [keysOf, this]

/-- The keys of a submitter, as a test. -/
def ofSubmitter (n : Nat) (k : Key) : Bool := decide (k.submitter = n)

/-- R20: on the standings of a queue the listed keys of a submitter are its submitter's. -/
theorem State.flush_standings (n : Nat) {s : State} (h : s.Flushable) :
    (s.cancelAll (keysOf s.fq.entries n)).1.standings = s.standings.filterMap (·.cancelledIf (ofSubmitter n)) ∧
    (s.cancelAll (keysOf s.fq.entries n)).2 =
      s.fq.entries.countP fun e => decide (e.key.submitter = n) && e.cancellable := by
  obtain ⟨-, -, hstand, hcount⟩ := State.cancelAll_cancels (keysOf s.fq.entries n) h
  refine ⟨hstand.trans (List.filterMap_congr fun v hv => ?_), hcount.trans ?_⟩
  · obtain ⟨e, he, rfl⟩ := List.mem_map.mp hv
    have hkey : e.standing.key ∈ keysOf s.fq.entries n ↔ e.standing.key.submitter = n := mem_keysOf he
    exact Standing.cancelledIf_congr (decide_eq_decide.mpr hkey)
  · rw [countCancelled, State.standings, List.countP_map]
    refine List.countP_congr fun e he => ?_
    have hkey : e.standing.key ∈ keysOf s.fq.entries n ↔ e.key.submitter = n := mem_keysOf he
    simp only [Function.comp, hkey]
    rfl

/-- Settles O33: the entries of the submitter are cancelled one after another, and without a start the end of the event
leaves the list. -/
theorem flushCancelsOneSubmitter : Obligations.FlushCancelsOneSubmitter := by
  intro a n s htakes hrole hname hlow hhigh hno htables hbounded hunrejected c mine
  have h : s.Flushable := ⟨hbounded.2, htables, hunrejected⟩
  let r := s.cancelAll (keysOf s.fq.entries (n.getD a.toNat))
  obtain ⟨hflush, honly, -, -⟩ := State.cancelAll_cancels (keysOf s.fq.entries (n.getD a.toNat)) h
  obtain ⟨hstand, hcount⟩ := State.flush_standings (n.getD a.toNat) h
  obtain ⟨es, sr, fmc, cs, au, hr⟩ := honly
  have hquiet : State.settle s r.1 = r.1.quiesce := State.settle_of_noStart hno (by rw [hr]) (by rw [hr])
  obtain ⟨g, st, f, p, ch, m, pa, pb, i, hq, -⟩ := r.1.quiesce_shape hflush.tables
  have hentries : (State.settle s r.1).fq.entries = r.1.fq.entries := by rw [hquiet, hq]
  have hdecided : decideFlush a (.fits n) s = accept (State.settle s r.1) (.cancelled r.2) :=
    decideNamed_taken _ s hrole hname hlow hhigh
  refine ⟨State.settle s r.1, ?_, fun e he hmine => ?_, ?_, fun e he hstays => ?_, ?_⟩
  · refine (onMessage_taken _ _ _ _ s htakes).trans ?_
    rw [hdecided, hcount]
    rfl
  · rw [hentries] at he
    have hin : e.standing ∈ r.1.standings := List.mem_map_of_mem he
    rw [hstand, List.mem_filterMap] at hin
    obtain ⟨v, -, hv⟩ := hin
    have hkey : ofSubmitter (n.getD a.toNat) v.key = true := Standing.cancelledIf_key hv ▸ hmine
    rw [Standing.cancelledIf, if_pos hkey] at hv
    exact (Standing.cancelled_eq_some hv).2
  · have others (es : List Entry) : (es.filter fun e => !mine e).map Entry.key =
        ((es.map Entry.standing).filter fun v => !ofSubmitter (n.getD a.toNat) v.key).map Standing.key := by
      rw [List.filter_map, List.map_map]
      rfl
    have hspared := Standing.filterMap_cancelledIf_others (ofSubmitter (n.getD a.toNat)) s.standings
    rw [← hstand] at hspared
    rw [others, others, hentries]
    exact hspared
  · have hstanding : e.standing.cancellable = false ∨ e.standing.stored = true := by
      rcases hstays with hs | hs | hs
      · exact .inl (by simp [Entry.standing, Entry.cancellable, hs])
      · exact .inl (by simp [Entry.standing, Entry.cancellable, hs])
      · exact .inr hs
    obtain ⟨w, hw⟩ := Standing.cancelledIf_stays (ofSubmitter (n.getD a.toNat)) hstanding
    have hin : w ∈ r.1.standings := by
      rw [hstand]
      exact List.mem_filterMap.mpr ⟨e.standing, List.mem_map_of_mem he, hw⟩
    obtain ⟨x, hx, rfl⟩ := List.mem_map.mp hin
    exact ⟨x, hentries ▸ hx, Standing.cancelledIf_key hw⟩
  · rw [hquiet, hq, hr]
    exact ⟨rfl, rfl, rfl, rfl, rfl⟩

end Sys2Proof.Machine
end

section
/-! ## Frame memory through an event

What an event writes to frame memory (R36, R171, R176, R203) depends on a few fields of the state. State.writeCore
gathers them; WriteCore.Follows says what every operation of an event does to them. -/

namespace Sys2Proof.Machine

/-- What the writes of the part to frame memory read and change: the bytes, the write-back list with its descriptor
position, the control byte of a marking in progress, the entries, and the record count. -/
structure WriteCore where
  mem : Memory
  epoch : Nat
  list : List Key
  pos : Nat
  mark : Option Byte
  entries : List EntryCore
  count : Nat

/-- The part of the state that the writes to frame memory depend on. -/
def State.writeCore (s : State) : WriteCore :=
  ⟨s.fmc.mem, s.fmc.epoch, s.sr.wbList, s.sr.wbPos, s.sr.channel.mark?, s.queueCore.entries, s.rm.count⟩

/-- One byte of frame memory, as State.readByte reads it. -/
def WriteCore.byte (c : WriteCore) (a : Nat) : Byte := (c.mem.find a).getD (Config.undefinedByte c.epoch a)

/-- R36, R203: the bytes of a table that a marking may write while its write-back stands at a descriptor position, or
begins anew: the control byte there, and the control byte and the completion word of descriptor 0. -/
def markedAt (table pos b : Nat) : Prop :=
  b = table ∨ b = table + 16 * pos ∨ table + 12 ≤ b ∧ b < table + 16

theorem markedAt_of_zero {table b : Nat} (pos : Nat) (h : markedAt table 0 b) : markedAt table pos b :=
  h.elim .inl fun h => h.elim .inl fun h => .inr (.inr h)

/-- R171, R176: the record count does not fall, and in the reel-map region only the slots of the records appended
change. -/
def WriteCore.mapGrows (c d : WriteCore) : Prop :=
  c.count ≤ d.count ∧
    ∀ b, Config.mapBase ≤ b → b < slotOffset c.count ∨ slotOffset d.count ≤ b → d.byte b = c.byte b

/-- What every operation of an event leaves of the first of two cores, where no write-back ends: a key stays in the
write-back list, no entry joins and no STORED one leaves, a marking stays in progress, and below the reel-map region
the bytes stand but for those of one marking, which is then in progress. -/
structure WriteCore.Follows (c d : WriteCore) : Prop where
  listed : ∀ k ∈ c.list, k ∈ d.list
  old : ∀ e ∈ d.entries, e ∈ c.entries
  stays : ∀ e ∈ c.entries, e.table.isSome = true → e ∈ d.entries
  marking : c.mark.isSome = true → d.mark.isSome = true
  position : d.mark.isSome = true ∨ d.pos = c.pos ∨ d.pos = 0
  below : ∀ b < Config.mapBase, d.byte b = c.byte b ∨
    c.mark = none ∧ d.mark.isSome = true ∧ ∃ e ∈ c.entries, e.key ∈ d.list ∧ ∃ o, e.table = some o ∧ markedAt o c.pos b
  map : c.mapGrows d

theorem slotOffset_mono {m n : Nat} (h : m ≤ n) : slotOffset m ≤ slotOffset n := by
  simp only [slotOffset, Config.recordSize]; omega

theorem WriteCore.mapGrows_of_eq {c d : WriteCore} (hc : d.count = c.count)
    (hb : ∀ b, Config.mapBase ≤ b → d.byte b = c.byte b) : c.mapGrows d := ⟨hc.ge, fun b hbase _ => hb b hbase⟩

theorem WriteCore.mapGrows.trans {c d e : WriteCore} (h : c.mapGrows d) (k : d.mapGrows e) : c.mapGrows e := by
  refine ⟨h.1.trans k.1, fun b hbase hb => ?_⟩
  have hlow := slotOffset_mono h.1
  have hhigh := slotOffset_mono k.1
  rw [k.2 b hbase (by omega), h.2 b hbase (by omega)]

theorem WriteCore.Follows.refl (c : WriteCore) : c.Follows c :=
  ⟨fun _ hk => hk, fun _ he => he, fun _ he _ => he, id, .inr (.inl rfl), fun _ _ => .inl rfl,
    mapGrows_of_eq rfl fun _ _ => rfl⟩

/-- A second marking cannot fall into the same event, since the first one is still in progress. -/
theorem WriteCore.Follows.trans {c d e : WriteCore} (h : c.Follows d) (k : d.Follows e) : c.Follows e := by
  refine ⟨fun key hk => k.listed key (h.listed key hk), fun x hx => h.old x (k.old x hx),
    fun x hx ht => k.stays x (h.stays x hx ht) ht, fun hm => k.marking (h.marking hm), ?_, fun b hb => ?_,
    h.map.trans k.map⟩
  · rcases k.position with hm | hp | hp
    · exact .inl hm
    · rcases h.position with hm | hq | hq
      · exact .inl (k.marking hm)
      · exact .inr (.inl (hp.trans hq))
      · exact .inr (.inr (hp.trans hq))
    · exact .inr (.inr hp)
  · rcases h.below b hb with hfirst | ⟨hfree, hmark, x, hx, hlist, hmarked⟩
    · rcases k.below b hb with hsecond | ⟨hfree, hmark, x, hx, hlist, o, ho, hmarked⟩
      · exact .inl (hsecond.trans hfirst)
      · have hfree' : c.mark = none := by
          by_contra hne
          have := h.marking (Option.isSome_iff_ne_none.mpr hne)
          rw [hfree] at this
          cases this
        refine .inr ⟨hfree', hmark, x, h.old x hx, hlist, o, ho, ?_⟩
        rcases h.position with hm | hq | hq
        · rw [hfree] at hm
          cases hm
        · rwa [← hq]
        · exact markedAt_of_zero c.pos (hq ▸ hmarked)
    · rcases k.below b hb with hsecond | ⟨hfree', -, -⟩
      · exact .inr ⟨hfree, k.marking hmark, x, hx, k.listed _ hlist, hmarked⟩
      · rw [hfree'] at hmark
        cases hmark
end Sys2Proof.Machine
end

section
/-! ## The operations of an event and frame memory -/

namespace Sys2Proof.Machine

/-- Every operation on the way from the first state to the second does to frame memory what WriteCore.Follows says. -/
def State.follows (s t : State) : Prop := s.writeCore.Follows t.writeCore

theorem State.follows_refl (s : State) : s.follows s := WriteCore.Follows.refl _

theorem State.follows.trans {s t u : State} (h : s.follows t) (k : t.follows u) : s.follows u :=
  WriteCore.Follows.trans h k

theorem State.follows_of_core {s t : State} (h : t.writeCore = s.writeCore) : s.follows t := by
  unfold State.follows
  rw [h]
  exact .refl _

/-- An operation that leaves the core may be followed by any other. -/
theorem State.follows.of_core {s t u : State} (h : s.follows t) (hc : u.writeCore = t.writeCore) : s.follows u :=
  h.trans (State.follows_of_core hc)

theorem State.byte_writeCore (s : State) (b : Nat) : s.writeCore.byte b = s.readByte b := rfl

/-! ### Operations that leave what the writes depend on -/

theorem State.raise_writeCore (s : State) (e : Event) : (s.raise e).writeCore = s.writeCore := rfl

theorem State.withGc_writeCore (s : State) (v : GateController) : (s.withGc v).writeCore = s.writeCore := rfl

theorem State.advanceFilm_writeCore (s : State) (n : Nat) : (s.advanceFilm n).writeCore = s.writeCore := rfl

@[simp] theorem State.raiseAll_writeCore (s : State) (es : List Event) : (s.raiseAll es).writeCore = s.writeCore := by
  obtain ⟨au, h⟩ := s.raiseAll_shape es
  rw [h]; rfl

@[simp] theorem State.addHeld_writeCore (s : State) (r : HeldReason) : (s.addHeld r).writeCore = s.writeCore := by
  obtain ⟨au, h, -⟩ := s.addHeld_spec r
  rw [h]; rfl

theorem State.completeRejection_writeCore (s : State) (e : Entry) (r : RejectReason) :
    (s.completeRejection e r).writeCore = s.writeCore :=
  State.addHeld_writeCore (s.withFq { s.fq with rejection := some ⟨e.serial, e.key, r⟩ }) .rejected

@[simp] theorem State.filmEnd_writeCore (s : State) : s.filmEnd.writeCore = s.writeCore := by
  obtain ⟨au, h, -⟩ := s.filmEnd_spec
  rw [h]; rfl

@[simp] theorem State.mapExposure_writeCore (s : State) (f : Exposure → Exposure) :
    (s.mapExposure f).writeCore = s.writeCore := by
  obtain ⟨g, h⟩ := s.mapExposure_shape f
  rw [h]; rfl

@[simp] theorem State.updateIdle_writeCore (s : State) : s.updateIdle.writeCore = s.writeCore := by
  obtain ⟨i, h⟩ := s.updateIdle_shape
  rw [h]; rfl

@[simp] theorem State.wakeIfDue_writeCore (s : State) : s.wakeIfDue.writeCore = s.writeCore := by
  unfold State.wakeIfDue; split <;> rfl

@[simp] theorem State.recordWritten_writeCore (s : State) : s.recordWritten.writeCore = s.writeCore := by
  simp [State.writeCore]

@[simp] theorem State.recordsEnd_writeCore (b s : State) : (State.recordsEnd b s).writeCore = s.writeCore := by
  simp [State.writeCore]

@[simp] theorem State.gateAfterAbort_writeCore (s : State) (r : SpoilReason) :
    (s.gateAfterAbort r).writeCore = s.writeCore := by
  cases r <;> rfl

theorem State.withFq_writeCore (s : State) (v : FrameQueue)
    (h : v.entries.map Entry.core = s.fq.entries.map Entry.core) : (s.withFq v).writeCore = s.writeCore := by
  simp [State.writeCore, State.withFq_queueCore s v h]

theorem State.changeAt_writeCore (s : State) (n : Nat) (f : Entry → Entry) (hf : ∀ e, (f e).core = e.core) :
    (s.withEntries (changeAt s.fq.entries n f)).writeCore = s.writeCore :=
  s.withFq_writeCore _ (changeAt_map _ _ _ _ hf)

theorem State.changeEntry_writeCore (s : State) (k : Key) (f : Entry → Entry) (hf : ∀ e, (f e).core = e.core) :
    (s.withEntries (changeEntry s.fq.entries k f)).writeCore = s.writeCore :=
  s.withFq_writeCore _ (changeEntry_map _ _ _ _ hf)

@[simp] theorem State.headSpoiled_writeCore (s : State) : s.headSpoiled.writeCore = s.writeCore := by
  rw [State.headSpoiled, State.addHeld_writeCore, State.changeAt_writeCore _ _ _ fun e => e.core_withState _]

@[simp] theorem State.beginExposure_writeCore (s : State) (e : Entry) (i : ImagePart) (c : SetContent) (q : Nat) :
    (s.beginExposure e i c q).writeCore = s.writeCore :=
  State.changeAt_writeCore s 0 _ fun e => e.core_withState _

@[simp] theorem State.stagingComplete_writeCore (s : State) (g : Staging) :
    (s.stagingComplete g).writeCore = s.writeCore :=
  State.changeEntry_writeCore
    (s.withSr { s.sr with staging := none, channel := { s.sr.channel with waitStage := false } }) g.key _
    fun e => (Entry.core_mapStored _ _ fun _ => by rfl).trans (e.core_withState _)

@[simp] theorem State.enterWindow_writeCore (s : State) (pos : Nat) : (s.enterWindow pos).writeCore = s.writeCore := by
  cases he : s.fq.entries[pos]? with
  | none => rw [State.enterWindow, he]
  | some e =>
    have hchanged := State.changeAt_writeCore s pos Entry.entered Entry.entered_core
    rw [State.enterWindow_eq he]
    cases e.windowPin with
    | none => exact hchanged
    | some r =>
      obtain ⟨a, b, hpin⟩ := s.takePin_shape r
      rw [Option.elim_some, hpin]
      exact hchanged

@[simp] theorem State.requestMarking_writeCore (s : State) : s.requestMarking.writeCore = s.writeCore := by
  unfold State.requestMarking; split <;> rfl

@[simp] theorem State.beginLine_writeCore (s : State) : s.beginLine.writeCore = s.writeCore := by
  unfold State.beginLine
  repeat' split
  next => exact State.mapExposure_writeCore s _
  next => exact State.mapExposure_writeCore s _
  all_goals rfl

@[simp] theorem State.takeLine_writeCore (s : State) (r : LineRecord) : (s.takeLine r).writeCore = s.writeCore :=
  State.mapExposure_writeCore s _

@[simp] theorem State.endLine_writeCore (s : State) (k : LineKind) : (s.endLine k).writeCore = s.writeCore :=
  State.mapExposure_writeCore s _

@[simp] theorem State.fetchBytes_writeCore (s : State) (e : Entry) (f : LineFetch) (bytes : List Byte) :
    (s.fetchBytes e f bytes).writeCore = s.writeCore := by
  unfold State.fetchBytes State.handOver; dsimp only
  repeat' split
  next => exact State.mapExposure_writeCore _ _
  all_goals rfl

@[simp] theorem State.haltScanner_writeCore (s : State) : s.haltScanner.writeCore = s.writeCore := by
  unfold State.haltScanner; cases s.stu.scanner <;> rfl

@[simp] theorem State.lock_writeCore (s : State) : s.lock.writeCore = s.writeCore := by
  unfold State.lock; dsimp only; split <;> rfl

@[simp] theorem State.judgeAcquiring_writeCore (s : State) (p : Option Nat) (known : Bool) :
    (s.judgeAcquiring p known).writeCore = s.writeCore := by
  unfold State.judgeAcquiring; dsimp only
  repeat' split
  any_goals rfl
  exact State.lock_writeCore _

/-! ### Grants of the channel -/

theorem State.readByte_writeMark_other (s : State) {a b : Nat} (control : Byte) (w : Option Completion) (n : Nat)
    (ha : b ≠ a) (hw : w.isSome = true → ¬ (a + 12 ≤ b ∧ b < a + 16)) :
    (s.writeMark a control (w.map (completionWord · n))).readByte b = s.readByte b := by
  have hcontrol : (s.writeBytes a [markedControl control]).readByte b = s.readByte b :=
    State.readByte_writeBytes_other _ _ _ _ (by simp only [List.length_cons, List.length_nil]; omega)
  cases w with
  | none => exact hcontrol
  | some c =>
    refine (State.readByte_writeBytes_other _ _ _ _ ?_).trans hcontrol
    have := hw rfl
    simp only [completionWord, List.length_cons, List.length_nil]
    omega

@[simp] theorem State.writeMark_sr (s : State) (a : Nat) (control : Byte) (w : Option (List Byte)) :
    (s.writeMark a control w).sr = s.sr := by
  cases w <;> rfl

@[simp] theorem State.writeMark_queueCore (s : State) (a : Nat) (control : Byte) (w : Option (List Byte)) :
    (s.writeMark a control w).queueCore = s.queueCore := by
  cases w <;> rfl

@[simp] theorem State.writeMark_rm (s : State) (a : Nat) (control : Byte) (w : Option (List Byte)) :
    (s.writeMark a control w).rm = s.rm := by
  cases w <;> rfl

/-- R36, R64: the grant of a marking on a free channel. -/
theorem State.grantMark_follows (s : State) (hfree : s.sr.channel.busy = none) : s.follows s.grantMark := by
  have hmark : s.writeCore.mark = none := by simp [State.writeCore, ReadChannel.mark?, hfree]
  unfold State.grantMark
  split
  next e he =>
    obtain ⟨k, hk, hfind⟩ := Option.bind_eq_some_iff.mp he
    split
    next i p hbody =>
      have hword : (if s.sr.wbPos = 0 then p.completion.map (fun c => completionWord c i.exposed) else none) =
          (if s.sr.wbPos = 0 then p.completion else none).map (completionWord · i.exposed) := by split <;> rfl
      dsimp only
      split
      next hrange =>
        have hkept : s.mapKept (s.writeMark (p.tableOffset + Config.descriptorSize * s.sr.wbPos)
            (s.readByte (p.tableOffset + Config.descriptorSize * s.sr.wbPos)) _) :=
          State.writeMark_mapKept s.mapKept_refl _ _ (if s.sr.wbPos = 0 then p.completion else none) i.exposed hrange
        rw [hword]
        refine ⟨fun k hk => by simpa [State.writeCore] using hk, fun c hc => by simpa [State.writeCore] using hc,
          fun c hc _ => by simpa [State.writeCore] using hc, fun _ => rfl, .inl rfl, fun b _ => ?_,
          WriteCore.mapGrows_of_eq (by simp [State.writeCore]) hkept.2.2⟩
        by_cases hb : markedAt p.tableOffset s.sr.wbPos b
        · refine .inr ⟨hmark, rfl, e.core, List.mem_map_of_mem (List.mem_of_find?_eq_some hfind), ?_, p.tableOffset,
            by simp [Entry.core, Entry.stored?, hbody], hb⟩
          obtain ⟨-, -, -, -, rfl, -⟩ := findEntry_split hfind
          simpa [State.writeCore] using List.mem_of_head? hk
        · obtain ⟨hfirst, hcontrol, hcompletion⟩ : b ≠ p.tableOffset ∧ b ≠ p.tableOffset + 16 * s.sr.wbPos ∧
              ¬ (p.tableOffset + 12 ≤ b ∧ b < p.tableOffset + 16) := by simpa [markedAt] using hb
          refine .inl (s.readByte_writeMark_other _ _ _ hcontrol fun hw => ?_)
          have hpos : s.sr.wbPos = 0 := by
            by_contra hne
            simp [hne] at hw
          rwa [hpos]
      · exact s.follows_refl
    all_goals exact s.follows_refl
  · exact s.follows_refl

/-- The channel is replaced by one in which the same marking, or none, is in progress. -/
theorem State.withChannel_writeCore (s : State) (c : ReadChannel) (h : c.mark? = s.sr.channel.mark?) :
    (s.withChannel c).writeCore = s.writeCore := by
  simp [State.writeCore, State.withChannel, h, State.queueCore]

theorem State.grantFetch_writeCore (s : State) (hfree : s.sr.channel.busy = none) :
    s.grantFetch.writeCore = s.writeCore := by
  unfold State.grantFetch
  repeat' split
  all_goals exact s.withChannel_writeCore _ (by simp [ReadChannel.mark?, hfree])

theorem State.grantStage_writeCore (s : State) (hfree : s.sr.channel.busy = none) :
    s.grantStage.writeCore = s.writeCore := by
  unfold State.grantStage
  split
  all_goals exact s.withChannel_writeCore _ (by simp [ReadChannel.mark?, hfree])

/-- R65: a free channel grants a read, which writes nothing, or a marking. -/
theorem State.grant_follows (s : State) : s.follows s.grant := by
  unfold State.grant
  split
  · exact s.follows_refl
  next hfree =>
    split
    · exact State.follows_of_core (s.grantFetch_writeCore hfree)
    · split
      · exact s.grantMark_follows hfree
      · split
        · exact State.follows_of_core (s.grantStage_writeCore hfree)
        · exact s.follows_refl

/-- R65: a channel that no marking occupies is freed. -/
theorem State.freeChannel_follows (s : State) (h : s.sr.channel.mark? = none) : s.follows s.freeChannel :=
  (State.follows_of_core (s.withChannel_writeCore { s.sr.channel with busy := none } h.symm)).trans
    (State.grant_follows _)

theorem ReadChannel.mark?_of_fetch {c : ReadChannel} (h : c.fetch?.isSome = true) : c.mark? = none := by
  rcases c with ⟨_ | _ | _ | _, _, _, _⟩ <;> first | rfl | cases h

theorem ReadChannel.mark?_of_staging {c : ReadChannel} (h : c.staging?.isSome = true) : c.mark? = none := by
  rcases c with ⟨_ | _ | _ | _, _, _, _⟩ <;> first | rfl | cases h

theorem State.withdrawFetch_follows (s : State) : s.follows s.withdrawFetch := by
  unfold State.withdrawFetch; dsimp only
  split
  next h =>
    exact State.freeChannel_follows
      (s.withSr { s.sr with fetch := none, channel := { s.sr.channel with waitFetch := false } })
      (ReadChannel.mark?_of_fetch h)
  · exact s.follows_refl

theorem State.stopWalk_follows (s : State) (k : Key) : s.follows (s.stopWalk k) := by
  unfold State.stopWalk
  split
  · split
    · unfold State.discardStaging; dsimp only
      split
      next h =>
        exact State.freeChannel_follows
          (s.withSr { s.sr with staging := none, channel := { s.sr.channel with waitStage := false } })
          (ReadChannel.mark?_of_staging h)
      · exact s.follows_refl
    · exact s.follows_refl
  · exact s.follows_refl

/-! ### Entries that leave -/

theorem State.requestWriteBack_follows (s : State) (k : Key) : s.follows (s.requestWriteBack k) := by
  refine ⟨fun j hj => List.mem_append_left _ hj, fun _ he => he, fun _ he _ => he, id, .inr ?_, fun _ _ => .inl rfl,
    WriteCore.mapGrows_of_eq rfl fun _ _ => rfl⟩
  change (if s.sr.wbList.isEmpty then 0 else s.sr.wbPos) = _ ∨ (if s.sr.wbList.isEmpty then 0 else s.sr.wbPos) = 0
  split
  · exact .inr rfl
  · exact .inl rfl

theorem State.beginLeaving_follows (s : State) (k : Key) (c : Completion) : s.follows (s.beginLeaving k c) := by
  rw [State.beginLeaving_eq]
  have hchanged := State.changeEntry_writeCore (s.stopWalk k) k (Entry.leave c) fun e => e.core_leave c
  exact ((s.stopWalk_follows k).of_core hchanged).trans (State.requestWriteBack_follows _ k)

/-- R14: a removal writes nothing to frame memory. -/
theorem State.removeAt_writeCore (s : State) (pos : Nat) :
    (s.removeAt pos).writeCore = { s.writeCore with entries := s.writeCore.entries.eraseIdx pos } := by
  cases he : s.fq.entries[pos]? with
  | none =>
    have hentries : s.queueCore.entries.eraseIdx pos = s.queueCore.entries :=
      List.eraseIdx_of_length_le (by simpa [State.queueCore] using List.getElem?_eq_none_iff.mp he)
    rw [State.removeAt_beyond s he]
    simp [State.writeCore, hentries]
  | some e =>
    obtain ⟨a, b, au, hremove, -⟩ := State.removeAt_shape he
    rw [hremove]
    simp [State.writeCore, State.queueCore, removedAt_map _ _ _ Entry.entered_core]

/-- The removal of an entry that is not STORED. -/
theorem State.removeAt_follows (s : State) {pos : Nat} {e : Entry} (he : s.fq.entries[pos]? = some e)
    (hst : e.isStored = false) : s.follows (s.removeAt pos) := by
  unfold State.follows
  rw [s.removeAt_writeCore]
  refine ⟨fun _ hk => hk, fun c hc => List.mem_of_mem_eraseIdx hc, fun c hc ht => ?_, id, .inr (.inl rfl),
    fun _ _ => .inl rfl, WriteCore.mapGrows_of_eq rfl fun _ _ => rfl⟩
  obtain ⟨n, hn⟩ := List.mem_iff_getElem?.mp hc
  have hne : n ≠ pos := by
    rintro rfl
    obtain rfl : e.core = c := by simpa [State.writeCore, State.queueCore, he] using hn
    rw [← Entry.isStored_iff_table, hst] at ht
    cases ht
  exact List.mem_eraseIdx_iff_getElem?.mpr ⟨n, hne, hn⟩

theorem State.takeRejectedHead_follows (n : Nat) (s : State) : s.follows (s.takeRejectedHead n) := by
  induction n generalizing s with
  | zero => exact s.follows_refl
  | succ n ih =>
    unfold State.takeRejectedHead
    split
    · exact s.follows_refl
    next e he =>
      split
      · exact s.follows_refl
      · split
        · exact s.follows_refl
        · split
          · exact s.beginLeaving_follows _ _
          next hst =>
            have hhead : s.fq.entries[0]? = some e := by rwa [← List.head?_eq_getElem?]
            exact ((s.removeAt_follows hhead (by simpa using hst)).of_core
              (State.completeRejection_writeCore _ _ _)).trans (ih _)

theorem State.settleHead_follows (s : State) : s.follows s.settleHead := State.takeRejectedHead_follows _ s

/-- The removal of the entry of a key that is not STORED. -/
theorem State.removeEntry_follows (s : State) {k : Key} {pos : Nat} {e : Entry}
    (hpos : positionOf s.fq.entries k = some pos) (he : s.fq.entries[pos]? = some e) (hst : e.isStored = false) : s.follows (s.removeEntry k) := by
  unfold State.removeEntry
  rw [hpos]
  exact (s.removeAt_follows he hst).trans (State.settleHead_follows _)

theorem State.cancelEntry_follows (s : State) {k : Key} {e : Entry} (hfind : findEntry s.fq.entries k = some e) :
    s.follows (s.cancelEntry e) := by
  cases hst : e.isStored with
  | true =>
    rw [State.cancelEntry, if_pos hst]
    exact s.beginLeaving_follows _ _
  | false =>
    obtain ⟨pos, -, he, -, hcancel⟩ := State.cancelEntry_unstored hfind hst
    rw [hcancel]
    exact (s.removeAt_follows he hst).trans (State.settleHead_follows _)

theorem State.cancelAll_follows (ks : List Key) (s : State) : s.follows (s.cancelAll ks).1 := by
  induction ks generalizing s with
  | nil => exact s.follows_refl
  | cons k ks ih =>
    unfold State.cancelAll
    split
    next e hfind =>
      split
      · exact (s.cancelEntry_follows hfind).trans (ih _)
      · exact ih s
    · exact ih s

theorem State.pushOut_follows (s : State) : s.follows s.pushOut := by
  unfold State.pushOut
  split
  · exact s.follows_refl
  next e _ =>
    exact (s.stopWalk_follows e.key).of_core
      (State.changeAt_writeCore ((s.stopWalk e.key).releasePin e.key) 1 _ Entry.core_pushedOut)

/-- The head, changed and then removed, of an entry that is not STORED. -/
theorem State.removeHead_follows (s : State) {e : Entry} (he : s.head? = some e) (hst : e.isStored = false)
    (f : Entry → Entry) (hf : ∀ e, (f e).core = e.core) :
    s.follows ((s.withEntries (changeAt s.fq.entries 0 f)).removeEntry e.key) := by
  obtain ⟨es, hes⟩ : ∃ es, s.fq.entries = e :: es := List.head?_eq_some_iff.mp he
  have hentries : (s.withEntries (changeAt s.fq.entries 0 f)).fq.entries = f e :: es := by rw [hes]; rfl
  refine (State.follows_of_core (s.changeAt_writeCore 0 f hf)).trans
    (State.removeEntry_follows _ (pos := 0) (e := f e) ?_ ?_ ?_)
  · rw [hentries, positionOf, if_pos]
    exact congrArg EntryCore.key (hf e)
  · rw [hentries]; rfl
  · rwa [Entry.isStored_iff_table, hf, ← Entry.isStored_iff_table]

theorem State.headExposed_follows (s : State) : s.follows s.headExposed := by
  have counted (e : Entry) : ((e.withState .staged).mapImage fun j =>
      { j with remaining := j.remaining - 1, exposed := j.exposed + 1 }).core = e.core :=
    Entry.core_mapImage _ _ fun _ => by rfl
  unfold State.headExposed
  split
  · exact s.follows_refl
  next e he =>
    split
    · exact s.follows_refl
    · dsimp only
      have hcounted := State.follows_of_core (s.changeAt_writeCore 0 _ counted)
      split
      · exact hcounted
      · split
        · exact hcounted.trans (State.beginLeaving_follows _ _ _)
        next hst => exact s.removeHead_follows he (by simpa using hst) _ counted

theorem State.headRunOut_follows (s : State) (n : Nat) : s.follows (s.headRunOut n) := by
  unfold State.headRunOut
  split
  · exact s.follows_refl
  next e he =>
    split
    next hbody =>
      dsimp only
      split
      · exact s.removeHead_follows he (by simp [Entry.isStored, Entry.stored?, hbody]) _ fun e => e.core_lowerCount n
      · exact State.follows_of_core (s.changeAt_writeCore 0 _ fun e => e.core_lowerCount n)
    all_goals exact s.follows_refl

/-! ### The staging walk -/

theorem State.stagingFailed_follows (s : State) (g : Staging) (r : RejectReason) : s.follows (s.stagingFailed g r) := by
  have hrejected := State.changeEntry_writeCore
    (s.withSr { s.sr with staging := none, channel := { s.sr.channel with waitStage := false } }) g.key
    (·.withState (.rejected r)) fun e => e.core_withState _
  exact (State.follows_of_core (s := s) hrejected).trans (State.settleHead_follows _)

theorem State.walkToDescriptor_follows (s : State) (g : Staging) : s.follows (s.walkToDescriptor g) := by
  unfold State.walkToDescriptor
  split
  · exact s.stagingFailed_follows g _
  · exact s.follows_refl

theorem State.onDescriptor_follows (s : State) (g : Staging) (bs : List Byte) : s.follows (s.onDescriptor g bs) := by
  have failed (r : Range) (h : Staging) (reason : RejectReason) :
      s.follows ((s.mapPin g.key (·.addStrip r)).stagingFailed h reason) :=
    State.stagingFailed_follows (s.mapPin g.key (·.addStrip r)) h reason
  unfold State.onDescriptor; dsimp only
  split
  · exact s.stagingFailed_follows g _
  · split
    · exact s.stagingFailed_follows g _
    · split
      · exact failed _ _ _
      · split
        · exact failed _ _ _
        · exact s.follows_refl

theorem State.compareChecksum_follows (s : State) (g : Staging) : s.follows (s.compareChecksum g) := by
  have hcomplete := State.follows_of_core (s.stagingComplete_writeCore g)
  unfold State.compareChecksum
  split
  · split
    · exact s.stagingFailed_follows g _
    · exact hcomplete
  · exact hcomplete

theorem State.walk_follows (s : State) (g : Staging) (bs : List Byte) : s.follows (s.walk g bs) := by
  unfold State.walk
  split
  · exact s.onDescriptor_follows g bs
  · unfold State.onStripBytes; dsimp only
    split
    · exact s.follows_refl
    · split
      · exact s.compareChecksum_follows _
      · exact s.walkToDescriptor_follows _

theorem State.offerStaging_follows (s : State) : s.follows s.offerStaging := by
  unfold State.offerStaging
  repeat' split
  any_goals exact s.follows_refl
  exact s.walkToDescriptor_follows _

/-! ### Records -/

/-- R171, R176: an appended record writes its own slot alone. -/
theorem State.appendRecord_follows (s : State) (r : MapRecord) : s.follows (s.appendRecord r) := by
  obtain ⟨-, -, -, -, hother⟩ := s.appendRecord_spec r
  obtain ⟨m, hshape⟩ := s.appendRecord_shape r
  have hcore : (s.appendRecord r).writeCore = { s.writeCore with mem := m, count := s.rm.count + 1 } := by
    rw [hshape]; rfl
  have hslot : slotOffset (s.rm.count + 1) = slotOffset s.rm.count + 32 := by
    simp only [slotOffset, Config.recordSize]; omega
  have hbyte (b : Nat) (hb : b < slotOffset s.rm.count ∨ slotOffset (s.rm.count + 1) ≤ b) :
      (s.appendRecord r).writeCore.byte b = s.writeCore.byte b := by
    rw [State.byte_writeCore, State.byte_writeCore]
    exact hother b (by omega)
  unfold State.follows
  rw [hcore] at hbyte ⊢
  refine ⟨fun _ hk => hk, fun _ hc => hc, fun _ hc _ => hc, id, .inr (.inl rfl), fun b hb => .inl (hbyte b (.inl ?_)),
    Nat.le_succ _, fun b _ hb => hbyte b hb⟩
  simp only [slotOffset]
  omega

theorem State.appendUnknown_follows (n : Nat) (s : State) : s.follows (s.appendUnknown n) := by
  induction n generalizing s with
  | zero => exact s.follows_refl
  | succ n ih => exact ((s.appendRecord_follows _).of_core (State.recordWritten_writeCore _)).trans (ih _)

theorem State.appendBlank_follows (e : Entry) (n q : Nat) (s : State) : s.follows (s.appendBlank e n q) := by
  induction n generalizing s q with
  | zero => exact s.follows_refl
  | succ n ih => exact ((s.appendRecord_follows _).of_core (State.recordWritten_writeCore _)).trans (ih _ _)

/-! ### Starts, aborts, the end of an event -/

theorem State.rejectStock_follows (s : State) : s.follows s.rejectStock :=
  (State.follows_of_core (s.changeAt_writeCore 0 _ fun e => e.core_withState _)).trans (State.settleHead_follows _)

theorem State.frameStart_follows (s : State) : s.follows s.frameStart := by
  unfold State.frameStart
  repeat' split
  any_goals exact s.follows_refl
  · exact State.follows_of_core (s.beginExposure_writeCore _ _ _ _)
  all_goals exact s.rejectStock_follows

theorem State.runoutStart_follows (s : State) : s.follows s.runoutStart := by
  unfold State.runoutStart
  split
  next e position _ _ =>
    split
    next count _ =>
      exact ((State.appendBlank_follows e _ position s).trans (State.headRunOut_follows _ _)).of_core
        (State.filmEnd_writeCore _)
    all_goals exact s.follows_refl
  · exact s.follows_refl

theorem State.startIfDue_follows (b s : State) : s.follows (State.startIfDue b s) := by
  unfold State.startIfDue
  split
  · exact s.frameStart_follows
  · split
    · exact s.runoutStart_follows
    · exact s.follows_refl

theorem State.quiesce_follows (s : State) : s.follows s.quiesce :=
  ((((State.follows_of_core s.beginLine_writeCore).trans (State.offerStaging_follows _)).of_core
    (State.requestMarking_writeCore _)).trans (State.grant_follows _)).of_core (State.updateIdle_writeCore _)

theorem State.settle_follows (b s : State) : s.follows (State.settle b s) :=
  ((State.startIfDue_follows b s).of_core (State.recordsEnd_writeCore _ _)).trans (State.quiesce_follows _)

theorem State.abort_follows (s : State) (r : SpoilReason) : s.follows (s.abort r) := by
  unfold State.abort
  split
  · exact s.follows_refl
  next x _ =>
    have hrecorded := (State.withdrawFetch_follows s.dropDrives).trans
      (State.appendRecord_follows _ (exposureRecord x.ctx x.clips .spoiled r))
    have hgate : s.follows _ := hrecorded.of_core (State.gateAfterAbort_writeCore _ r)
    dsimp only
    refine State.follows.of_core ?_ (State.raiseAll_writeCore _ _)
    repeat' split
    · exact hgate
    · exact hgate.of_core (State.headSpoiled_writeCore _)
    · exact hgate.of_core (State.filmEnd_writeCore _)
    · exact (hgate.of_core (State.headSpoiled_writeCore _)).of_core (State.filmEnd_writeCore _)

theorem State.frameEnd_follows (s : State) : s.follows s.frameEnd := by
  unfold State.frameEnd
  split
  · exact s.follows_refl
  next x _ =>
    have hrecorded (r : MapRecord) : s.follows ((s.withdrawFetch.appendRecord r).advanceFilm 1) :=
      (s.withdrawFetch_follows.trans (State.appendRecord_follows _ r)).of_core
        (State.advanceFilm_writeCore _ 1)
    dsimp only
    refine State.follows.of_core ?_ ((State.filmEnd_writeCore _).trans (State.raiseAll_writeCore _ _))
    split
    · exact (hrecorded _).trans (State.headExposed_follows _)
    · exact (hrecorded _).of_core (State.headSpoiled_writeCore _)

/-! ### The scanner, the channels and the marks -/

theorem State.halt_follows (s : State) : s.follows s.halt := by
  unfold State.halt
  split
  · exact s.follows_refl
  · exact (s.abort_follows .eStop).of_core
      (State.haltScanner_writeCore ((s.abort .eStop).withGc { (s.abort .eStop).gc with halted := true }))

theorem State.loseLock_follows (s : State) : s.follows s.loseLock := by
  refine State.follows.trans ?_ (State.abort_follows _ .lockLost)
  exact State.follows_of_core rfl

theorem State.faultChannel_follows (s : State) (c : Channel) : s.follows (s.faultChannel c) := by
  refine State.follows.of_core (State.follows.trans ?_ (State.abort_follows _ .laserFault)) (State.raise_writeCore _ _)
  exact State.follows_of_core rfl

theorem State.sampleChannel_follows (s : State) (c : Channel) (m : BitVec 12) : s.follows (s.sampleChannel c m) := by
  unfold State.sampleChannel; dsimp only
  split
  · split
    · exact s.follows_refl
    · exact State.faultChannel_follows (s.mapLaser c fun _ => ((s.lcu.get c).take m).judge.1) c
    · exact s.follows_refl
  · exact s.follows_refl

theorem State.judgeMark_follows (s : State) (p : Option Nat) : s.follows (s.judgeMark p) := by
  unfold State.judgeMark
  split
  · exact State.follows_of_core (State.judgeAcquiring_writeCore (s.countMark p) p _)
  · unfold State.judgeLocked
    split
    · exact s.follows_refl
    · split
      · exact s.follows_refl
      · split
        · exact State.loseLock_follows (s.countMark _)
        · exact s.follows_refl
  all_goals exact s.follows_refl

theorem State.takeIndex_follows (s : State) : s.follows s.takeIndex := by
  unfold State.takeIndex; dsimp only
  split
  · exact s.follows_refl
  · split
    · exact s.follows_refl
    · exact State.loseLock_follows (s.withStu { s.stu with facet := some 0 })
    all_goals exact s.follows_refl

theorem State.missMark_follows (s : State) : s.follows s.missMark := by
  unfold State.missMark; dsimp only
  split
  · exact s.follows_refl
  · exact State.loseLock_follows (s.withStu { s.stu with facet := none, missing := .stopped })
  all_goals exact s.follows_refl

theorem State.dropLine_follows (s : State) (y : Nat) : s.follows (s.dropLine y) := by
  have raised (f : Exposure → Exposure) : s.follows (s.mapExposure f) :=
    State.follows_of_core (s.mapExposure_writeCore f)
  unfold State.dropLine
  split
  · exact s.follows_refl
  · dsimp only
    split
    · exact raised _
    · split
      · split
        · exact (raised _).trans (State.withdrawFetch_follows _)
        · exact raised _
      · exact raised _

theorem State.putLine_follows (s : State) (x : Exposure) : s.follows (s.putLine x) := by
  have blanked (y : Nat) : s.follows (s.blankLine y) :=
    (State.follows_of_core (s.mapExposure_writeCore _)).trans (State.dropLine_follows _ y)
  unfold State.putLine
  split
  · split
    · exact State.follows_of_core (s.takeLine_writeCore _)
    · exact blanked _
  · exact blanked _

theorem State.lineOut_follows (s : State) (facet : Option Nat) : s.follows (s.lineOut facet) := by
  unfold State.lineOut
  split
  · exact s.follows_refl
  · split
    · split
      · split
        · exact State.follows_of_core (s.takeLine_writeCore _)
        · exact s.follows_refl
      · exact s.follows_refl
    next y kind _ =>
      have hended := State.follows_of_core (s.endLine_writeCore kind)
      dsimp only
      split
      · exact hended.trans (State.frameEnd_follows _)
      · exact hended.trans (State.putLine_follows _ _)

theorem State.markLine_follows (s : State) (m : MarkInput) : s.follows (s.markLine m) := by
  unfold State.markLine
  split
  · exact s.lineOut_follows _
  · exact s.follows_refl

theorem State.markPart_follows (m : MarkInput) (s : State) (p : MarkPart) : s.follows (State.markPart m s p) := by
  cases p with
  | sample c =>
    unfold State.markPart; dsimp only
    split
    · exact (s.sampleChannel_follows c _).trans (State.startIfDue_follows s _)
    · exact s.follows_refl
  | judge =>
    have hjudged := (s.judgeMark_follows m.period).trans (State.startIfDue_follows s _)
    unfold State.markPart State.markJudge; dsimp only
    split
    · exact hjudged.trans (State.markLine_follows _ m)
    · exact hjudged

theorem State.takeMark_follows (s : State) (ticks : Nat) (samples : Rgb (BitVec 12)) (order : MarkOrder) :
    s.follows (s.takeMark ticks samples order) := by
  have hparts (m : MarkInput) (ps : List MarkPart) (t : State) : t.follows (ps.foldl (State.markPart m) t) := by
    induction ps generalizing t with
    | nil => exact t.follows_refl
    | cons p ps ih => exact (State.markPart_follows m t p).trans (ih _)
  exact ((hparts _ _ s.newSweep).trans (State.markLine_follows _ _)).trans (State.quiesce_follows _)

end Sys2Proof.Machine
end

section
/-! ## Frame memory over a command -/

namespace Sys2Proof.Machine

/-- A byte is no control byte at which a write-back of an entry of the write-back list stands, and of no completion word
of such an entry; the entries and the list are those before and after a command. -/
def State.unmarked (s t : State) (b : Nat) : Prop :=
  ∀ e p, (e ∈ s.fq.entries ∨ e ∈ t.fq.entries) → (e.key ∈ s.sr.wbList ∨ e.key ∈ t.sr.wbList) → e.stored? = some p →
    b ≠ p.tableOffset ∧ b ≠ p.tableOffset + 16 * s.sr.wbPos ∧ ¬ (p.tableOffset + 12 ≤ b ∧ b < p.tableOffset + 16)

/-- What a command does to frame memory: below the reel-map region the unmarked bytes stand, and in it, unless the
command may empty the map, all but the slots of the records appended. -/
def State.framed (empties : Bool) (s t : State) : Prop :=
  (∀ b < Config.mapBase, s.unmarked t b → t.readByte b = s.readByte b) ∧
    (empties = false → s.writeCore.mapGrows t.writeCore)

/-- An unmarked byte stands on every part of a command's way on which no write-back ends and no entry joins. -/
theorem State.unmarked.stands {s t u v : State} {b : Nat} (h : s.unmarked t b) (hb : b < Config.mapBase)
    (huv : u.follows v)
    (hpos : u.writeCore.mark.isSome = true ∨ u.sr.wbPos = s.sr.wbPos ∨ u.sr.wbPos = 0)
    (hentries : ∀ c ∈ u.queueCore.entries, c.table.isSome = true → c ∈ s.queueCore.entries ∨ c ∈ t.queueCore.entries)
    (hlist : ∀ k ∈ v.sr.wbList, k ∈ s.sr.wbList ∨ k ∈ t.sr.wbList) : v.readByte b = u.readByte b := by
  rcases huv.below b hb with hsame | ⟨hfree, -, c, hc, hk, o, ho, hmarked⟩
  · exact hsame
  · exfalso
    have hstored : ∃ e, (e ∈ s.fq.entries ∨ e ∈ t.fq.entries) ∧ e.core = c := by
      rcases hentries c hc (by rw [ho]; rfl) with hc | hc <;> obtain ⟨e, he, rfl⟩ := List.mem_map.mp hc
      · exact ⟨e, .inl he, rfl⟩
      · exact ⟨e, .inr he, rfl⟩
    obtain ⟨e, he, rfl⟩ := hstored
    obtain ⟨p, hp, rfl⟩ := Option.map_eq_some_iff.mp ho
    obtain ⟨hfirst, hcontrol, hword⟩ := h e p he (hlist _ hk) hp
    have hmarked' : markedAt p.tableOffset s.sr.wbPos b := by
      rcases hpos with hm | hq | hq
      · rw [hfree] at hm
        cases hm
      · exact hq ▸ hmarked
      · exact markedAt_of_zero _ (hq ▸ hmarked)
    rcases hmarked' with hm | hm | hm
    · exact hfirst hm
    · exact hcontrol hm
    · exact hword hm

theorem State.follows.framed {s t : State} (h : s.follows t) (empties : Bool) : s.framed empties t :=
  ⟨fun _ hb hun => hun.stands hb h (.inr (.inl rfl)) (fun _ hc _ => .inl hc) fun _ hk => .inr hk, fun _ => h.map⟩

theorem State.framed_of_core {s t : State} (h : t.writeCore = s.writeCore) (empties : Bool) : s.framed empties t :=
  (State.follows_of_core h).framed empties

/-- A command that writes nothing to frame memory and appends no record. -/
theorem State.framed_of_memory {s t : State} (hm : t.fmc.mem = s.fmc.mem) (he : t.fmc.epoch = s.fmc.epoch)
    {empties : Bool} (hc : empties = false → t.rm.count = s.rm.count) : s.framed empties t :=
  ⟨fun b _ _ => State.readByte_congr s t b hm he,
    fun h => WriteCore.mapGrows_of_eq (hc h) fun b _ => State.readByte_congr s t b hm he⟩

/-! ### A submission -/

/-- R7 to R10: from the list with the new entry in it, a submission goes its way. -/
theorem State.joined_follows (s : State) (sender : Addr) (a : Submission) :
    (s.joined sender a).follows (s.submit sender a) := by
  have hjoined : (s.joined sender a).follows (s.joinQueue sender a) := by
    rw [State.joinQueue_eq]
    split
    · exact State.follows_of_core (State.enterWindow_writeCore _ _)
    · exact State.follows_refl _
  unfold State.submit; dsimp only
  refine State.follows.trans ?_ (State.settle_follows _ _)
  split
  · exact hjoined.of_core (State.wakeIfDue_writeCore _)
  · exact hjoined

theorem State.joined_sr (s : State) (sender : Addr) (a : Submission) :
    (s.joined sender a).sr = (s.roomMade a.front).sr := by
  unfold State.joined; dsimp only
  split <;> rfl

theorem State.joined_rm (s : State) (sender : Addr) (a : Submission) :
    (s.joined sender a).rm = (s.roomMade a.front).rm := by
  unfold State.joined; dsimp only
  split <;> rfl

theorem State.roomMade_follows (s : State) (front : Bool) : s.follows (s.roomMade front) := by
  cases front
  · exact s.follows_refl
  · exact s.pushOut_follows

theorem State.submit_framed (s : State) (sender : Addr) (a : Submission) (empties : Bool) :
    s.framed empties (s.submit sender a) := by
  have hroom := s.roomMade_follows a.front
  have hrest := s.joined_follows sender a
  have hread (b : Nat) : (s.joined sender a).readByte b = (s.roomMade a.front).readByte b :=
    State.readByte_congr _ _ b (by rw [State.joined_fmc]) (by rw [State.joined_fmc])
  have hsr := s.joined_sr sender a
  refine ⟨fun b hb hun => ?_, fun _ => ?_⟩
  · calc (s.submit sender a).readByte b
      _ = (s.joined sender a).readByte b := hun.stands hb hrest ?_ ?_ fun _ hk => .inr hk
      _ = (s.roomMade a.front).readByte b := hread b
      _ = s.readByte b := hun.stands hb hroom (.inr (.inl rfl)) (fun _ hc _ => .inl hc) fun k hk => .inr ?_
    · have := hroom.position
      simpa only [State.writeCore, hsr] using this
    · intro c hc ht
      by_cases hnew : c ∈ s.queueCore.entries
      · exact .inl hnew
      · exact .inr (hrest.stays c hc ht)
    · exact hrest.listed k (by simpa only [State.writeCore, hsr] using hk)
  · refine hroom.map.trans (WriteCore.mapGrows.trans ?_ hrest.map)
    exact WriteCore.mapGrows_of_eq (congrArg ReelMap.count (s.joined_rm sender a)) fun b _ => hread b

/-! ### The end of a write-back -/

/-- R38: the write-back at the front of the list ends: the list, the position and the entries change at once, with
frame memory as it was, and what is left of the event goes its way. -/
theorem State.endWriteBack_follows (s : State) : ∃ (r : State) (l : List Key) (p : Nat) (es : List EntryCore),
    r.writeCore = { s.writeCore with list := l, pos := p, entries := es } ∧ (p = s.sr.wbPos ∨ p = 0) ∧
    (∀ c ∈ es, c ∈ s.queueCore.entries) ∧ r.follows s.endWriteBack := by
  unfold State.endWriteBack
  split
  · exact ⟨s, _, _, _, rfl, .inl rfl, fun _ hc => hc, s.follows_refl⟩
  next k ks _ =>
    dsimp only
    split
    next e pos _ _ =>
      refine ⟨((s.withSr { s.sr with wbList := ks, wbPos := 0 }).releasePin k).removeAt pos, ks, 0,
        s.queueCore.entries.eraseIdx pos, State.removeAt_writeCore _ _, .inr rfl,
        fun c hc => List.mem_of_mem_eraseIdx hc, ?_⟩
      split
      · exact State.settleHead_follows (State.raise _ .entryRetired)
      · exact (State.follows_of_core (State.completeRejection_writeCore _ _ _)).trans (State.settleHead_follows _)
      all_goals exact State.settleHead_follows _
    · exact ⟨s.withSr { s.sr with wbList := ks, wbPos := 0 }, _, _, _, rfl, .inr rfl, fun _ hc => hc,
        State.follows_refl _⟩

/-- R36, R38, R64: the completion of a marking. -/
theorem State.markingDone_framed (s : State) (empties : Bool) : s.framed empties s.markingDone := by
  unfold State.markingDone
  split
  next control _ =>
    have hfreed : (s.withChannel { s.sr.channel with busy := none }).follows s.freeChannel := State.grant_follows _
    obtain ⟨ch, p, m, hshape⟩ := s.freeChannel_channelOnly
    have hlist : s.freeChannel.sr.wbList = s.sr.wbList := by rw [hshape]
    have hentries : s.freeChannel.queueCore.entries = s.queueCore.entries := by rw [hshape]; rfl
    have hfirst {t : State} {b : Nat} (hb : b < Config.mapBase) (hun : s.unmarked t b) :
        s.freeChannel.readByte b = s.readByte b :=
      hun.stands (u := s.withChannel { s.sr.channel with busy := none }) hb hfreed (.inr (.inl rfl))
        (fun _ hc _ => .inl hc) fun k hk => .inl (hlist ▸ hk)
    have hend : ∃ (r : State) (l : List Key) (p : Nat) (es : List EntryCore),
        r.writeCore = { s.freeChannel.writeCore with list := l, pos := p, entries := es } ∧
        (p = s.freeChannel.sr.wbPos ∨ p = 0) ∧ (∀ c ∈ es, c ∈ s.freeChannel.queueCore.entries) ∧
        r.follows (if writeBackStops control s.writeBackTable s.sr.wbPos then s.freeChannel.endWriteBack
          else s.freeChannel) := by
      split
      · exact s.freeChannel.endWriteBack_follows
      · exact ⟨s.freeChannel, _, _, _, rfl, .inl rfl, fun _ hc => hc, State.follows_refl _⟩
    obtain ⟨r, l, pos, es, hr, hpos, hes, hrest⟩ := hend
    have hrest := hrest.trans (State.settle_follows s _)
    have hread (b : Nat) : r.readByte b = s.freeChannel.readByte b := by
      rw [← State.byte_writeCore, hr]; rfl
    refine ⟨fun b hb hun => ?_, fun _ => hfreed.map.trans (WriteCore.mapGrows.trans ?_ hrest.map)⟩
    · refine (hun.stands hb hrest ?_ ?_ fun k hk => .inr hk).trans ((hread b).trans (hfirst hb hun))
      · have hposition : r.sr.wbPos = pos := congrArg WriteCore.pos hr
        have hmark : r.writeCore.mark = s.freeChannel.writeCore.mark := by rw [hr]
        rw [hposition, hmark]
        rcases hpos with rfl | rfl
        · exact hfreed.position
        · exact .inr (.inr rfl)
      · intro c hc _
        have hc' : c ∈ es := by
          have : c ∈ r.writeCore.entries := hc
          rwa [hr] at this
        exact .inl (hentries ▸ hes c hc')
    · exact WriteCore.mapGrows_of_eq (by rw [hr]) fun b _ => hread b
  · exact s.follows_refl.framed empties

/-! ### The recorder reset -/

theorem State.unnameAll_shape (es : List Entry) (s : State) : ∃ cs, es.foldl State.unname s = { s with cs := cs } := by
  induction es generalizing s with
  | nil => exact ⟨s.cs, rfl⟩
  | cons e es ih =>
    obtain ⟨cs, h⟩ := ih (s.unname e)
    refine ⟨cs, ?_⟩
    rw [List.foldl_cons, h]
    unfold State.unname
    split <;> rfl

/-- R29: the flush leaves the strip reader, the bytes of frame memory and the reel map. -/
theorem State.flushQueue_shape (s : State) : ∃ cs, s.flushQueue =
    { s with
      fq := { s.fq with entries := [], held := .empty }, cs := cs
      fmc := { s.fmc with pinA := none, pinB := none } } := by
  obtain ⟨cs, h⟩ := State.unnameAll_shape s.fq.entries s
  have hflush : s.flushQueue = (s.fq.entries.foldl State.unname s).releaseAllPins.withFq
      { (s.fq.entries.foldl State.unname s).fq with entries := [], held := .empty } := rfl
  exact ⟨cs, by rw [hflush, h]; rfl⟩

/-- R193: the strip reader's contexts go first, so that the abort grants nothing. -/
theorem State.recorderReset_framed (s : State) (empties : Bool) : s.framed empties s.recorderReset := by
  have haborted : (s.withSr .afterReset).follows ((s.withSr .afterReset).abort .reset) := State.abort_follows _ _
  obtain ⟨cs, hflush⟩ := ((s.withSr .afterReset).abort .reset).flushQueue_shape
  obtain ⟨i, hidle⟩ := (((s.withSr .afterReset).abort .reset).flushQueue.clearLatched).updateIdle_shape
  have hreset : ∃ fq au stu a b, s.recorderReset = { (s.withSr .afterReset).abort .reset with
      fq := fq, cs := cs, au := au, stu := stu
      fmc := { ((s.withSr .afterReset).abort .reset).fmc with pinA := a, pinB := b } } := by
    unfold State.recorderReset
    rw [hidle, hflush]
    exact ⟨_, _, _, _, _, rfl⟩
  obtain ⟨fq, au, stu, a, b, hreset⟩ := hreset
  have hread (x : Nat) : s.recorderReset.readByte x = ((s.withSr .afterReset).abort .reset).readByte x := by
    rw [hreset]; rfl
  refine ⟨fun x hx hun => (hread x).trans (hun.stands (u := s.withSr .afterReset) hx haborted
    (.inr (.inr rfl)) (fun _ hc _ => .inl hc) fun k hk => .inr ?_), fun _ => haborted.map.trans ?_⟩
  · rw [hreset]; exact hk
  · exact WriteCore.mapGrows_of_eq (by rw [hreset]; rfl) fun x _ => hread x
end Sys2Proof.Machine
end

section
/-! ## The settling of O59 -/

namespace Sys2Proof.Machine
/-! ### Decisions -/

/-- The messages to the attention unit, the calibration store, the scanner and the lasers write nothing to frame memory
(R86 to R102, R111, R118, R121, R141, R145, R197 to R199). -/
def apartFromMemory : Instr → Bool
  | .bindAttn _ _ | .unbind _ _ | .setMask _ _ | .ackEvents _ _ | .forceEvent _ _ | .beginSet _ _ | .writeTable _ _
  | .publishSet _ _ | .freeSet _ _ | .setTrim _ _ | .writeOptics _ _ | .wake _ _ | .setParam _ _ | .setParamLaser _ _
  | .scannerReset _ _ | .laserReset _ _ | .hold _ _ | .unknownKindMessage _ _ => true
  | _ => false

theorem decisionOf_writeCore {c : Instr} {d : State → Decision} (hc : apartFromMemory c = true)
    (hd : decisionOf c = some d) (s : State) : (d s).state.writeCore = s.writeCore := by
  cases c <;> simp only [apartFromMemory, Bool.false_eq_true] at hc <;> cases hd
  case bindAttn => unfold decideBindAttn; repeat' split
                   all_goals rfl
  case unbind => unfold decideUnbind; repeat' split
                 all_goals rfl
  case setMask | ackEvents | forceEvent => unfold decideOwner; dsimp only; repeat' split
                                           all_goals rfl
  case beginSet => unfold decideBeginSet; repeat' split
                   all_goals rfl
  case writeTable => unfold decideWriteTable; dsimp only; repeat' split
                     all_goals rfl
  case publishSet => unfold decidePublishSet; repeat' split
                     all_goals rfl
  case freeSet => unfold decideFreeSet; repeat' split
                  all_goals rfl
  case setTrim => unfold decideSetTrim; repeat' split
                  all_goals rfl
  case writeOptics => unfold decideWriteOptics; dsimp only; repeat' split
                      all_goals rfl
  case wake => unfold decideWake State.restartIdle; repeat' split
               all_goals rfl
  case setParam =>
    have hstore (p : ScannerParam) (v : Nat) : (s.storeScanner p v).writeCore = s.writeCore := by
      unfold State.storeScanner; dsimp only
      split
      · exact State.updateIdle_writeCore _
      · rfl
    unfold decideSetParam; repeat' split
    any_goals rfl
    exact hstore _ _
  case setParamLaser => unfold decideSetParamLaser; dsimp only; repeat' split
                        all_goals rfl
  case scannerReset =>
    unfold decideScannerReset; repeat' split
    any_goals rfl
    exact State.wakeIfDue_writeCore _
  case laserReset => unfold decideLaserReset; repeat' split
                     all_goals rfl
  case hold =>
    unfold decideHold; repeat' split
    any_goals rfl
    exact s.addHeld_writeCore .operator
  case unknownKindMessage => rfl

theorem decideMagLoad_framed (role : Role) (payload : List Byte) (s : State) :
    s.framed true (decideMagLoad role payload s).state := by
  have htake (t : MagazineTag) : s.framed true (s.takeMagazine t) := by
    unfold State.takeMagazine
    refine State.framed_of_memory ?_ ?_ fun h => by cases h
    all_goals split <;> rfl
  unfold decideMagLoad; dsimp only; repeat' split
  any_goals exact s.follows_refl.framed true
  exact htake _

theorem State.unloadMagazine_follows (s : State) : s.follows s.unloadMagazine := by
  unfold State.unloadMagazine
  split
  · exact s.follows_refl
  · exact s.follows_refl
  · exact (s.abort_follows .magRemoved).of_core rfl

theorem decideMagUnload_follows (role : Role) (payload : Payload Unit) (s : State) :
    s.follows (decideMagUnload role payload s).state := by
  unfold decideMagUnload; repeat' split
  any_goals exact s.follows_refl
  exact s.unloadMagazine_follows

theorem decideGateReady_follows (role : Role) (payload : Payload Nat) (s : State) :
    s.follows (decideGateReady role payload s).state := by
  have hposition (q : Nat) : s.follows (decidePosition q s).state := by
    unfold decidePosition
    split
    · exact s.follows_refl
    · split
      · exact s.follows_refl
      · exact ((State.appendUnknown_follows _ s).of_core (State.withGc_writeCore _ _)).trans (State.settle_follows s _)
  unfold decideGateReady
  split
  · exact s.follows_refl
  · split
    · exact s.follows_refl
    · split
      · exact s.follows_refl
      · exact s.follows_refl
      · exact s.follows_refl
      all_goals exact hposition _

theorem decideGateFault_follows (role : Role) (payload : Payload Unit) (s : State) :
    s.follows (decideGateFault role payload s).state := by
  unfold decideGateFault; repeat' split
  any_goals exact s.follows_refl
  exact (s.abort_follows .gateFault).of_core (State.raise_writeCore _ _)

theorem decideAbortFrame_follows (role : Role) (payload : Payload Unit) (s : State) :
    s.follows (decideAbortFrame role payload s).state := by
  unfold decideAbortFrame; repeat' split
  any_goals exact s.follows_refl
  exact s.abort_follows .aborted

theorem decideSubmit_framed (allowed : Bool) (sender : Addr) (a : Option Submission) (s : State) (empties : Bool) :
    s.framed empties (decideSubmit allowed sender a s).state := by
  unfold decideSubmit; repeat' split
  any_goals exact s.follows_refl.framed empties
  exact s.submit_framed sender _ empties

theorem decideNamed_follows {α : Type} {s : State} (sender : Addr) (submitter : α → Option Nat)
    (payload : NamedPayload α Nat) (take : α → Nat → Decision) (htake : ∀ a n, s.follows (take a n).state) :
    s.follows (decideNamed sender submitter payload take s).state := by
  unfold decideNamed; dsimp only; repeat' split
  any_goals exact s.follows_refl
  exact htake _ _

theorem decideCancel_follows (sender : Addr) (payload : NamedPayload CancelArgs Nat) (s : State) :
    s.follows (decideCancel sender payload s).state := by
  refine decideNamed_follows _ _ _ _ fun a n => ?_
  split
  · exact s.follows_refl
  next e hfind =>
    split
    · exact (s.cancelEntry_follows hfind).trans (State.settle_follows s _)
    · exact s.follows_refl

theorem decideFlush_follows (sender : Addr) (payload : NamedPayload (Option Nat) Nat) (s : State) :
    s.follows (decideFlush sender payload s).state :=
  decideNamed_follows _ _ _ _ fun _ _ => (State.cancelAll_follows _ s).trans (State.settle_follows s _)

theorem decideRelease_follows (role : Role) (payload : Payload Unit) (s : State) :
    s.follows (decideRelease role payload s).state := by
  unfold decideRelease; repeat' split
  any_goals exact s.follows_refl
  exact State.settle_follows s (s.withFq { s.fq with held := .empty })

theorem decideEStop_follows (role : Role) (payload : Payload Unit) (s : State) :
    s.follows (decideEStop role payload s).state := by
  unfold decideEStop; repeat' split
  any_goals exact s.follows_refl
  exact s.halt_follows

theorem decideRecorderReset_framed (role : Role) (payload : Payload Unit) (s : State) (empties : Bool) :
    s.framed empties (decideRecorderReset role payload s).state := by
  unfold decideRecorderReset; repeat' split
  any_goals exact s.follows_refl.framed empties
  exact s.recorderReset_framed empties

theorem decideResume_follows (role : Role) (payload : Payload Unit) (s : State) :
    s.follows (decideResume role payload s).state := by
  have hresume : s.follows s.resume := by
    unfold State.resume
    split
    · exact (State.follows_of_core (State.wakeIfDue_writeCore (s.withGc { s.gc with halted := false }))).trans
        (State.settle_follows s _)
    · exact s.follows_refl
  unfold decideResume; repeat' split
  any_goals exact s.follows_refl
  exact hresume

/-- The messages about the queue, the film and the part as a whole. -/
theorem decisionOf_framed_of_action {c : Instr} {d : State → Decision} (hq : c.isQuery = false)
    (hapart : apartFromMemory c = false) (hd : decisionOf c = some d) (s : State) :
    s.framed (emptiesMap c) (d s).state := by
  cases c <;> simp only [Instr.isQuery, apartFromMemory, Bool.true_eq_false] at hq hapart <;> cases hd
  case magLoad => exact decideMagLoad_framed _ _ s
  case magUnload => exact (decideMagUnload_follows _ _ s).framed _
  case gateReady => exact (decideGateReady_follows _ _ s).framed _
  case gateFault => exact (decideGateFault_follows _ _ s).framed _
  case abortFrame => exact (decideAbortFrame_follows _ _ s).framed _
  case submitStored | submitFlat | submitRunout => exact decideSubmit_framed _ _ _ s _
  case cancel => exact (decideCancel_follows _ _ s).framed _
  case flush => exact (decideFlush_follows _ _ s).framed _
  case release => exact (decideRelease_follows _ _ s).framed _
  case eStop => exact (decideEStop_follows _ _ s).framed _
  case recorderReset => exact decideRecorderReset_framed _ _ s _
  case resume => exact (decideResume_follows _ _ s).framed _

theorem decisionOf_framed {c : Instr} {d : State → Decision} (hd : decisionOf c = some d) (s : State) :
    s.framed (emptiesMap c) (d s).state := by
  cases hq : c.isQuery with
  | true =>
    obtain ⟨n, hfree, -⟩ := decisionOf_query hq hd s
    exact State.framed_of_core (by rw [show (d s).state = { s with free := n } from hfree]; rfl) _
  | false =>
    cases hapart : apartFromMemory c with
    | true => exact State.framed_of_core (decisionOf_writeCore hapart hd s) _
    | false => exact decisionOf_framed_of_action hq hapart hd s

/-! ### Commands -/

theorem onMessage_framed {c : Instr} {a : Addr} {k : Byte} {d : State → Decision} {s t : State} {empties : Bool}
    (hd : s.framed empties (d s).state) (ht : onMessage c a k d s = .next t) : s.framed empties t := by
  unfold onMessage at ht
  split at ht
  · split at ht <;> cases ht
    · exact hd
    · exact s.follows_refl.framed empties
  · cases ht; exact s.follows_refl.framed empties

theorem whenRunning_framed {f : State → State} {s t : State} {empties : Bool} (hf : s.framed empties (f s))
    (ht : whenRunning f s = .next t) : s.framed empties t := by
  unfold whenRunning at ht
  split at ht <;> cases ht
  · exact s.follows_refl.framed empties
  · exact hf

theorem exec_message_framed {c : Instr} {a : Addr} (ha : c.sender? = some a) {s t : State} (ht : exec c s = .next t) :
    s.framed (emptiesMap c) t := by
  obtain ⟨k, d, hk, hd⟩ := decisionOf_isSome c a ha
  by_cases hu : ∃ b code, c = .unknownKindMessage b code ∧ kindCodes.contains code = true
  · obtain ⟨b, code, rfl, hcode⟩ := hu
    simp only [exec, execUnknownKindMessage, hcode, if_true, Host.Outcome.next.injEq] at ht
    exact ht ▸ s.follows_refl.framed _
  · rw [exec_message c a k d s ha hk hd fun b code hc => by simpa using fun hcode => hu ⟨b, code, hc, hcode⟩] at ht
    exact onMessage_framed (decisionOf_framed hd s) ht

theorem State.stagingReadDone_follows (s : State) : s.follows s.stagingReadDone := by
  unfold State.stagingReadDone
  split
  next h _ =>
    exact ((s.freeChannel_follows (ReadChannel.mark?_of_staging (by rw [h]; rfl))).trans
      (State.walk_follows _ _ _)).trans (State.settle_follows s _)
  · exact s.follows_refl

theorem State.fetchReadDone_follows (s : State) : s.follows s.fetchReadDone := by
  unfold State.fetchReadDone
  split
  next h _ _ =>
    exact ((s.freeChannel_follows (ReadChannel.mark?_of_fetch (by rw [h]; rfl))).of_core
      (State.fetchBytes_writeCore _ _ _ _)).trans (State.settle_follows s _)
  · exact s.follows_refl

theorem State.lineDone_follows (s : State) : s.follows s.lineDone := by
  unfold State.lineDone
  repeat' split
  any_goals exact s.follows_refl
  exact (State.follows_of_core (s.mapExposure_writeCore _)).trans (State.settle_follows s _)

/-- R205: at the assertion of RESET_N what is in progress ends where it stands. -/
theorem execHardReset_framed {s t : State} (ht : execHardReset s = .next t) (empties : Bool) : s.framed empties t := by
  cases ht
  have hends : ∃ g p r, s.dropDrives.endOperations = { s.dropDrives with
      gc := { s.gc with gate := g }, port := p, sr := r } := by
    unfold State.endOperations
    obtain ⟨g, h⟩ := ((s.dropDrives.withSr
      { s.dropDrives.sr with staging := none, fetch := none, channel := .idle }).withPort { s.dropDrives.port with waiting := none }).mapExposure_shape fun x => { x with line := none }
    exact ⟨g, _, _, h⟩
  obtain ⟨g, p, r, hends⟩ := hends
  refine State.framed_of_memory ?_ ?_ fun _ => ?_ <;> rw [hends] <;> rfl

/-- A command that is no message addressed to the part, but for a port write and the end of a hard reset. -/
theorem exec_event_framed {c : Instr} (hc : c.sender? = none) (hreset : ∀ s1 s0, c ≠ .hardResetEnd s1 s0)
    (hwrite : ∀ o bs, c ≠ .portWrite o bs) {s t : State} (ht : exec c s = .next t) : s.framed (emptiesMap c) t := by
  have kept {u : State} (hu : s.follows u) (empties : Bool) : s.framed empties u := hu.framed empties
  have stands (empties : Bool) : s.framed empties s := s.follows_refl.framed empties
  cases c <;> simp only [Instr.sender?, reduceCtorEq] at hc
  case portWrite o bs => exact absurd rfl (hwrite o bs)
  case hardResetEnd s1 s0 => exact absurd rfl (hreset s1 s0)
  case broadcastMessage sender kind =>
    have hcast : s.follows (s.takeBroadcast sender kind) := by
      unfold State.takeBroadcast
      split
      · exact s.halt_follows
      · exact s.follows_refl
    simp only [exec, execBroadcastMessage] at ht
    split at ht
    · split at ht <;> cases ht
      · exact kept hcast _
      · exact stands _
    · cases ht; exact stands _
  case frameDiscard frame => simp only [exec, execFrameDiscard] at ht; split at ht <;> cases ht <;> exact stands _
  case frameIgnored a b => simp only [exec, execFrameIgnored] at ht; split at ht <;> cases ht <;> exact stands _
  case replyCollision => simp only [exec, execReplyCollision] at ht; split at ht <;> cases ht <;> exact stands _
  case replyEnd => simp only [exec, execReplyEnd] at ht; split at ht <;> cases ht <;> exact stands _
  case portRead offset request =>
    have hread : (s.takeRead offset.toNat request.length request.records).writeCore = s.writeCore := by
      unfold State.takeRead State.serveWaiting; dsimp only
      repeat' split
      all_goals rfl
    simp only [exec, execPortRead] at ht
    split at ht <;> cases ht
    · exact kept (State.follows_of_core hread) _
    · exact stands _
  case pcieLinkUp => simp only [exec, execPcieLinkUp] at ht; split at ht <;> cases ht <;> exact stands _
  case deckBusIdle => exact whenRunning_framed (f := fun s => s.withDbi { s.dbi with waitIdle := false }) (stands _) ht
  case startOfScanMark ticks samples order =>
    refine whenRunning_framed (kept ?_ _) ht
    split
    · exact s.takeMark_follows ticks samples order
    · exact s.follows_refl
  case indexPulse =>
    refine whenRunning_framed (kept ?_ _) ht
    split
    · exact s.takeIndex_follows
    · exact s.follows_refl
  case spinUpTimerExpiry => refine whenRunning_framed (kept ?_ _) ht; split <;> exact s.follows_refl
  case missingMarkTimerExpiry =>
    refine whenRunning_framed (kept ?_ _) ht
    split
    · exact s.missMark_follows
    · exact s.follows_refl
  case idleTimerExpiry => refine whenRunning_framed (kept ?_ _) ht; split <;> exact s.follows_refl
  case estopNAsserted =>
    simp only [exec, execEstopNAsserted] at ht
    split at ht <;> cases ht
    · exact stands _
    · exact kept (State.halt_follows (s.withEstop true)) _
  case estopNDeasserted => cases ht; exact stands _
  case hardReset => exact execHardReset_framed ht _
  case stagingRead => exact whenRunning_framed (kept s.stagingReadDone_follows _) ht
  case lineFetchRead => exact whenRunning_framed (kept s.fetchReadDone_follows _) ht
  case writeBackMarking => exact whenRunning_framed (s.markingDone_framed _) ht
  case lineComputed => exact whenRunning_framed (kept s.lineDone_follows _) ht

/-- Settles O59: a byte below the reel-map region changes only at the grant of a marking, of which an event makes at
most one while no write-back ends, and in the region only an appended record is written. -/
theorem memoryChangesOnlyWhereWritten : Obligations.MemoryChangesOnlyWhereWritten := by
  intro c s t b hreset hwrite ht
  have hframed : s.framed (emptiesMap c) t := by
    cases hc : c.sender? with
    | some a => exact exec_message_framed hc ht
    | none => exact exec_event_framed hc hreset hwrite ht
  obtain ⟨hbelow, hmap⟩ := hframed
  exact ⟨fun hb hun => hbelow b hb hun, fun hempty hb hslots => (hmap hempty).2 b hb hslots⟩

end Sys2Proof.Machine
end

section
/-! ## The bytes a port access touches first (R31, R32) -/

namespace Sys2Proof.Machine

/-- The bytes of an access. -/
def accessed (offset length b : Nat) : Prop := offset ≤ b ∧ b < offset + length

/-- The least number with a property, or none when no number has it. -/
def firstWith (P : Nat → Prop) : Option Nat → Prop
  | none => ∀ b, ¬ P b
  | some a => P a ∧ ∀ b < a, ¬ P b

theorem firstWith_congr {P Q : Nat → Prop} {x : Option Nat} (h : firstWith P x) (hPQ : ∀ b, P b ↔ Q b) :
    firstWith Q x := by
  obtain rfl : P = Q := funext fun b => propext (hPQ b)
  exact h

theorem firstWith_lowest {P Q : Nat → Prop} {x y : Option Nat} (hx : firstWith P x) (hy : firstWith Q y) :
    firstWith (fun b => P b ∨ Q b) (lowest x y) := by
  cases x with
  | none => exact firstWith_congr hy fun b => ⟨.inr, fun h => h.resolve_left (hx b)⟩
  | some a =>
    cases y with
    | none => exact firstWith_congr hx fun b => ⟨.inl, fun h => h.resolve_right (hy b)⟩
    | some c =>
      refine ⟨?_, fun b hb h => ?_⟩
      · rcases Nat.le_total a c with hac | hac
        · rw [Nat.min_eq_left hac]; exact .inl hx.1
        · rw [Nat.min_eq_right hac]; exact .inr hy.1
      · obtain ⟨hba, hbc⟩ := Nat.lt_min.mp hb
        exact h.elim (hx.2 b hba) (hy.2 b hbc)

theorem Range.firstTouched_first (r : Range) (offset length : Nat) :
    firstWith (fun b => accessed offset length b ∧ r.covers b) (r.firstTouched offset length) := by
  unfold Range.firstTouched
  split
  · refine ⟨?_, fun b hb h => ?_⟩ <;> simp only [accessed, Range.covers] at * <;> omega
  · intro b h
    simp only [accessed, Range.covers] at h
    omega

/-- R39: the lowest byte of an access that a record pins. -/
theorem PinRecord.firstTouched_first (p : PinRecord) (offset length : Nat) :
    firstWith (fun b => accessed offset length b ∧ p.covers b) (p.firstTouched offset length) := by
  have hstrips (rs : List Range) (P : Nat → Prop) (x : Option Nat) (hx : firstWith P x) :
      firstWith (fun b => P b ∨ accessed offset length b ∧ ∃ r ∈ rs, r.covers b)
        (rs.foldl (fun a r => lowest a (r.firstTouched offset length)) x) := by
    induction rs generalizing P x with
    | nil => exact firstWith_congr hx fun b => by simp
    | cons r rs ih =>
      refine firstWith_congr (ih _ _ (firstWith_lowest hx (r.firstTouched_first offset length))) fun b => ?_
      simp only [List.exists_mem_cons_iff]
      tauto
  refine firstWith_congr (hstrips p.strips _ _ (p.table.firstTouched_first offset length)) fun b => ?_
  simp only [PinRecord.covers]
  tauto

theorem touchedRecord_eq_none {r : Option PinRecord} {offset length : Nat}
    (h : touchedRecord r offset length = none) {p : PinRecord} (hp : r = some p) {b : Nat}
    (hb : accessed offset length b) : ¬ p.covers b := by
  subst hp
  have hfirst := p.firstTouched_first offset length
  rw [Option.map_eq_none_iff.mp h] at hfirst
  exact fun hc => hfirst b ⟨hb, hc⟩

theorem touchedRecord_eq_some {r : Option PinRecord} {offset length a : Nat} {p : PinRecord}
    (h : touchedRecord r offset length = some (p, a)) : r = some p ∧ accessed offset length a ∧ p.covers a ∧
    ∀ b < a, accessed offset length b → ¬ p.covers b := by
  cases r with
  | none => cases h
  | some q =>
    obtain ⟨c, hc, hpair⟩ := Option.map_eq_some_iff.mp h
    obtain ⟨rfl, rfl⟩ := Prod.mk.inj hpair
    have hfirst := q.firstTouched_first offset length
    rw [hc] at hfirst
    exact ⟨rfl, hfirst.1.1, hfirst.1.2, fun b hb hin hcov => hfirst.2 b hb ⟨hin, hcov⟩⟩

theorem State.nearerHead_cases (s : State) (p q : PinRecord) : s.nearerHead p q = p ∨ s.nearerHead p q = q := by
  unfold State.nearerHead
  repeat' split
  next => exact .inr rfl
  next => exact .inl rfl
  next => exact .inl rfl
  next => exact .inr rfl
  next => exact .inl rfl

theorem State.touchedPin_eq_none {s : State} {offset length : Nat} (h : s.touchedPin offset length = none) {b : Nat}
    (hb : accessed offset length b) : ¬ s.pinned b := by
  unfold State.touchedPin at h
  split at h
  next ha hb' =>
    rintro ⟨p, hp | hp, hc⟩
    · exact touchedRecord_eq_none ha hp hb hc
    · exact touchedRecord_eq_none hb' hp hb hc
  · cases h
  · cases h
  · split at h
    · cases h
    · split at h <;> cases h

/-- R32: the record of a dropped write is one whose entry pins the lowest pinned byte of the write. -/
theorem State.touchedPin_eq_some {s : State} {offset length : Nat} {p : PinRecord}
    (h : s.touchedPin offset length = some p) : s.holdsPin p ∧ ∃ a, accessed offset length a ∧ p.covers a ∧
    ∀ b, accessed offset length b → b < a → ¬ s.pinned b := by
  unfold State.touchedPin at h
  split at h
  · cases h
  next x hx hy =>
    obtain ⟨hA, hin, hcov, hless⟩ := touchedRecord_eq_some hx
    obtain rfl := Option.some.inj h
    refine ⟨.inl hA, x.2, hin, hcov, fun b hb hlt => ?_⟩
    rintro ⟨q, hq | hq, hc⟩
    · obtain rfl : x.1 = q := Option.some.inj (hA.symm.trans hq)
      exact hless b hlt hb hc
    · exact touchedRecord_eq_none hy hq hb hc
  next y hx hy =>
    obtain ⟨hB, hin, hcov, hless⟩ := touchedRecord_eq_some hy
    obtain rfl := Option.some.inj h
    refine ⟨.inr hB, y.2, hin, hcov, fun b hb hlt => ?_⟩
    rintro ⟨q, hq | hq, hc⟩
    · exact touchedRecord_eq_none hx hq hb hc
    · obtain rfl : y.1 = q := Option.some.inj (hB.symm.trans hq)
      exact hless b hlt hb hc
  next x y hx hy =>
    obtain ⟨hA, hinx, hcovx, hlessx⟩ := touchedRecord_eq_some hx
    obtain ⟨hB, hiny, hcovy, hlessy⟩ := touchedRecord_eq_some hy
    have free {b : Nat} (hb : accessed offset length b) (hbx : b < x.2) (hby : b < y.2) : ¬ s.pinned b := by
      rintro ⟨q, hq | hq, hc⟩
      · obtain rfl : x.1 = q := Option.some.inj (hA.symm.trans hq)
        exact hlessx b hbx hb hc
      · obtain rfl : y.1 = q := Option.some.inj (hB.symm.trans hq)
        exact hlessy b hby hb hc
    split at h
    next hlt =>
      obtain rfl := Option.some.inj h
      exact ⟨.inl hA, x.2, hinx, hcovx, fun b hb hbx => free hb hbx (by omega)⟩
    next hge =>
      split at h
      next hlt =>
        obtain rfl := Option.some.inj h
        exact ⟨.inr hB, y.2, hiny, hcovy, fun b hb hby => free hb (by omega) hby⟩
      next hge' =>
        obtain rfl := Option.some.inj h
        rcases s.nearerHead_cases x.1 y.1 with hn | hn <;> rw [hn]
        · exact ⟨.inl hA, x.2, hinx, hcovx, fun b hb hbx => free hb hbx (by omega)⟩
        · exact ⟨.inr hB, y.2, hiny, hcovy, fun b hb hby => free hb (by omega) hby⟩

end Sys2Proof.Machine
end

section
/-! ## The settling of O21 -/

namespace Sys2Proof.Machine

/-- R31, R32: why a write is dropped. -/
theorem State.dropReason_of_touched {s : State} {offset length : Nat}
    (h : ∃ b, accessed offset length b ∧ (s.pinned b ∨ Config.mapBase ≤ b)) : ∃ region,
    s.dropReason offset length = some region ∧
    ((∀ b, accessed offset length b → ¬ s.pinned b) → region = .map) ∧
    (∀ serial, region = .pinned serial → ∃ p, s.holdsPin p ∧ p.serial = serial ∧ ∃ b, accessed offset length b ∧
      p.covers b ∧ ∀ b', accessed offset length b' → b' < b → ¬ s.pinned b') ∧
    (region = .map → ∀ b, accessed offset length b → ¬ s.pinned b) := by
  unfold State.dropReason
  cases htouched : s.touchedPin offset length with
  | none =>
    have hfree := fun b => State.touchedPin_eq_none htouched (b := b)
    obtain ⟨b, hin, hb⟩ := h
    have hbase := hb.resolve_left (hfree b hin)
    have hreaches : 0 < length ∧ Config.mapBase < offset + length := by
      obtain ⟨hlow, hhigh⟩ := hin
      omega
    exact ⟨.map, if_pos hreaches, fun _ => rfl, fun _ hp => (by cases hp), fun _ => hfree⟩
  | some p =>
    obtain ⟨hp, b, hin, hcov, hless⟩ := State.touchedPin_eq_some htouched
    refine ⟨.pinned p.serial, rfl, fun hfree => absurd ⟨p, hp, hcov⟩ (hfree b hin), fun serial hs => ?_,
      fun h => by cases h⟩
    exact ⟨p, hp, DropRegion.pinned.inj hs, b, hin, hcov, hless⟩

theorem State.dropReason_of_free {s : State} {offset length : Nat}
    (h : ∀ b, accessed offset length b → ¬ s.pinned b ∧ b < Config.mapBase) : s.dropReason offset length = none := by
  unfold State.dropReason
  cases htouched : s.touchedPin offset length with
  | none =>
    refine if_neg fun hreaches => ?_
    have := (h (offset + length - 1) ⟨by omega, by omega⟩).2
    omega
  | some p =>
    obtain ⟨hp, b, hin, hcov, -⟩ := State.touchedPin_eq_some htouched
    exact absurd ⟨p, hp, hcov⟩ (h b hin).1

/-- R31: a write dropped whole. -/
theorem portWrite_dropped {offset : Word32} {bytes : List Byte} {s : State} (hserves : s.portServes = true)
    {region : DropRegion} (hreason : s.dropReason offset.toNat bytes.length = some region) :
    exec (.portWrite offset bytes) s = .next (s.dropWrite offset.toNat bytes.length region) := by
  simp [exec, execPortWrite, hserves, State.takeWrite, hreason]

/-- R31: a write applied whole. -/
theorem portWrite_applied {offset : Word32} {bytes : List Byte} {s : State} (hserves : s.portServes = true)
    (hreason : s.dropReason offset.toNat bytes.length = none) :
    exec (.portWrite offset bytes) s = .next (s.writeBytes offset.toNat bytes) := by
  simp [exec, execPortWrite, hserves, State.takeWrite, hreason]

/-- R30, R176: a port read that is taken, with the read in flight served first. -/
theorem portRead_taken {offset : Word32} {n k : Nat} {s : State} (hserves : s.portServes = true) :
    exec (.portRead offset ⟨n, k⟩) s = .next (s.takeRead offset.toNat n k) := by
  simp [exec, execPortRead, hserves]

/-- Bytes read depend on frame memory and the epoch alone. -/
theorem State.readBytes_congr {s t : State} (hm : t.fmc.mem = s.fmc.mem) (he : t.fmc.epoch = s.fmc.epoch) (a n : Nat) :
    t.readBytes a n = s.readBytes a n := by
  induction n generalizing a with
  | zero => rfl
  | succ n ih => rw [State.readBytes, State.readBytes, ih, State.readByte_congr s t a hm he]

theorem State.withPort_readBytes (s : State) (v : FramePort) (a n : Nat) :
    (s.withPort v).readBytes a n = s.readBytes a n :=
  State.readBytes_congr (s := s) (t := s.withPort v) rfl rfl a n

/-- R30: the read in flight is served with the bytes as they stand. -/
theorem State.serveWaiting_of_waiting {s : State} {r : PortRequest} (h : s.port.waiting = some r) :
    s.serveWaiting = s.withPort { s.port with
      lastRead := some ⟨r.offset, s.readBytes r.offset r.length⟩, waiting := none } := by
  unfold State.serveWaiting
  rw [h]
  dsimp only
  rw [State.serveRead, State.withPort_readBytes]
  rfl

/-- R30: a port read served as it arrives. -/
theorem State.takeRead_served (s : State) (offset n : Nat) : s.takeRead offset n 0 =
    { s with port := { s.port with lastRead := some ⟨offset, s.readBytes offset n⟩, waiting := none } } := by
  unfold State.takeRead
  cases hw : s.port.waiting with
  | none =>
    rw [State.serveWaiting_idle hw, ← hw]
    rfl
  | some r =>
    rw [State.serveWaiting_of_waiting hw, if_pos rfl, State.serveRead, State.withPort_readBytes]
    rfl

/-- Settles O21: the drop reason finds the lowest pinned byte a write touches, and a read that is taken serves the one
in flight before it. -/
theorem portServesItsHost : Obligations.PortServesItsHost := by
  refine ⟨fun offset bytes s hserves hmem => ⟨fun htouched => ?_, fun hfree => ?_⟩, fun offset n s hserves => ?_,
    fun offset n k s hserves => ⟨fun hidle => ?_, fun r hwaits => ?_⟩, fun offset n k bytes s hserves => ?_,
    fun s hrun => ⟨?_, fun t ht => ?_⟩⟩
  · obtain ⟨region, hreason, hmap, hpinned, hnone⟩ :=
      State.dropReason_of_touched (length := bytes.length) htouched
    refine ⟨_, region, portWrite_dropped hserves hreason, rfl, ?_, hmap, hpinned, hnone⟩
    exact State.raisedOnly_raise (es := []) (State.raisedOnly_of_au s.raisedOnly_refl rfl) .pinnedWrite
  · have hend {i : Nat} (hi : i < bytes.length) : offset.toNat + bytes.length ≤ Config.windowSize := by
      have := (hfree (offset.toNat + bytes.length - 1) ⟨by omega, by omega⟩).2
      simp only [Config.windowSize]
      omega
    have hreason : s.dropReason offset.toNat bytes.length = none := State.dropReason_of_free hfree
    refine ⟨_, portWrite_applied hserves hreason, rfl, Memory.write_wf _ _ _ hmem,
      fun i hi => State.readByte_writeBytes_inside s _ i _ hmem hi (hend hi), fun b hb => ?_⟩
    exact State.readByte_writeBytes_other s _ b _ (by omega)
  · exact ⟨_, (portRead_taken hserves).trans (by rw [State.takeRead_served]), s.readBytes_length _ _,
      fun i hi => s.readBytes_getD _ _ i hi⟩
  · rw [portRead_taken hserves, State.takeRead, State.serveWaiting_idle hidle]
    rfl
  · refine ⟨s.readBytes r.offset r.length, ?_, s.readBytes_length _ _, fun i hi => s.readBytes_getD _ _ i hi⟩
    rw [portRead_taken hserves, State.takeRead, State.serveWaiting_of_waiting hwaits]
    rfl
  · simp [exec, execPortRead, execPortWrite, hserves]
  · simp [exec, execPcieLinkUp, hrun, State.withPort]
  · have hup : exec .pcieLinkUp s = .next (s.withPort { s.port with linkUp := true }) := by
      simp [exec, execPcieLinkUp, hrun]
    obtain rfl := Host.Outcome.next.inj (hup.symm.trans ht)
    simp [State.portServes, hrun]

end Sys2Proof.Machine
end

section
/-! ## A write-back that goes on (R36, R64) -/

namespace Sys2Proof.Machine

/-- R36, R203: the descriptor at an address, which is not descriptor 0, is marked: VALID clear and DONE set in its
control byte, and every other byte of memory as it was. -/
def State.marksNext (s t : State) (address : Nat) : Prop :=
  t.sr.wbList = s.sr.wbList ∧ t.sr.wbPos = s.sr.wbPos + 1 ∧
  t.sr.channel.busy = some (.mark (s.readByte address)) ∧
  t.readByte address = (s.readByte address &&& 0xFE) ||| 0x04 ∧
  (∀ b, b ≠ address → t.readByte b = s.readByte b) ∧ t.fq = s.fq ∧ t.rm = s.rm ∧ t.au = s.au

/-- R35, R36, R65: a free channel that no line fetch waits for grants the marking of a descriptor behind the first. -/
theorem State.grant_marksNext {s : State} {k : Key} {ks : List Key} {e : Entry} {i : ImagePart} {p : StoredPart}
    {w : Bool} (hch : s.sr.channel = ⟨none, false, true, w⟩) (hlist : s.sr.wbList = k :: ks)
    (hfind : findEntry s.fq.entries k = some e) (hbody : e.body = .stored i p) (hpos : 1 ≤ s.sr.wbPos)
    (hrange : p.tableOffset + 16 * s.sr.wbPos + 16 ≤ Config.mapBase) (hmem : s.memoryCanonical) :
    s.marksNext s.grant (p.tableOffset + 16 * s.sr.wbPos) := by
  have hgrant : s.grant = (s.writeBytes (p.tableOffset + 16 * s.sr.wbPos)
      [markedControl (s.readByte (p.tableOffset + 16 * s.sr.wbPos))]).withSr { s.sr with
        wbPos := s.sr.wbPos + 1
        channel := ⟨some (.mark (s.readByte (p.tableOffset + 16 * s.sr.wbPos))), false, false, w⟩ } := by
    have hmark : s.grant = s.grantMark := by simp [State.grant, hch]
    have hne : s.sr.wbPos ≠ 0 := by omega
    have hfront : s.sr.wbList.head?.bind (findEntry s.fq.entries) = some e := by rw [hlist]; exact hfind
    rw [hmark]
    simp [State.grantMark, State.writeMark, hfront, hbody, hne, hrange, hch, Config.descriptorSize]
    rfl
  have hmap : Config.mapBase ≤ Config.windowSize := by decide
  rw [hgrant]
  refine ⟨rfl, rfl, rfl, ?_, fun b hb => ?_, rfl, rfl, rfl⟩
  · exact State.readByte_writeBytes_inside s _ 0 _ hmem (by simp) (by simp only [List.length_singleton]; omega)
  · exact State.readByte_writeBytes_other s _ b _ (by simp only [List.length_singleton]; omega)

/-- R68: an event that leaves the exposure, and the head of the list while it exposes, makes no line due. -/
theorem State.beginLine_of_head {s t : State} (hline : s.lineBegun) (hrun : s.pins.resetLow = false)
    (hgc : t.gc = s.gc) (hhead : s.isExposing = true → t.head? = s.head?) : t.beginLine = t := by
  refine State.beginLine_of_begun fun x hx => ?_
  have hexposure : t.exposure? = s.exposure? := by simp only [State.exposure?, hgc]
  have hexposing : t.isExposing = s.isExposing := by simp only [State.isExposing, hexposure]
  have hheight : t.frameHeight = s.frameHeight := by
    unfold State.frameHeight State.exposingEntry?
    rw [hexposing]
    split
    next h => rw [hhead h]
    · rfl
  have hbegun := hline hrun x (hexposure ▸ hx)
  simpa only [State.lineDue, hheight] using hbegun

/-- R65: while a marking occupies the channel the end of an event grants nothing. -/
theorem State.quiesce_of_marking {s : State} {control : Byte} (hbegun : s.beginLine = s)
    (hbusy : s.sr.channel.busy = some (.mark control)) (htables : s.tablesInRange) : ∃ st w a b i,
    s.quiesce = { s with
      sr := { s.sr with staging := st, channel := { s.sr.channel with waitStage := w } }
      fmc := { s.fmc with pinA := a, pinB := b }
      stu := { s.stu with idle := i } } := by
  obtain ⟨st, w, a, b, hoffer, -⟩ := s.offerStaging_shape htables
  have hasked : s.offerStaging.requestMarking = s.offerStaging := by
    rw [hoffer]
    exact if_pos (.inr (by simp [ReadChannel.mark?, hbusy]))
  have hgranted : s.offerStaging.grant = s.offerStaging := by
    rw [hoffer]
    simp [State.grant, hbusy]
  obtain ⟨i, hidle⟩ := s.offerStaging.updateIdle_shape
  refine ⟨st, w, a, b, i, ?_⟩
  rw [State.quiesce, hbegun, hasked, hgranted, hidle, hoffer]

/-- R64: an idle channel, with no line to begin, goes on with the write-back at the end of the event. -/
theorem State.quiesce_marksNext {s : State} {k : Key} {ks : List Key} {e : Entry} {i : ImagePart} {p : StoredPart}
    (hbegun : s.beginLine = s) (htables : s.tablesInRange) (hch : s.sr.channel = .idle)
    (hlist : s.sr.wbList = k :: ks) (hfind : findEntry s.fq.entries k = some e) (hbody : e.body = .stored i p)
    (hpos : 1 ≤ s.sr.wbPos) (hrange : p.tableOffset + 16 * s.sr.wbPos + 16 ≤ Config.mapBase)
    (hmem : s.memoryCanonical) : s.marksNext s.quiesce (p.tableOffset + 16 * s.sr.wbPos) := by
  obtain ⟨st, w, a, b, hoffer, -⟩ := s.offerStaging_shape htables
  have hasked : s.beginLine.offerStaging.requestMarking = { s with
      sr := { s.sr with staging := st, channel := ⟨none, false, true, w⟩ }
      fmc := { s.fmc with pinA := a, pinB := b } } := by
    rw [hbegun, hoffer]
    simp [State.requestMarking, State.withChannel, State.withSr, hch, hlist, ReadChannel.idle, ReadChannel.mark?]
  obtain ⟨idle, hidle⟩ := s.beginLine.offerStaging.requestMarking.grant.updateIdle_shape
  have hmarks := State.grant_marksNext (s := s.beginLine.offerStaging.requestMarking) (w := w) (k := k) (ks := ks)
    (e := e) (i := i) (p := p) (by rw [hasked]) (by rw [hasked]; exact hlist) (by rw [hasked]; exact hfind) hbody
    (by rw [hasked]; exact hpos) (by rw [hasked]; exact hrange) (by rw [hasked]; exact hmem)
  rw [State.quiesce, hidle]
  generalize hu : s.beginLine.offerStaging.requestMarking.grant = u at hmarks
  rw [hasked] at hmarks
  exact hmarks

/-- R36, R64, R65: a write-back that goes on marks its next descriptor at the event that frees the channel. -/
theorem State.freed_marksNext {s : State} {k : Key} {ks : List Key} {e : Entry} {i : ImagePart} {p : StoredPart}
    (hrun : s.pins.resetLow = false) (hfetch : s.sr.channel.waitFetch = false)
    (hstage : s.sr.channel.waitStage = false) (hline : s.lineBegun)
    (htables : s.tablesInRange) (hlist : s.sr.wbList = k :: ks) (hfind : findEntry s.fq.entries k = some e)
    (hbody : e.body = .stored i p) (hpos : 1 ≤ s.sr.wbPos)
    (hrange : p.tableOffset + 16 * s.sr.wbPos + 16 ≤ Config.mapBase) (hmem : s.memoryCanonical) :
    s.marksNext s.freeChannel.quiesce (p.tableOffset + 16 * s.sr.wbPos) := by
  obtain ⟨c, pos, m, hshape⟩ := s.freeChannel_channelOnly
  have hbegun : s.freeChannel.beginLine = s.freeChannel :=
    State.beginLine_of_head hline hrun (by rw [hshape]) fun _ => by rw [hshape]; rfl
  have htables' : s.freeChannel.tablesInRange :=
    State.tablesInRange_of_sub htables fun d hd => by rwa [State.freeChannel_queueCore] at hd
  have hch : { s.sr.channel with busy := none } = (⟨none, false, s.sr.channel.waitMark, false⟩ : ReadChannel) := by
    simp [hfetch, hstage]
  cases hwait : s.sr.channel.waitMark with
  | false =>
    have hfreed : s.freeChannel = s.withChannel .idle := by
      rw [State.freeChannel, hch, hwait]
      rfl
    rw [hfreed] at hbegun htables' ⊢
    exact State.quiesce_marksNext hbegun htables' rfl hlist hfind hbody hpos hrange hmem
  | true =>
    have hmarks : s.marksNext s.freeChannel (p.tableOffset + 16 * s.sr.wbPos) := by
      rw [State.freeChannel, hch, hwait]
      exact State.grant_marksNext (s := s.withChannel ⟨none, false, true, false⟩) rfl hlist hfind hbody hpos hrange hmem
    have hmarking : s.freeChannel.sr.channel.busy = some (.mark (s.readByte (p.tableOffset + 16 * s.sr.wbPos))) := by
      obtain ⟨-, -, h, -⟩ := hmarks
      exact h
    obtain ⟨st, w, a, b, idle, hquiet⟩ := State.quiesce_of_marking hbegun hmarking htables'
    rw [hquiet]
    exact hmarks

end Sys2Proof.Machine
end

section
/-! ## A write-back that ends (R22, R38, R65) -/

namespace Sys2Proof.Machine

/-! ### What the end reports -/

/-- R15, R22: what the end of an entry's write-back reports. -/
def State.reportCompletion (s : State) (e : Entry) : State :=
  match e.stored?.bind StoredPart.completion, e.rejected? with
  | some .exposed, _ => s.raise .entryRetired
  | some .rejected, some r => s.completeRejection e r
  | some .rejected, none => s
  | some .cancelled, _ => s
  | none, _ => s

/-- R38: the write-back at the front of the list, in its steps. -/
theorem State.endWriteBack_eq {s : State} {k : Key} {ks : List Key} {e : Entry} {pos : Nat}
    (hlist : s.sr.wbList = k :: ks) (hfind : findEntry s.fq.entries k = some e)
    (hpos : positionOf s.fq.entries k = some pos) : s.endWriteBack = State.settleHead
      ((((s.withSr { s.sr with wbList := ks, wbPos := 0 }).releasePin k).removeAt pos).reportCompletion e) := by
  unfold State.endWriteBack
  rw [hlist]
  dsimp only
  rw [State.withSr_fq, hfind, hpos]
  dsimp only
  unfold State.reportCompletion
  cases e.stored?.bind StoredPart.completion with
  | none => rfl
  | some c =>
    cases c with
    | exposed | cancelled => rfl
    | rejected => cases e.rejected? <;> rfl

theorem State.reportCompletion_exposed {s : State} {e : Entry}
    (h : e.stored?.bind StoredPart.completion = some .exposed) : s.reportCompletion e = s.raise .entryRetired := by
  unfold State.reportCompletion; rw [h]

theorem State.reportCompletion_cancelled {s : State} {e : Entry}
    (h : e.stored?.bind StoredPart.completion = some .cancelled) : s.reportCompletion e = s := by
  unfold State.reportCompletion; rw [h]

theorem State.reportCompletion_rejected {s : State} {e : Entry} {r : RejectReason}
    (h : e.stored?.bind StoredPart.completion = some .rejected) (hr : e.state = .rejected r) :
    s.reportCompletion e = s.completeRejection e r := by
  have hr' : e.rejected? = some r := by simp [Entry.rejected?, hr]
  unfold State.reportCompletion; rw [h, hr']

theorem State.completeRejection_shape (s : State) (e : Entry) (r : RejectReason) : ∃ au,
    s.completeRejection e r = { s with
      fq := { s.fq with rejection := some ⟨e.serial, e.key, r⟩, held := s.fq.held.add .rejected }, au := au } := by
  obtain ⟨au, hadd, -⟩ := (s.withFq { s.fq with rejection := some ⟨e.serial, e.key, r⟩ }).addHeld_spec .rejected
  rw [State.completeRejection, hadd]
  exact ⟨_, rfl⟩

/-- A report touches the rejection record, the held-reason set and the attention lines. -/
theorem State.reportCompletion_shape (s : State) (e : Entry) : ∃ rejection held au,
    s.reportCompletion e = { s with fq := { s.fq with rejection := rejection, held := held }, au := au } := by
  unfold State.reportCompletion
  split
  · exact ⟨s.fq.rejection, s.fq.held, _, rfl⟩
  next r _ _ =>
    obtain ⟨au, h⟩ := s.completeRejection_shape e r
    exact ⟨_, _, au, h⟩
  all_goals exact ⟨s.fq.rejection, s.fq.held, s.au, rfl⟩

/-- R195: a raised event is latched. -/
theorem State.raise_hasLatched (s : State) (e : Event) : (s.raise e).hasLatched e := fun n => by
  have hset : e.set.getLsbD e.bit = true := by cases e <;> decide
  rw [State.raise_au, BitVec.getLsbD_or, hset, Bool.or_true]

/-! ### Removals and the window -/

theorem Entry.windowPin_key {e : Entry} {r : PinRecord} (h : e.windowPin = some r) : r.key = e.key := by
  unfold Entry.windowPin at h
  split at h
  · cases h
  · obtain ⟨p, -, h⟩ := Option.bind_eq_some_iff.mp h
    split at h <;> cases h <;> rfl

theorem State.releasePin_holdsPin {s : State} {k : Key} {q : PinRecord} (h : (s.releasePin k).holdsPin q) :
    s.holdsPin q ∧ q.key ≠ k := by
  rcases h with h | h <;> obtain ⟨hq, hk⟩ := Option.filter_eq_some_iff.mp h
  · exact ⟨.inl hq, by simpa using hk⟩
  · exact ⟨.inr hq, by simpa using hk⟩

theorem State.takePin_source {s : State} {r q : PinRecord} (h : (s.takePin r).holdsPin q) : s.holdsPin q ∨ q = r := by
  unfold State.takePin at h
  split at h
  · rcases h with h | h
    · exact .inr (Option.some.inj h).symm
    · exact .inl (.inr h)
  · rcases h with h | h
    · exact .inl (.inl h)
    · exact .inr (Option.some.inj h).symm
  · exact .inl h

/-- R14: a removal takes no record but that of the entry it brings into the window. -/
theorem State.removeAt_source {s : State} {pos : Nat} {e : Entry} (he : s.fq.entries[pos]? = some e) {q : PinRecord}
    (hq : (s.removeAt pos).holdsPin q) : s.holdsPin q ∨ ∃ c ∈ s.fq.entries.eraseIdx pos, q.key = c.key := by
  have hout (h : (s.takeOut pos e).holdsPin q) : s.holdsPin q := by
    unfold State.takeOut at h
    dsimp only at h
    split at h
    · obtain ⟨h, -⟩ := State.releasePin_holdsPin (s := s.unname e) (k := e.key) h
      simpa [State.holdsPin] using h
    · simpa [State.holdsPin, State.withEntries] using h
  have hreport (u : State) : u.reportEmpty.fmc = u.fmc := by unfold State.reportEmpty; split <;> rfl
  rw [s.removeAt_eq he] at hq
  unfold State.holdsPin at hq
  rw [hreport] at hq
  split at hq
  · cases hc : (s.takeOut pos e).fq.entries[1]? with
    | none =>
      rw [State.enterWindow, hc] at hq
      exact .inl (hout hq)
    | some c =>
      rw [State.enterWindow_eq hc] at hq
      have hin : c ∈ s.fq.entries.eraseIdx pos := by
        have := List.mem_of_getElem? hc
        rwa [State.takeOut_fq] at this
      cases hpin : c.windowPin with
      | none =>
        rw [hpin] at hq
        exact .inl (hout hq)
      | some r =>
        rw [hpin] at hq
        rcases State.takePin_source hq with hq | rfl
        · exact .inl (hout hq)
        · exact .inr ⟨c, hin, Entry.windowPin_key hpin⟩
  · exact .inl (hout hq)

/-- R14, R40: with a free place in the pin table a removal gives the entry it brings into the window its record. -/
theorem State.removeAt_takes {s : State} {pos : Nat} (hpos : pos ≤ 1) {e e2 : Entry} (he : s.fq.entries[pos]? = some e)
    (hfree : s.fmc.pinA = none ∨ s.fmc.pinB = none) (h2 : s.fq.entries[2]? = some e2) {r : PinRecord}
    (hr : e2.windowPin = some r) : (s.removeAt pos).holdsPin r := by
  have hfree' : (s.takeOut pos e).fmc.pinA = none ∨ (s.takeOut pos e).fmc.pinB = none := by
    unfold State.takeOut
    dsimp only
    split
    · refine hfree.imp (fun h => ?_) fun h => ?_ <;> simp [State.releasePin, State.withEntries, unlessKey, h]
    · simpa [State.withEntries] using hfree
  have hnext : (s.takeOut pos e).fq.entries[1]? = some e2 := by
    rw [State.takeOut_fq]
    exact (List.getElem?_eraseIdx_of_ge hpos).trans h2
  have hremove : (s.removeAt pos).fmc = ((s.takeOut pos e).takePin r).fmc := by
    rw [s.removeAt_eq he, if_pos hpos, State.enterWindow_eq hnext, hr, State.reportEmpty]
    split <;> rfl
  unfold State.holdsPin
  rw [hremove]
  exact (State.takePin_holdsPin r hfree' r).mpr (.inr rfl)

/-- R39, R42: the record of an entry in the staging window released, the pin table has a free place. -/
theorem State.releasePin_free {s : State} (h : s.pinsInWindow) {pos : Nat} (hpos : pos ≤ 1) {e : Entry}
    (he : s.fq.entries[pos]? = some e) :
    (s.releasePin e.key).fmc.pinA = none ∨ (s.releasePin e.key).fmc.pinB = none := by
  obtain ⟨hwindow, hapart⟩ := h
  rcases ha : (s.releasePin e.key).fmc.pinA with _ | p
  · exact .inl rfl
  rcases hb : (s.releasePin e.key).fmc.pinB with _ | q
  · exact .inr rfl
  have held {r : PinRecord} (hr : (s.releasePin e.key).holdsPin r) : ∃ n x, n ≤ 1 ∧ n ≠ pos ∧
      s.fq.entries[n]? = some x ∧ x.key = r.key := by
    obtain ⟨hr, hk⟩ := State.releasePin_holdsPin hr
    obtain ⟨n, x, hn, hx, hxk, -⟩ := hwindow r hr
    refine ⟨n, x, by omega, ?_, hx, hxk⟩
    rintro rfl
    obtain rfl : x = e := Option.some.inj (hx.symm.trans he)
    exact hk hxk.symm
  obtain ⟨m, x, hm, hmpos, hx, hxk⟩ := held (.inl ha)
  obtain ⟨n, y, hn, hnpos, hy, hyk⟩ := held (.inr hb)
  obtain rfl : m = n := by omega
  obtain rfl : x = y := Option.some.inj (hx.symm.trans hy)
  exact absurd (hxk.symm.trans hyk)
    (hapart p q (Option.filter_eq_some_iff.mp ha).1 (Option.filter_eq_some_iff.mp hb).1)

/-! ### The list after a removal -/

theorem findEntry_changeAt_of_fixed {es : List Entry} {k : Key} {e : Entry} (h : findEntry es k = some e)
    (hfixed : e.entered = e) (n : Nat) : findEntry (changeAt es n Entry.entered) k = some e := by
  induction es generalizing n with
  | nil => cases h
  | cons x xs ih =>
    by_cases hx : x.key = k
    · obtain rfl : x = e := by simpa [findEntry, hx] using h
      cases n <;> simp [changeAt, findEntry, hfixed, hx]
    · have htail : findEntry xs k = some e := by simpa [findEntry, hx] using h
      cases n with
      | zero => simpa [changeAt, findEntry, Entry.entered_key, hx] using htail
      | succ n => simpa [changeAt, findEntry, hx] using ih htail n

/-- An entry that a removal neither takes nor changes is found as before. -/
theorem findEntry_removedAt {xs ys : List Entry} {e e' : Entry} {k : Key}
    (h : findEntry (xs ++ e :: ys) k = some e') (hk : e.key ≠ k) (hfixed : e'.entered = e') :
    findEntry (removedAt (xs ++ e :: ys) xs.length) k = some e' := by
  have hrest : findEntry (xs ++ ys) k = some e' := by
    unfold findEntry at h ⊢
    rw [List.find?_append, List.find?_cons_of_neg (by simpa using hk)] at h
    rw [List.find?_append, h]
  unfold removedAt
  rw [eraseIdx_split]
  split
  · exact findEntry_changeAt_of_fixed hrest hfixed 1
  · exact hrest

theorem keys_eraseIdx_split {xs : List Entry} {e : Entry} (ys : List Entry) (h : ∀ x ∈ xs, x.key ≠ e.key) :
    ((xs ++ e :: ys).map Entry.key).eraseIdx xs.length = ((xs ++ e :: ys).map Entry.key).erase e.key := by
  have hnot : e.key ∉ xs.map Entry.key := by simpa using h
  rw [List.eraseIdx_map, eraseIdx_split, List.map_append, List.map_append, List.map_cons,
    List.erase_append_right _ hnot, List.erase_cons_head]

theorem removedAt_head? {es : List Entry} {pos : Nat} (h : pos ≠ 0) : (removedAt es pos).head? = es.head? := by
  obtain ⟨n, rfl⟩ := Nat.exists_eq_succ_of_ne_zero h
  have herased : (es.eraseIdx (n + 1)).head? = es.head? := by cases es <;> rfl
  unfold removedAt
  split
  · rw [← herased]
    cases es.eraseIdx (n + 1) <;> rfl
  · exact herased

/-- Removal of the entry of a key from a list whose other entries are not REJECTED leaves none that is. -/
theorem removedAt_unrejected {es : List Entry} {pos : Nat} {k : Key}
    (hkeys : (es.map Entry.key).eraseIdx pos = (es.map Entry.key).erase k) (hnodup : (es.map Entry.key).Nodup)
    (h : ∀ e ∈ es, e.key ≠ k → e.rejected? = none) : ∀ e ∈ removedAt es pos, e.key ≠ k ∧ e.rejected? = none := by
  intro e he
  have hkey : e.key ≠ k := by
    have := List.mem_map_of_mem (f := Entry.key) he
    rw [removedAt_map _ _ _ Entry.entered_key, hkeys] at this
    exact fun hk => hnodup.not_mem_erase (hk ▸ this)
  refine ⟨hkey, ?_⟩
  rcases mem_removedAt he with he | ⟨x, hx, rfl⟩
  · exact h e he hkey
  · exact Entry.entered_rejected? (h x hx (by rwa [Entry.entered_key] at hkey))

end Sys2Proof.Machine
end

section
/-! ## The settling of O48 -/

namespace Sys2Proof.Machine

/-! ### The entry is out -/

/-- R38, R42: the channel is free, the write-back of an entry is off the list, and the entry's record is released. -/
def State.unlisted (s : State) (e : Entry) (ks : List Key) : State :=
  (s.freeChannel.withSr { s.freeChannel.sr with wbList := ks, wbPos := 0 }).releasePin e.key

/-- R38: the state in which the write-back of the entry at a position has ended and its completion is reported. -/
def State.writtenBack (s : State) (e : Entry) (ks : List Key) (pos : Nat) : State :=
  ((s.unlisted e ks).removeAt pos).reportCompletion e

theorem State.unlisted_shape (s : State) (e : Entry) (ks : List Key) : ∃ c m,
    s.unlisted e ks = { s with
      sr := { s.sr with wbList := ks, wbPos := 0, channel := c }
      fmc := { s.fmc with mem := m, pinA := unlessKey e.key s.fmc.pinA, pinB := unlessKey e.key s.fmc.pinB } } := by
  obtain ⟨c, p, m, h⟩ := s.freeChannel_channelOnly
  rw [State.unlisted, h]
  exact ⟨c, m, rfl⟩

theorem State.freeChannel_of_quiet {s : State} (hfetch : s.sr.channel.waitFetch = false)
    (hmark : s.sr.channel.waitMark = false) (hstage : s.sr.channel.waitStage = false) :
    s.freeChannel = s.withChannel .idle := by
  have hch : { s.sr.channel with busy := none } = ReadChannel.idle := by simp [hfetch, hmark, hstage, ReadChannel.idle]
  rw [State.freeChannel, hch]
  rfl

/-- R14, R38: what an ended write-back has changed before the event ends. -/
theorem State.writtenBack_shape {s : State} {e : Entry} {ks : List Key} {pos : Nat}
    (he : s.fq.entries[pos]? = some e) : ∃ a b rejection held au, s.writtenBack e ks pos = { s with
      fq := { s.fq with entries := removedAt s.fq.entries pos, rejection := rejection, held := held }
      sr := (s.unlisted e ks).sr
      fmc := { s.fmc with mem := (s.unlisted e ks).fmc.mem, pinA := a, pinB := b }
      cs := (s.unname e).cs
      au := au } := by
  obtain ⟨c, m, hunlisted⟩ := s.unlisted_shape e ks
  have he' : (s.unlisted e ks).fq.entries[pos]? = some e := by rw [hunlisted]; exact he
  have hcs : ((s.unlisted e ks).unname e).cs = (s.unname e).cs := by
    rw [hunlisted]; unfold State.unname; cases e.image? <;> rfl
  obtain ⟨a, b, au, hremoved, -⟩ := State.removeAt_shape he'
  obtain ⟨rejection, held, au', hreported⟩ := ((s.unlisted e ks).removeAt pos).reportCompletion_shape e
  refine ⟨a, b, rejection, held, au', ?_⟩
  rw [State.writtenBack, hreported, hremoved, hcs, hunlisted]

theorem State.writtenBack_core {s : State} {e : Entry} {ks : List Key} {pos : Nat}
    (he : s.fq.entries[pos]? = some e) :
    (s.writtenBack e ks pos).fq.entries.map Entry.core = (s.fq.entries.map Entry.core).eraseIdx pos := by
  obtain ⟨a, b, rejection, held, au, hshape⟩ := State.writtenBack_shape (ks := ks) he
  rw [hshape]
  exact removedAt_map _ _ _ Entry.entered_core

theorem State.writtenBack_tables {s : State} {e : Entry} {ks : List Key} {pos : Nat}
    (he : s.fq.entries[pos]? = some e) (h : s.tablesInRange) : (s.writtenBack e ks pos).tablesInRange :=
  State.tablesInRange_of_sub h fun c hc => by
    have hc' : c ∈ (s.writtenBack e ks pos).fq.entries.map Entry.core := hc
    rw [State.writtenBack_core he] at hc'
    exact List.mem_of_mem_eraseIdx hc'

/-- What the end of the event leaves of a write-back that has ended. -/
theorem State.writtenBack_quiesces {s : State} {e : Entry} {ks : List Key} {pos : Nat}
    (he : s.fq.entries[pos]? = some e) (h : s.tablesInRange) :
    let v := s.writtenBack e ks pos
    let t := v.quiesce
    v.offeredFrom t ∧ t.fq = v.fq ∧ t.au = v.au ∧ t.sr.wbList = ks ∧ t.cs = (s.unname e).cs ∧ t.rm = s.rm ∧
    t.dbi = s.dbi := by
  intro v t
  obtain ⟨c, m, hunlisted⟩ := s.unlisted_shape e ks
  obtain ⟨a, b, rejection, held, au, hshape⟩ := State.writtenBack_shape (ks := ks) he
  obtain ⟨g, st, f, p, c, m, a, b, i, hquiet, hoffer⟩ := v.quiesce_shape (State.writtenBack_tables he h)
  have ht : t = v.quiesce := rfl
  refine ⟨?_, ?_, ?_, ?_, ?_, ?_, ?_⟩ <;> rw [ht, hquiet]
  · exact hoffer
  all_goals rw [show v = s.writtenBack e ks pos from rfl, hshape]
  rw [hunlisted]

/-- R36, R38: the last marking of a write-back ends it, and the head that this leaves needs no settling. -/
theorem State.markingDone_of_stops {s : State} {control : Byte} {k : Key} {ks : List Key} {e : Entry} {pos : Nat}
    (hbusy : s.sr.channel.busy = some (.mark control)) (hlist : s.sr.wbList = k :: ks)
    (hfind : findEntry s.fq.entries k = some e) (hpos : positionOf s.fq.entries k = some pos)
    (he : s.fq.entries[pos]? = some e) (hkey : e.key = k) (hno : s.noStart = true)
    (hstops : writeBackStops control s.writeBackTable s.sr.wbPos = true)
    (hunrejected : ∀ e' ∈ removedAt s.fq.entries pos, e'.rejected? = none) :
    s.markingDone = (s.writtenBack e ks pos).quiesce := by
  obtain ⟨c, p, m, hfreed⟩ := s.freeChannel_channelOnly
  obtain ⟨a, b, rejection, held, au, hshape⟩ := State.writtenBack_shape (ks := ks) he
  have hended : s.freeChannel.endWriteBack = s.writtenBack e ks pos := by
    rw [State.endWriteBack_eq (k := k) (ks := ks) (e := e) (pos := pos) (by rw [hfreed]; exact hlist)
      (by rw [hfreed]; exact hfind) (by rw [hfreed]; exact hpos), ← hkey]
    exact State.settleHead_of_unrejected (s := s.writtenBack e ks pos) (by rw [hshape]; exact hunrejected)
  have hmark : s.sr.channel.mark? = some control := by simp [ReadChannel.mark?, hbusy]
  unfold State.markingDone
  rw [hmark]
  dsimp only
  rw [if_pos hstops, hended]
  exact State.settle_of_noStart hno (by rw [hshape]) (by rw [hshape])

/-! ### Pins -/

theorem State.reportCompletion_holdsPin (s : State) (e : Entry) (q : PinRecord) :
    (s.reportCompletion e).holdsPin q ↔ s.holdsPin q := by
  obtain ⟨rejection, held, au, h⟩ := s.reportCompletion_shape e
  rw [h]
  exact Iff.rfl

/-- R42: no record of an entry written back is left. -/
theorem State.writtenBack_released {s : State} {e : Entry} {ks : List Key} {pos : Nat}
    (he : s.fq.entries[pos]? = some e) (hnot : ∀ c ∈ s.fq.entries.eraseIdx pos, c.key ≠ e.key) {q : PinRecord}
    (hq : (s.writtenBack e ks pos).holdsPin q) : q.key ≠ e.key := by
  obtain ⟨c, m, hunlisted⟩ := s.unlisted_shape e ks
  have hfq : (s.unlisted e ks).fq = s.fq := by rw [hunlisted]
  rw [State.writtenBack, State.reportCompletion_holdsPin] at hq
  rcases State.removeAt_source (by rw [hfq]; exact he) hq with hq | ⟨c, hc, hk⟩
  · exact (State.releasePin_holdsPin hq).2
  · rw [hfq] at hc
    exact hk ▸ hnot c hc

/-- R10, R40, R41: the entry that an ended write-back brings to position 1 has entered the window when the event
ends. -/
theorem State.writtenBack_windowTook {s : State} {e e2 : Entry} {ks : List Key} {pos : Nat}
    (he : s.fq.entries[pos]? = some e) (htables : s.tablesInRange) (hbounded : s.queueBounded)
    (hwindow : s.pinsInWindow) (hpos : pos ≤ 1) (h2 : s.fq.entries[2]? = some e2)
    (hstaging : s.sr.staging.map Staging.key ≠ some e2.key) : (s.writtenBack e ks pos).quiesce.windowTook e2 := by
  obtain ⟨c, m, hunlisted⟩ := s.unlisted_shape e ks
  obtain ⟨a, b, rejection, held, au, hshape⟩ := State.writtenBack_shape (ks := ks) he
  obtain ⟨hoffer, hfq, -⟩ := State.writtenBack_quiesces (ks := ks) he htables
  have hentries : (s.writtenBack e ks pos).fq.entries = removedAt s.fq.entries pos := by rw [hshape]
  have hstage : (s.writtenBack e ks pos).sr.staging = s.sr.staging := by rw [hshape, hunlisted]
  have hentry : (s.writtenBack e ks pos).fq.entries[1]? = some e2.entered := by
    rw [hentries, removedAt_getElem?_one hpos, h2, Option.map_some]
  have hkeys : ((s.writtenBack e ks pos).fq.entries.map Entry.key).Nodup :=
    keys_eraseIdx_of_cores (State.writtenBack_core he) ▸ hbounded.2.eraseIdx pos
  have hfree : (s.unlisted e ks).fmc.pinA = none ∨ (s.unlisted e ks).fmc.pinB = none := by
    rw [hunlisted]
    exact State.releasePin_free hwindow hpos he
  have held {r : PinRecord} (hr : e2.windowPin = some r) : (s.writtenBack e ks pos).holdsPin r := by
    rw [State.writtenBack, State.reportCompletion_holdsPin]
    exact State.removeAt_takes hpos (by rw [hunlisted]; exact he) hfree (by rw [hunlisted]; exact h2) hr
  refine State.windowTook_of (by rw [hfq]; exact hentry) (fun p hl hq hp => ?_) (fun r p hl hr hp => ?_)
  · exact State.offeredFrom_fresh hoffer (held (by simp [Entry.windowPin, hl, hp, hq])) (by rw [hstage]; exact hstaging)
  · have hin : e2 ∈ (s.writtenBack e ks pos).fq.entries := by
      refine List.mem_of_getElem? (i := 1) (hentry.trans ?_)
      simp [Entry.entered, hl, hr]
    exact State.offeredFrom_unstaged hoffer hkeys hin (by simp [hr]) (held (by simp [Entry.windowPin, hl, hp, hr])) rfl

/-! ### The next write-back -/

/-- R35, log entry 29: with nothing waiting for the channel the next write-back begins at the same event. -/
theorem State.writtenBack_marksFirst {s : State} {xs ys : List Entry} {e e' : Entry} {i' : ImagePart}
    {p' : StoredPart} {c : Completion} {k' : Key} {ks' : List Key} (hes : s.fq.entries = xs ++ e :: ys)
    (hline : s.lineBegun) (hrun : s.pins.resetLow = false) (htables : s.tablesInRange) (hmem : s.memoryCanonical)
    (hfetch : s.sr.channel.waitFetch = false) (hmark : s.sr.channel.waitMark = false)
    (hstage : s.sr.channel.waitStage = false) (hhead : s.isExposing = true → ∀ h, s.head? = some h → h.key ≠ e.key)
    (hne : e.key ≠ k') (hfind : findEntry s.fq.entries k' = some e') (hbody : e'.body = .stored i' p')
    (hc : p'.completion = some c) (halign : p'.tableOffset % 16 = 0) :
    s.marksFirst (s.writtenBack e (k' :: ks') xs.length).quiesce i' p' c := by
  have he : s.fq.entries[xs.length]? = some e := by simp [hes]
  obtain ⟨a, b, rejection, held, au, hshape⟩ := State.writtenBack_shape (ks := k' :: ks') he
  have hunlisted : s.unlisted e (k' :: ks') = { s with
      sr := { s.sr with wbList := k' :: ks', wbPos := 0, channel := .idle }
      fmc := { s.fmc with pinA := unlessKey e.key s.fmc.pinA, pinB := unlessKey e.key s.fmc.pinB } } := by
    rw [State.unlisted, State.freeChannel_of_quiet hfetch hmark hstage]
    rfl
  have hfixed : e'.entered = e' := by
    simp [Entry.entered, Entry.leaving, Entry.stored?, hbody, hc]
  have hbegun : (s.writtenBack e (k' :: ks') xs.length).beginLine = s.writtenBack e (k' :: ks') xs.length := by
    refine State.beginLine_of_head hline hrun (by rw [hshape]) fun hexposing => ?_
    have hlater : xs.length ≠ 0 := by
      intro h0
      refine hhead hexposing e ?_ rfl
      rw [h0] at he
      simpa [State.head?, List.head?_eq_getElem?] using he
    rw [hshape]
    exact removedAt_head? hlater
  have hfound : findEntry (s.writtenBack e (k' :: ks') xs.length).fq.entries k' = some e' := by
    rw [hshape]
    exact hes ▸ findEntry_removedAt (hes ▸ hfind) hne hfixed
  have hmarks := State.quiesce_marks (t := s.writtenBack e (k' :: ks') xs.length) (k := k') (ks := ks') hbegun
    (by rw [hshape, hunlisted]) (by rw [hshape, hunlisted]) (by rw [hshape, hunlisted])
    (by rw [hshape, hunlisted]; exact hmem) (State.writtenBack_tables he htables) hfound hbody hc halign
  generalize hquiet : (s.writtenBack e (k' :: ks') xs.length).quiesce = t at hmarks
  rw [hshape, hunlisted] at hmarks
  exact hmarks

/-! ### The report -/

/-- R15, R22: what the end of a write-back reports, by the completion its entry left with. -/
theorem State.writtenBack_reports {s : State} {e : Entry} {p : StoredPart} {ks : List Key} {pos : Nat}
    (he : s.fq.entries[pos]? = some e) (hp : e.stored? = some p) :
    let t := s.writtenBack e ks pos
    (p.completion = some .exposed → t.hasLatched .entryRetired ∧ t.fq.rejection = s.fq.rejection) ∧
    (p.completion = some .cancelled → t.fq.rejection = s.fq.rejection ∧ t.fq.held = s.fq.held) ∧
    (∀ r, p.completion = some .rejected → e.state = .rejected r → t.fq.rejection = some ⟨e.serial, e.key, r⟩ ∧
      t.fq.held.rejected = true ∧ t.hasLatched .entryRejected) := by
  intro t
  have ht : t = ((s.unlisted e ks).removeAt pos).reportCompletion e := rfl
  obtain ⟨c, m, hunlisted⟩ := s.unlisted_shape e ks
  obtain ⟨a, b, au, hremoved, -⟩ := State.removeAt_shape (s := s.unlisted e ks) (by rw [hunlisted]; exact he)
  have hrejection : ((s.unlisted e ks).removeAt pos).fq.rejection = s.fq.rejection := by rw [hremoved, hunlisted]
  have hheld : ((s.unlisted e ks).removeAt pos).fq.held = s.fq.held := by rw [hremoved, hunlisted]
  refine ⟨fun hc => ?_, fun hc => ?_, fun r hc hr => ?_⟩
  · rw [ht, State.reportCompletion_exposed (by rw [hp]; exact hc)]
    exact ⟨State.raise_hasLatched _ _, hrejection⟩
  · rw [ht, State.reportCompletion_cancelled (by rw [hp]; exact hc)]
    exact ⟨hrejection, hheld⟩
  · rw [ht, State.reportCompletion_rejected (by rw [hp]; exact hc) hr]
    obtain ⟨au', hcomplete⟩ := ((s.unlisted e ks).removeAt pos).completeRejection_shape e r
    refine ⟨by rw [hcomplete], by rw [hcomplete]; rfl, State.raise_hasLatched _ _⟩

/-! ### The marking -/

theorem writeBackStops_iff (control : Byte) (table position : Nat) : writeBackStops control table position = true ↔
    control.getLsbD 1 = true ∨ control.getLsbD 0 = false ∨ 16 ≤ position ∨ 0xFFF00000 ≤ table + 16 * position := by
  simp [writeBackStops, controlLast, controlValid, Config.mapBase, Config.descriptorSize, or_assoc]

theorem writeBackMarking_running {s : State} (h : s.pins.resetLow = false) :
    exec .writeBackMarking s = .next s.markingDone := by
  simp [exec, execWriteBackMarking, whenRunning, h]

/-- R36, R64: a marking that is not the last of its write-back leaves it to go on. -/
theorem State.markingDone_of_not_stops {s : State} {control : Byte}
    (hbusy : s.sr.channel.busy = some (.mark control)) (hno : s.noStart = true)
    (hstops : ¬ writeBackStops control s.writeBackTable s.sr.wbPos = true) :
    s.markingDone = s.freeChannel.quiesce := by
  obtain ⟨c, p, m, hfreed⟩ := s.freeChannel_channelOnly
  have hmark : s.sr.channel.mark? = some control := by simp [ReadChannel.mark?, hbusy]
  unfold State.markingDone
  rw [hmark]
  dsimp only
  rw [if_neg hstops]
  exact State.settle_of_noStart hno (by rw [hfreed]) (by rw [hfreed])

/-- Settles O48: a marking that is not the last leaves the channel to the next descriptor; the last one takes the entry
out, and the channel, idle then, to the next write-back. -/
theorem writeBackMarksTable : Obligations.WriteBackMarksTable := by
  intro control k ks e i p s hrun hbusy hlist hfind hbody hno htables hbounded hline address stops
  have hexec := writeBackMarking_running hrun
  have hstored : e.stored? = some p := by simp [Entry.stored?, hbody]
  have htable : s.writeBackTable = p.tableOffset := by simp [State.writeBackTable, hlist, hfind, hstored]
  have hstops : writeBackStops control s.writeBackTable s.sr.wbPos = true ↔ stops := by
    rw [htable]; exact writeBackStops_iff _ _ _
  refine ⟨fun hgoes halign hpos hmem hfetch hstage => ?_, fun hends hothers => ?_⟩
  · have hrange : p.tableOffset + 16 * s.sr.wbPos + 16 ≤ Config.mapBase := by
      have hbelow : ¬ 0xFFF00000 ≤ p.tableOffset + 16 * s.sr.wbPos := fun h => hgoes (.inr (.inr (.inr h)))
      simp only [Config.mapBase]
      omega
    refine ⟨_, hexec, ?_⟩
    rw [State.markingDone_of_not_stops hbusy hno (hstops.not.mpr hgoes), ← hlist]
    exact State.freed_marksNext hrun hfetch hstage hline htables hlist hfind hbody hpos hrange hmem
  obtain ⟨xs, ys, hes, hxs, rfl, hpos⟩ := findEntry_split hfind
  have he : s.fq.entries[xs.length]? = some e := by simp [hes]
  have herase : (s.fq.entries.map Entry.key).eraseIdx xs.length = (s.fq.entries.map Entry.key).erase e.key :=
    hes ▸ keys_eraseIdx_split ys hxs
  have hunrejected := removedAt_unrejected herase hbounded.2 hothers
  have hdone := State.markingDone_of_stops hbusy hlist hfind hpos he rfl hno (hstops.mpr hends)
    fun e' he' => (hunrejected e' he').2
  obtain ⟨hoffer, hfq, hau, hks, hcs, hrm, hdbi⟩ := State.writtenBack_quiesces (ks := ks) he htables
  obtain ⟨hexposed, hcancelled, hrejected⟩ := State.writtenBack_reports (ks := ks) he hstored
  refine ⟨_, hexec.trans (congrArg _ hdone), hks, ?_, fun q hq => ?_, hrm, hdbi, fun hset => ?_, ?_, ?_, ?_,
    fun hwindow hplace e2 h2 hstaging => ?_, ?_⟩
  · rw [hfq, keys_eraseIdx_of_cores (State.writtenBack_core he), herase]
  · obtain ⟨r, hr, hk⟩ := State.offeredFrom_source hoffer hq
    rw [hk]
    refine State.writtenBack_released he (fun c hc hk => ?_) hr
    have hin := List.mem_map_of_mem (f := Entry.key) hc
    rw [← List.eraseIdx_map, herase, hk] at hin
    exact hbounded.2.not_mem_erase hin
  · have := (s.unname_countChanged e i.set (by omega)).2
    rw [Entry.core, Entry.image?, hbody, Option.map_some, if_pos rfl] at this
    unfold State.setAt
    rw [hcs]
    exact this
  · unfold State.hasLatched
    rw [hfq, hau]
    exact hexposed
  · rw [hfq]
    exact hcancelled
  · unfold State.hasLatched
    rw [hfq, hau]
    exact hrejected
  · have hle : xs.length ≤ 1 := by
      have place {n : Nat} (hn : s.fq.entries[n]? = some e) : n = xs.length := by
        have := (positionOf_of_getElem hbounded.2 hn).2
        exact (Option.some.inj (hpos.symm.trans this)).symm
      rcases hplace with h | h <;> (have := place h; omega)
    exact State.writtenBack_windowTook he htables hbounded hwindow hle h2 hstaging
  · intro k' ks' e' i' p' c' hks hne hfind' hbody' hc' halign hmem hfetch hmark hstage hhead
    subst hks
    exact State.writtenBack_marksFirst hes hline hrun htables hmem hfetch hmark hstage hhead hne.symm hfind' hbody'
      hc' halign

end Sys2Proof.Machine
end

section
/-! ## The end of an event at which a read of the channel completes -/

namespace Sys2Proof.Machine

/-- No record is written at the end of an event that takes no start. -/
theorem State.quiesce_rm (s : State) : s.quiesce.rm = s.rm := by
  obtain ⟨g, f, c, hline⟩ := s.beginLine_shape
  have hfilm : s.quiesce.film = s.beginLine.film := by simp [State.quiesce]
  have hrm : s.beginLine.rm = s.rm := by rw [hline]
  exact (congrArg Prod.snd hfilm).trans hrm

theorem State.walk_film (s : State) (g : Staging) (bs : List Byte) : (s.walk g bs).film = s.film := by
  unfold State.walk
  split <;> simp

theorem State.walk_outer (s : State) (g : Staging) (bs : List Byte) : (s.walk g bs).outer = s.outer := by
  unfold State.walk
  split <;> simp

theorem State.walk_lcu (s : State) (g : Staging) (bs : List Byte) : (s.walk g bs).lcu = s.lcu := by
  unfold State.walk
  split <;> simp

/-- R64, R65: the read completes: the channel is freed, and the walk goes on with the bytes. -/
theorem stagingRead_running {s : State} {bs : List Byte} {g : Staging} (hrun : s.pins.resetLow = false)
    (hbusy : s.sr.channel.busy = some (.staging bs)) (hwalk : s.sr.staging = some g) (hno : s.noStart = true) :
    exec .stagingRead s = .next (s.freeChannel.walk g bs).quiesce := by
  have hread : s.sr.channel.staging? = some bs := by simp [ReadChannel.staging?, hbusy]
  have hfilm : (s.freeChannel.walk g bs).film = s.film := by rw [State.walk_film, State.freeChannel_film]
  have houter : (s.freeChannel.walk g bs).outer = s.outer := by rw [State.walk_outer, State.freeChannel_outer]
  have hdone : s.stagingReadDone = (s.freeChannel.walk g bs).quiesce := by
    unfold State.stagingReadDone
    rw [hread, hwalk]
    exact State.settle_of_noStart hno (congrArg Prod.fst hfilm) (congrArg (fun o => o.2.1) houter)
  rw [← hdone]
  simp [exec, execStagingRead, whenRunning, hrun]

/-- What no staging read touches. -/
theorem State.walk_quiesce_keeps (s : State) (g : Staging) (bs : List Byte) :
    let t := (s.freeChannel.walk g bs).quiesce
    t.rm = s.rm ∧ t.dbi = s.dbi ∧ t.lcu = s.lcu := by
  have hfilm : (s.freeChannel.walk g bs).film = s.film := by rw [State.walk_film, State.freeChannel_film]
  have houter : (s.freeChannel.walk g bs).quiesce.outer = s.outer := by
    rw [State.quiesce_outer, State.walk_outer, State.freeChannel_outer]
  exact ⟨(State.quiesce_rm _).trans (congrArg Prod.snd hfilm), congrArg Prod.fst houter,
    by rw [State.quiesce_lcu, State.walk_lcu, State.freeChannel_lcu]⟩

theorem State.freeChannel_tables {s : State} (h : s.tablesInRange) : s.freeChannel.tablesInRange :=
  State.tablesInRange_of_sub h fun c hc => by rwa [State.freeChannel_queueCore] at hc

/-- R11: while the strip reader walks an entry, the end of an event leaves the walk, the queue and the pins. -/
theorem State.stagingContinue_quiesces {s : State} (htables : s.tablesInRange) (g : Staging) :
    let t := (s.stagingContinue g).quiesce
    t.fq = s.fq ∧ t.au = s.au ∧ t.sr.staging = some g ∧ t.fmc.pinA = s.fmc.pinA ∧ t.fmc.pinB = s.fmc.pinB := by
  obtain ⟨_, st, _, _, _, _, a, b, _, hquiet, hoffer⟩ := (s.stagingContinue g).quiesce_shape htables
  intro t
  rw [show t = (s.stagingContinue g).quiesce from rfl, hquiet]
  rcases hoffer with ⟨hst, ha, hb⟩ | ⟨hidle, -⟩
  · exact ⟨rfl, rfl, hst, ha, hb⟩
  · cases hidle

theorem changePin_some {k : Key} {p : PinRecord} (hk : p.key = k) (f : PinRecord → PinRecord) :
    changePin k f (some p) = some (f p) := by
  simp [changePin, hk]

/-- R40: a walk that goes on when the channel has been freed and the pins of its entry have grown. -/
theorem State.walk_goes_pinned {s : State} (htables : s.tablesInRange) (k : Key) (f : PinRecord → PinRecord)
    (g : Staging) :
    let t := ((s.freeChannel.mapPin k f).stagingContinue g).quiesce
    t.fq = s.fq ∧ t.au = s.au ∧ t.sr.staging = some g ∧
    (∀ p, s.fmc.pinA = some p → p.key = k → t.fmc.pinA = some (f p)) ∧
    (∀ p, s.fmc.pinB = some p → p.key = k → t.fmc.pinB = some (f p)) := by
  obtain ⟨c, w, m, hfreed⟩ := s.freeChannel_channelOnly
  have hfq : s.freeChannel.fq = s.fq := by rw [hfreed]
  have hau : s.freeChannel.au = s.au := by rw [hfreed]
  have hpins : s.freeChannel.fmc.pinA = s.fmc.pinA ∧ s.freeChannel.fmc.pinB = s.fmc.pinB := by
    rw [hfreed]
    exact ⟨rfl, rfl⟩
  obtain ⟨hfq', hau', hwalks, ha, hb⟩ :=
    State.stagingContinue_quiesces (s := s.freeChannel.mapPin k f) (State.freeChannel_tables htables) g
  refine ⟨hfq'.trans hfq, hau'.trans hau, hwalks, fun p hp hk => ?_, fun p hp hk => ?_⟩
  · exact ha.trans ((congrArg (changePin k f) (hpins.1.trans hp)).trans (changePin_some hk f))
  · exact hb.trans ((congrArg (changePin k f) (hpins.2.trans hp)).trans (changePin_some hk f))

end Sys2Proof.Machine
end

section
/-! ## A staging walk that fails (R13, R15) -/

namespace Sys2Proof.Machine

theorem findEntry_changeEntry_other {k j : Key} (hne : j ≠ k) {f : Entry → Entry} (hf : ∀ e, (f e).key = e.key)
    (es : List Entry) : findEntry (changeEntry es j f) k = findEntry es k := by
  induction es with
  | nil => rfl
  | cons e es ih =>
    by_cases hj : e.key = j
    · have hk : e.key ≠ k := hj ▸ hne
      simp [changeEntry, findEntry, hj, hf, hne]
    · by_cases hk : e.key = k
      · simp [changeEntry, findEntry, hk, hne.symm]
      · simpa [changeEntry, findEntry, hj, hk] using ih

theorem Entry.leave_of_rejected {e : Entry} {r : RejectReason} (hst : e.isStored = true) (hr : e.state = .rejected r)
    (c : Completion) : (e.leave c).isStored = true ∧ (e.leave c).state = .rejected r := by
  refine ⟨?_, ?_⟩
  · rwa [Entry.isStored_iff_table, Entry.core_leave, ← Entry.isStored_iff_table]
  · obtain ⟨p, hp⟩ := Option.isSome_iff_exists.mp hst
    obtain ⟨i, hbody⟩ : ∃ i, e.body = .stored i p := by
      cases hb : e.body <;> simp_all [Entry.stored?]
    simp [Entry.leave_stored hbody, hr]

/-- R13: the walk of a STORED entry has ended with a reason: no walk goes on, and the list holds the entry REJECTED. -/
structure State.WalkFailed (s : State) (k : Key) (r : RejectReason) : Prop where
  idle : s.sr.staging = none
  distinct : (s.fq.entries.map Entry.key).Nodup
  tables : s.tablesInRange
  rejected : ∃ e, findEntry s.fq.entries k = some e ∧ e.isStored = true ∧ e.state = .rejected r

theorem State.WalkFailed.beginLeaving {s : State} {k : Key} {r : RejectReason} (h : s.WalkFailed k r) (j : Key)
    (c : Completion) : (s.beginLeaving j c).WalkFailed k r := by
  obtain ⟨e, hfind, hst, hr⟩ := h.rejected
  obtain ⟨ch, w, m, hleave⟩ := s.beginLeaving_shape j c
  refine ⟨by rw [hleave, h.idle]; rfl, ?_, State.tablesInRange_of_sub h.tables fun c hc => ?_, ?_⟩
  · rw [hleave, changeEntry_map _ _ _ _ fun e => e.leave_key c]
    exact h.distinct
  · rwa [State.beginLeaving_queueCore] at hc
  · rw [hleave]
    by_cases hj : j = k
    · subst hj
      exact ⟨_, findEntry_changeEntry hfind (e.leave_key c), Entry.leave_of_rejected hst hr c⟩
    · exact ⟨e, (findEntry_changeEntry_other hj (fun e => e.leave_key c) _).trans hfind, hst, hr⟩

/-- R14, R15: the removal of another entry, a FLAT or RUNOUT head, leaves the REJECTED entry in the list. -/
theorem State.WalkFailed.removeHead {s : State} {k : Key} {r r' : RejectReason} {e : Entry} (h : s.WalkFailed k r)
    (hhead : s.head? = some e) (hunstored : e.isStored = false) :
    ((s.removeAt 0).completeRejection e r').WalkFailed k r := by
  obtain ⟨e', hfind, hst, hr⟩ := h.rejected
  have he : s.fq.entries[0]? = some e := by rwa [← List.head?_eq_getElem?]
  obtain ⟨ys, hes⟩ : ∃ ys, s.fq.entries = [] ++ e :: ys := List.head?_eq_some_iff.mp hhead
  have hne : e.key ≠ k := fun hk => by
    obtain rfl : e = e' := by simpa [hes, findEntry, hk] using hfind
    rw [hst] at hunstored
    cases hunstored
  have hfixed : e'.entered = e' := by simp [Entry.entered, hr]
  obtain ⟨a, b, au, hremoved, -⟩ := State.removeAt_shape he
  obtain ⟨au', hcomplete⟩ := (s.removeAt 0).completeRejection_shape e r'
  rw [hcomplete, hremoved]
  refine ⟨h.idle, ?_, State.tablesInRange_of_sub h.tables fun c hc => ?_, e', ?_, hst, hr⟩
  · rw [removedAt_map _ _ _ Entry.entered_key]
    exact h.distinct.eraseIdx 0
  · have hc' : c ∈ (removedAt s.fq.entries 0).map Entry.core := hc
    rw [removedAt_map _ _ _ Entry.entered_core] at hc'
    exact List.mem_of_mem_eraseIdx hc'
  · rw [hes] at hfind ⊢
    exact findEntry_removedAt (xs := []) hfind hne hfixed

theorem State.WalkFailed.takeRejectedHead {s : State} {k : Key} {r : RejectReason} (h : s.WalkFailed k r) (n : Nat) :
    (s.takeRejectedHead n).WalkFailed k r := by
  induction n generalizing s with
  | zero => exact h
  | succ n ih =>
    unfold State.takeRejectedHead
    split
    · exact h
    next e hhead =>
      split
      · exact h
      · split
        · exact h
        · split
          · exact h.beginLeaving _ _
          next hst => exact ih (h.removeHead hhead (by simpa using hst))

/-- R13, R15: the entry whose walk fails is REJECTED, and is still in the list when its head has been settled. -/
theorem State.stagingFailed_walkFailed {s : State} {g : Staging} {e : Entry} (r : RejectReason)
    (hfind : findEntry s.fq.entries g.key = some e) (hst : e.isStored = true) (htables : s.tablesInRange)
    (hdistinct : (s.fq.entries.map Entry.key).Nodup) : (s.stagingFailed g r).WalkFailed g.key r := by
  have hkey (x : Entry) : (x.withState (.rejected r)).key = x.key := rfl
  refine State.WalkFailed.takeRejectedHead ⟨rfl, ?_, ?_, e.withState (.rejected r),
    findEntry_changeEntry hfind (hkey e), hst, rfl⟩ _
  · exact (changeEntry_map s.fq.entries g.key _ Entry.key hkey).symm ▸ hdistinct
  · refine State.tablesInRange_of_sub htables fun c hc => ?_
    have hcores := changeEntry_map s.fq.entries g.key (·.withState (.rejected r)) Entry.core fun _ => rfl
    have hc' : c ∈ (changeEntry s.fq.entries g.key (·.withState (.rejected r))).map Entry.core := hc
    rwa [hcores] at hc'

/-- R11: the walk offered next is of another entry. -/
theorem State.WalkFailed.quiesce {s : State} {k : Key} {r : RejectReason} (h : s.WalkFailed k r) :
    (∃ e, findEntry s.quiesce.fq.entries k = some e ∧ e.state = .rejected r) ∧
    ∀ g, s.quiesce.sr.staging = some g → g.key ≠ k := by
  obtain ⟨e, hfind, -, hr⟩ := h.rejected
  obtain ⟨_, st, _, _, _, _, a, b, _, hquiet, hoffer⟩ := s.quiesce_shape h.tables
  rw [hquiet]
  refine ⟨⟨e, hfind, hr⟩, fun g (hg : st = some g) hk => ?_⟩
  rcases hoffer with ⟨hst, -⟩ | ⟨-, x, hx, hstaging, hkey, -⟩
  · rw [hst, h.idle] at hg
    cases hg
  · rw [hg, Option.map_some, hk, Option.some.injEq] at hkey
    obtain ⟨_, _, hes, -, hek, -⟩ := findEntry_split hfind
    obtain rfl : x = e := List.inj_on_of_nodup_map h.distinct hx (by simp [hes]) (hkey.symm.trans hek.symm)
    rw [hr] at hstaging
    cases hstaging

end Sys2Proof.Machine
end

section
/-! ## The settling of O44 -/

namespace Sys2Proof.Machine

/-- R47 to R49: the first check that the descriptor at the walk's position fails. -/
def Staging.refusal (g : Staging) (d : Descriptor) : Option RejectReason :=
  if g.k = 16 then some .stripCount
  else if d.valid = false ∨ d.length = 0 ∨ 134217728 < d.length then some .stripInvalid
  else if 0xFFF00000 < d.offset + d.length then some .stripRange
  else if d.last = true ∧ g.total + d.length < g.expectedLength then some .lengthShort
  else if d.last = true ∧ g.expectedLength < g.total + d.length then some .lengthLong
  else none

/-- R48, R50: the walk with the strip of a descriptor added to its list, before the strip's bytes. -/
def Staging.withStrip (g : Staging) (d : Descriptor) : Staging :=
  { g with
    strips := g.strips ++ [⟨d.offset, d.length, g.total⟩]
    total := g.total + d.length
    place := .strip d.offset d.length d.last }

theorem Descriptor.failure_eq (d : Descriptor) : d.failure =
    if d.valid = false ∨ d.length = 0 ∨ 134217728 < d.length then some .stripInvalid
    else if 0xFFF00000 < d.offset + d.length then some .stripRange
    else none := by
  unfold Descriptor.failure Config.maxStrip Config.mapBase
  cases d.valid with
  | false => simp
  | true =>
    have hlength : ¬ (1 ≤ d.length ∧ d.length ≤ 134217728) ↔ d.length = 0 ∨ 134217728 < d.length := by omega
    simp [hlength]

/-- R47 to R49: a descriptor ends the walk with the first check it fails, or its strip joins the walk's list and the
pins (R40). -/
theorem State.onDescriptor_cases (s : State) (g : Staging) (bs : List Byte) :
    (∃ (r : RejectReason) (t : State) (h : Staging), g.refusal (parseDescriptor bs) = some r ∧
      s.onDescriptor g bs = t.stagingFailed h r ∧ t.fq = s.fq ∧ h.key = g.key) ∨
    (g.refusal (parseDescriptor bs) = none ∧ s.onDescriptor g bs =
      (s.mapPin g.key (·.addStrip ⟨(parseDescriptor bs).offset, (parseDescriptor bs).length⟩)).stagingContinue
        (g.withStrip (parseDescriptor bs))) := by
  unfold Staging.refusal State.onDescriptor
  dsimp only
  rw [Descriptor.failure_eq]
  generalize parseDescriptor bs = d
  by_cases hcount : g.k = 16
  · rw [if_pos hcount, if_pos hcount]
    exact .inl ⟨_, s, g, rfl, rfl, rfl, rfl⟩
  rw [if_neg hcount, if_neg hcount]
  by_cases hinvalid : d.valid = false ∨ d.length = 0 ∨ 134217728 < d.length
  · rw [if_pos hinvalid, if_pos hinvalid]
    exact .inl ⟨_, s, g, rfl, rfl, rfl, rfl⟩
  rw [if_neg hinvalid, if_neg hinvalid]
  by_cases hrange : 0xFFF00000 < d.offset + d.length
  · rw [if_pos hrange, if_pos hrange]
    exact .inl ⟨_, s, g, rfl, rfl, rfl, rfl⟩
  rw [if_neg hrange, if_neg hrange]
  dsimp only
  by_cases hshort : d.last = true ∧ g.total + d.length < g.expectedLength
  · rw [if_pos hshort, if_pos hshort]
    exact .inl ⟨_, _, _, rfl, rfl, rfl, rfl⟩
  rw [if_neg hshort, if_neg hshort]
  by_cases hlong : d.last = true ∧ g.expectedLength < g.total + d.length
  · rw [if_pos hlong, if_pos hlong]
    exact .inl ⟨_, _, _, rfl, rfl, rfl, rfl⟩
  rw [if_neg hlong, if_neg hlong]
  exact .inr ⟨rfl, rfl⟩

/-- Settles O44: a refused descriptor fails the walk; an accepted one lets it go on to the strip's bytes. -/
theorem stagingReadsDescriptor : Obligations.StagingReadsDescriptor := by
  intro bs g e s hrun hbusy hwalk hplace hfind hst _ hno htables hbounded control valid last length offset total reason
  obtain ⟨c, w, m, hfreed⟩ := s.freeChannel_channelOnly
  obtain ⟨hrm, hdbi, hlcu⟩ := s.walk_quiesce_keeps g bs
  have hreason : reason = g.refusal (parseDescriptor bs) := rfl
  have hstep : s.freeChannel.walk g bs = s.freeChannel.onDescriptor g bs := by rw [State.walk, hplace]
  refine ⟨_, stagingRead_running hrun hbusy hwalk hno, hrm, hdbi, hlcu, ?_⟩
  rw [hstep, hreason]
  rcases s.freeChannel.onDescriptor_cases g bs with ⟨r, t, h, hr, hdone, hfq, hkey⟩ | ⟨hr, hdone⟩
  · have hfq : t.fq = s.fq := hfq.trans (by rw [hfreed])
    have hfailed := State.stagingFailed_walkFailed (s := t) (g := h) r (by rw [hfq, hkey]; exact hfind) hst
      (fun x hx => htables x (hfq ▸ hx)) (hfq ▸ hbounded.2)
    rw [hdone, hr]
    refine ⟨fun r' hr' => ?_, fun h => by cases h⟩
    cases hr'
    exact hkey ▸ hfailed.quiesce
  · refine ⟨fun r hr' => ?_, fun _ => ?_⟩
    · rw [hr] at hr'
      cases hr'
    rw [hdone]
    exact State.walk_goes_pinned htables _ _ _

end Sys2Proof.Machine
end

section
/-! ## The settling of O45 -/

namespace Sys2Proof.Machine

theorem addWord_eq (n w : Nat) : addWord n w = if n + w ≤ 65535 then n + w else n + w - 65535 := by
  unfold addWord
  dsimp only
  split <;> omega

/-- R54, R55: the walk after more bytes of a strip: they enter the checksum and are counted. -/
def Staging.summed (g : Staging) (bs : List Byte) : Staging :=
  { g with sum := (sumBytes g.sum g.odd bs).1, odd := (sumBytes g.sum g.odd bs).2, bytes := g.bytes + bs.length }

/-! ### The places at which strip bytes can leave a walk -/

theorem State.onStripBytes_within (s : State) (g : Staging) {bs : List Byte} (next : Nat) {left : Nat} (last : Bool)
    (h : bs.length < left) : s.onStripBytes g bs next left last =
      s.stagingContinue { g.summed bs with place := .strip (next + bs.length) (left - bs.length) last } :=
  if_pos h

theorem State.onStripBytes_next (s : State) (g : Staging) {bs : List Byte} (next : Nat) {left : Nat}
    (h : left ≤ bs.length) : s.onStripBytes g bs next left false =
      s.walkToDescriptor { g.summed bs with k := g.k + 1 } :=
  if_neg (Nat.not_lt.mpr h)

theorem State.onStripBytes_last (s : State) (g : Staging) {bs : List Byte} (next : Nat) {left : Nat}
    (h : left ≤ bs.length) : s.onStripBytes g bs next left true = s.compareChecksum (g.summed bs) :=
  if_neg (Nat.not_lt.mpr h)

theorem State.walkToDescriptor_below (s : State) {g : Staging} (h : g.tableOffset + 16 * g.k < 0xFFF00000) :
    s.walkToDescriptor g =
      (s.mapPin g.key (·.extendTable (16 * (g.k + 1)))).stagingContinue { g with place := .descriptor } :=
  if_neg (Nat.not_le.mpr h)

theorem State.walkToDescriptor_above (s : State) {g : Staging} (h : 0xFFF00000 ≤ g.tableOffset + 16 * g.k) :
    s.walkToDescriptor g = s.stagingFailed g .stripRange :=
  if_pos h

theorem State.compareChecksum_agrees (s : State) {g : Staging}
    (h : g.expectedSum = none ∨ g.expectedSum.map BitVec.toNat = some g.sum) :
    s.compareChecksum g = s.stagingComplete g := by
  unfold State.compareChecksum
  cases hw : g.expectedSum with
  | none => rfl
  | some w =>
    have hsum : w.toNat = g.sum := by simpa [hw] using h
    exact if_neg (not_not.mpr hsum)

theorem State.compareChecksum_differs (s : State) {g : Staging} {w : Word16} (hw : g.expectedSum = some w)
    (h : w.toNat ≠ g.sum) : s.compareChecksum g = s.stagingFailed g .checksum := by
  unfold State.compareChecksum
  rw [hw]
  exact if_pos h

/-- R12, R51: an entry whose walk has succeeded is STAGED with the strip map and the staged checksum. -/
def Entry.stagedBy (g : Staging) (e : Entry) : Entry :=
  (e.withState .staged).mapStored fun p =>
    { p with stripMap := some g.strips, stagedSum := some (BitVec.ofNat 16 g.sum) }

theorem Entry.stagedBy_core (g : Staging) (e : Entry) : (e.stagedBy g).core = e.core :=
  Entry.core_mapStored _ _ fun _ => rfl

theorem Entry.stagedBy_state (g : Staging) (e : Entry) : (e.stagedBy g).state = .staged := by
  rcases e with ⟨n, k, st, ⟨i, p⟩ | ⟨i, v⟩ | m⟩ <;> rfl

theorem Entry.stagedBy_stored? (g : Staging) (e : Entry) : (e.stagedBy g).stored? = e.stored?.map
    (fun p => { p with stripMap := some g.strips, stagedSum := some (BitVec.ofNat 16 g.sum) }) := by
  rcases e with ⟨n, k, st, ⟨i, p⟩ | ⟨i, v⟩ | m⟩ <;> rfl

theorem State.stagingComplete_quiesces {s : State} {g : Staging} {e : Entry}
    (hfind : findEntry s.fq.entries g.key = some e) (htables : s.tablesInRange) :
    findEntry (s.stagingComplete g).quiesce.fq.entries g.key = some (e.stagedBy g) := by
  obtain ⟨_, _, _, _, _, _, _, _, _, hquiet, -⟩ := (s.stagingComplete g).quiesce_shape
    (State.tablesInRange_of_sub htables fun c hc => by rwa [State.stagingComplete_queueCore] at hc)
  rw [hquiet]
  exact findEntry_changeEntry hfind (congrArg EntryCore.key (e.stagedBy_core g))

/-- Settles O45: each place at which the strip's bytes can leave the walk, and the sum they add. -/
theorem stagingReadsStripBytes : Obligations.StagingReadsStripBytes := by
  refine ⟨fun n h b odd bs => ⟨rfl, rfl, by rw [← addWord_eq]; rfl⟩, ?_⟩
  intro bs g next left last e s hrun hbusy hwalk hplace hfind hst _ hno htables hbounded sum odd h
  obtain ⟨c, w, m, hfreed⟩ := s.freeChannel_channelOnly
  have hfq : s.freeChannel.fq = s.fq := by rw [hfreed]
  have hfree := State.freeChannel_tables htables
  have hfound : findEntry s.freeChannel.fq.entries g.key = some e := by rwa [hfq]
  have hstep : s.freeChannel.walk g bs = s.freeChannel.onStripBytes g bs next left last := by rw [State.walk, hplace]
  have hfails (d : Staging) (hkey : d.key = g.key) (r : RejectReason) :
      ∃ e', findEntry (s.freeChannel.stagingFailed d r).quiesce.fq.entries g.key = some e' ∧
        e'.state = .rejected r := by
    rw [← hkey] at hfound ⊢
    exact (State.stagingFailed_walkFailed r hfound hst hfree (hfq ▸ hbounded.2)).quiesce.1
  obtain ⟨hrm, hdbi, hlcu⟩ := s.walk_quiesce_keeps g bs
  refine ⟨_, stagingRead_running hrun hbusy hwalk hno, hrm, hdbi, hlcu, fun hleft => ?_, fun hleft hlast hbelow => ?_,
    fun hleft hlast habove => ?_, fun hleft hlast hsum => ?_, fun w hleft hlast hw hsum => ?_⟩ <;> rw [hstep]
  · rw [State.onStripBytes_within _ _ _ _ hleft]
    obtain ⟨hq, -, hgoes, -⟩ := State.stagingContinue_quiesces hfree
      { h with place := .strip (next + bs.length) (left - bs.length) last }
    exact ⟨hq.trans hfq, hgoes⟩
  · rw [hlast, State.onStripBytes_next _ _ _ hleft, State.walkToDescriptor_below _ hbelow]
    obtain ⟨hq, -, hgoes, hpins⟩ := State.walk_goes_pinned htables g.key (·.extendTable (16 * (g.k + 1 + 1)))
      { h with k := g.k + 1, place := .descriptor }
    exact ⟨hq, hgoes, hpins⟩
  · rw [hlast, State.onStripBytes_next _ _ _ hleft, State.walkToDescriptor_above _ habove]
    exact hfails _ rfl _
  · rw [hlast, State.onStripBytes_last _ _ _ hleft, State.compareChecksum_agrees _ hsum]
    exact ⟨_, State.stagingComplete_quiesces (g := g.summed bs) hfound hfree, Entry.stagedBy_state _ _,
      Entry.stagedBy_stored? _ _⟩
  · rw [hlast, State.onStripBytes_last _ _ _ hleft, State.compareChecksum_differs (g := g.summed bs) _ hw hsum]
    exact hfails _ rfl _

end Sys2Proof.Machine
end

section
/-! ## A line fetch through the end of an event (R59, R65) -/

namespace Sys2Proof.Machine

/-- The settling of the head neither begins nor ends a line fetch. -/
theorem State.takeRejectedHead_fetch (n : Nat) (s : State) : (s.takeRejectedHead n).sr.fetch = s.sr.fetch := by
  induction n generalizing s with
  | zero => rfl
  | succ n ih =>
    unfold State.takeRejectedHead
    split
    · rfl
    next e hhead =>
      split
      · rfl
      · split
        · rfl
        · split
          · obtain ⟨ch, w, m, hleave⟩ := s.beginLeaving_shape e.key .rejected
            rw [hleave]
          next r _ _ _ =>
            obtain ⟨a, b, au, hremoved, -⟩ := State.removeAt_shape
              (s := s) (pos := 0) (e := e) (by rwa [← List.head?_eq_getElem?])
            obtain ⟨au', hcomplete⟩ := (s.removeAt 0).completeRejection_shape e r
            rw [ih, hcomplete, hremoved]

theorem State.walkToDescriptor_fetch (s : State) (g : Staging) : (s.walkToDescriptor g).sr.fetch = s.sr.fetch := by
  unfold State.walkToDescriptor
  split
  · exact State.takeRejectedHead_fetch _ _
  · rfl

theorem State.offerStaging_fetch (s : State) : s.offerStaging.sr.fetch = s.sr.fetch := by
  unfold State.offerStaging
  repeat' split
  any_goals rfl
  exact State.walkToDescriptor_fetch _ _

/-- R68: with no line to begin, the end of an event leaves the gate, the reel map and the line fetch. -/
theorem State.quiesce_of_begun {s : State} (h : s.beginLine = s) :
    s.quiesce.film = s.film ∧ s.quiesce.sr.fetch = s.sr.fetch := by
  obtain ⟨c, p, m, hgrant⟩ := State.channelOnly_trans s.offerStaging.requestMarking_channelOnly
    s.offerStaging.requestMarking.grant_channelOnly
  obtain ⟨i, hidle⟩ := s.offerStaging.requestMarking.grant.updateIdle_shape
  unfold State.quiesce
  rw [h]
  refine ⟨by simp, ?_⟩
  rw [hidle, hgrant]
  exact s.offerStaging_fetch

theorem State.exposure?_congr {s t : State} (h : t.film = s.film) : t.exposure? = s.exposure? := by
  have hgc : t.gc = s.gc := congrArg Prod.fst h
  unfold State.exposure?
  rw [hgc]

/-- R68: no line begins while one is in production. -/
theorem State.beginLine_of_line {s : State} {x : Exposure} {l : LineProduction} (hx : s.exposure? = some x)
    (hl : x.line = some l) : s.beginLine = s := by
  refine State.beginLine_of_begun fun y hy => ?_
  obtain rfl : x = y := Option.some.inj (hx.symm.trans hy)
  simp [State.lineDue, hl]

theorem State.exposure?_eq_some {s : State} {x : Exposure} : s.exposure? = some x ↔ s.gc.gate = .exposing x := by
  unfold State.exposure?
  cases s.gc.gate <;> simp

theorem State.mapExposure_exposure? {s : State} {x : Exposure} (h : s.exposure? = some x) (f : Exposure → Exposure) :
    (s.mapExposure f).exposure? = some (f x) := by
  rw [State.exposure?_eq_some] at h ⊢
  simp [State.mapExposure, h, State.withGate]

theorem State.mapExposure_sr (s : State) (f : Exposure → Exposure) : (s.mapExposure f).sr = s.sr := by
  obtain ⟨g, hg⟩ := s.mapExposure_shape f
  rw [hg]

/-- R156: no start is taken while an exposure is in progress. -/
theorem State.startless_of_exposure {s : State} {x : Exposure} (h : s.exposure? = some x) : s.startless := by
  refine State.startless_of_noStart ?_
  simp [State.noStart, State.gateReady, State.exposure?_eq_some.mp h]

end Sys2Proof.Machine
end

section
/-! ## The settling of O46 -/

namespace Sys2Proof.Machine

/-! ### Pixels -/

theorem gatherPixels_cons_full {f : PixelFormat} {carry : List Byte} (h : carry.length + 1 = f.bytes)
    (q : ChannelSequence) (done : List (Rgb Nat)) (b : Byte) (bs : List Byte) :
    gatherPixels f q carry done (b :: bs) = gatherPixels f q [] (done ++ [decodePixel f q (carry ++ [b])]) bs :=
  if_pos h

theorem gatherPixels_cons_part {f : PixelFormat} {carry : List Byte} (h : carry.length + 1 ≠ f.bytes)
    (q : ChannelSequence) (done : List (Rgb Nat)) (b : Byte) (bs : List Byte) :
    gatherPixels f q carry done (b :: bs) = gatherPixels f q (carry ++ [b]) done bs :=
  if_neg h

/-! ### The completion of a line-fetch read -/

theorem State.fetchBytes_full {s : State} {e : Entry} {i : ImagePart} {p : StoredPart} (hbody : e.body = .stored i p)
    {f : LineFetch} {bs : List Byte} (h : i.width ≤ (f.gather p bs).pixels.length) :
    s.fetchBytes e f bs = s.handOver p.flipH (f.gather p bs) := by
  unfold State.fetchBytes
  rw [hbody]
  exact if_pos h

theorem State.fetchBytes_part {s : State} {e : Entry} {i : ImagePart} {p : StoredPart} (hbody : e.body = .stored i p)
    {f : LineFetch} {bs : List Byte} (h : (f.gather p bs).pixels.length < i.width) :
    s.fetchBytes e f bs = s.withSr { s.sr with
      fetch := some (f.gather p bs), channel := { s.sr.channel with waitFetch := true } } := by
  unfold State.fetchBytes
  rw [hbody]
  exact if_neg (Nat.not_le.mpr h)

/-- R61: a strip item is read to its end by so many bytes more; past the last item nothing is left to read. -/
def LineFetch.itemEnds (f : LineFetch) (p : StoredPart) (bs : List Byte) : Prop :=
  ∀ it, (p.stripMap.getD [])[f.item]? = some it → it.length ≤ f.within + bs.length

theorem LineFetch.itemEnds_iff (f : LineFetch) (p : StoredPart) (bs : List Byte) : f.itemEnds p bs ↔
    (((p.stripMap.getD [])[f.item]?).map StripItem.length).getD 0 ≤ f.within + bs.length := by
  unfold LineFetch.itemEnds
  cases (p.stripMap.getD [])[f.item]? <;> simp

theorem LineFetch.gather_of_ends {f : LineFetch} {p : StoredPart} {bs : List Byte} (h : f.itemEnds p bs) :
    f.gather p bs = { f with
      carry := (gatherPixels p.format p.sequence f.carry f.pixels bs).1
      pixels := (gatherPixels p.format p.sequence f.carry f.pixels bs).2
      bytesRead := f.bytesRead + bs.length, item := f.item + 1, within := 0 } := by
  rw [LineFetch.itemEnds_iff] at h
  simp [LineFetch.gather, h]

theorem LineFetch.gather_of_not_ends {f : LineFetch} {p : StoredPart} {bs : List Byte} (h : ¬ f.itemEnds p bs) :
    f.gather p bs = { f with
      carry := (gatherPixels p.format p.sequence f.carry f.pixels bs).1
      pixels := (gatherPixels p.format p.sequence f.carry f.pixels bs).2
      bytesRead := f.bytesRead + bs.length, within := f.within + bs.length } := by
  rw [LineFetch.itemEnds_iff] at h
  simp [LineFetch.gather, h]

/-- R61, R62: bytes of a line fetch touch the strip reader and the exposure in the gate. -/
theorem State.fetchBytes_shape (s : State) (e : Entry) (f : LineFetch) (bs : List Byte) : ∃ g sr,
    s.fetchBytes e f bs = { s with gc := { s.gc with gate := g }, sr := sr } := by
  unfold State.fetchBytes State.handOver
  split
  next i p _ =>
    dsimp only
    split
    · obtain ⟨g, hg⟩ := (s.withSr { s.sr with fetch := none }).mapExposure_shape fun x => { x with
        line := x.line.map fun l => { l with phase := .computing (.pixels (scanLine p.flipH (f.gather p bs).pixels)) } }
      rw [hg]
      exact ⟨g, _, rfl⟩
    · exact ⟨s.gc.gate, _, rfl⟩
  all_goals exact ⟨s.gc.gate, s.sr, rfl⟩

/-- R61, R64: the completion of a line-fetch read, where a line is still in production behind it. -/
theorem lineFetchRead_running {s : State} {bs : List Byte} {f : LineFetch} {x y : Exposure} {l : LineProduction}
    {e : Entry} (hrun : s.pins.resetLow = false) (hbusy : s.sr.channel.busy = some (.fetch bs))
    (hfetch : s.sr.fetch = some f) (hx : s.exposure? = some x) (hhead : s.head? = some e)
    (hy : (s.freeChannel.fetchBytes e f bs).exposure? = some y) (hl : y.line = some l) :
    ∃ t, exec .lineFetchRead s = .next t ∧ t.rm = s.rm ∧ t.dbi = s.dbi ∧ t.lcu = s.lcu ∧
      t.sr.fetch = (s.freeChannel.fetchBytes e f bs).sr.fetch ∧ t.exposure? = some y := by
  have hread : s.sr.channel.fetch? = some bs := by simp [ReadChannel.fetch?, hbusy]
  have hentry : s.exposingEntry? = some e := by simp [State.exposingEntry?, State.isExposing, hx, hhead]
  obtain ⟨c, p, m, hfreed⟩ := s.freeChannel_channelOnly
  obtain ⟨g, sr, hshape⟩ := s.freeChannel.fetchBytes_shape e f bs
  obtain ⟨hfilm, hkept⟩ := State.quiesce_of_begun (State.beginLine_of_line hy hl)
  have hdone : s.fetchReadDone = (s.freeChannel.fetchBytes e f bs).quiesce := by
    unfold State.fetchReadDone
    rw [hread, hfetch, hentry]
    exact State.settle_of_startless (State.startless_of_exposure hy) (by rw [hshape, hfreed])
  have houter : (s.freeChannel.fetchBytes e f bs).quiesce.outer = s.outer := by
    rw [State.quiesce_outer, hshape, hfreed]
    rfl
  refine ⟨_, ?_, ?_, congrArg Prod.fst houter, ?_, hkept, (State.exposure?_congr hfilm).trans hy⟩
  · rw [← hdone]
    simp [exec, execLineFetchRead, whenRunning, hrun]
  · rw [State.quiesce_rm, hshape, hfreed]
  · rw [State.quiesce_lcu, hshape, hfreed]

/-- R62, R68: the line in production holds the handed-over line, and the fetch is over. -/
theorem State.handOver_leaves {s : State} {x : Exposure} {l : LineProduction} (hx : s.exposure? = some x)
    (hl : x.line = some l) (flipH : Bool) (f : LineFetch) :
    (s.handOver flipH f).sr.fetch = none ∧ (s.handOver flipH f).exposure? =
      some { x with line := some { l with phase := .computing (.pixels (scanLine flipH f.pixels)) } } := by
  unfold State.handOver
  refine ⟨?_, ?_⟩
  · rw [State.mapExposure_sr]
    rfl
  · have hkept : (s.withSr { s.sr with fetch := none }).exposure? = some x := hx
    rw [State.mapExposure_exposure? hkept, hl]
    rfl

/-! ### Ten bits per channel -/

/-- R58: the three ten-bit fields of a big-endian word. -/
theorem storedValues_p10 (a b c d : Byte) :
    let w := 16777216 * a.toNat + 65536 * b.toNat + 256 * c.toNat + d.toNat
    storedValues .p10 [a, b, c, d] = (w / 2 ^ 22 % 1024 * 64, w / 2 ^ 12 % 1024 * 64, w / 2 ^ 2 % 1024 * 64) := by
  have ha := a.isLt
  have hb := b.isLt
  have hc := c.isLt
  have hd := d.isLt
  simp only [storedValues, byteField, List.getD_cons_zero, List.getD_cons_succ, Prod.mk.injEq]
  omega

/-- R58: a little-endian word is the big-endian one of its bytes in reversed order. -/
theorem storedValues_p10s (a b c d : Byte) :
    let w := a.toNat + 256 * b.toNat + 65536 * c.toNat + 16777216 * d.toNat
    storedValues .p10s [a, b, c, d] = (w / 2 ^ 22 % 1024 * 64, w / 2 ^ 12 % 1024 * 64, w / 2 ^ 2 % 1024 * 64) := by
  have hreversed : storedValues .p10s [a, b, c, d] = storedValues .p10 [d, c, b, a] := by
    simp only [storedValues, byteField, List.getD_cons_zero, List.getD_cons_succ, Prod.mk.injEq]
    omega
  have hword : a.toNat + 256 * b.toNat + 65536 * c.toNat + 16777216 * d.toNat =
      16777216 * d.toNat + 65536 * c.toNat + 256 * b.toNat + a.toNat := by omega
  rw [hreversed, hword]
  exact storedValues_p10 d c b a

/-- Settles O46: a filled line is handed over, another one fetched on; and how bytes become pixels. -/
theorem lineFetchHandsOver : Obligations.LineFetchHandsOver := by
  refine ⟨?_, fun f q carry done b bs => ?_, fun a b c d e f => ?_⟩
  · intro bs f x l e i p s hrun hbusy hfetch hx hl hhead hbody gathered pixels ended
    obtain ⟨c, w, m, hfreed⟩ := s.freeChannel_channelOnly
    have hfree : s.freeChannel.exposure? = some x := by rw [hfreed]; exact hx
    have hends : ended ↔ f.itemEnds p bs := by
      unfold LineFetch.itemEnds
      simp only [ended]
      cases (p.stripMap.getD [])[f.item]? <;> simp
    by_cases hfull : i.width ≤ pixels.length
    · have hover : s.freeChannel.fetchBytes e f bs = _ := State.fetchBytes_full hbody hfull
      obtain ⟨hgone, hy⟩ := State.handOver_leaves hfree hl p.flipH (f.gather p bs)
      rw [← hover] at hgone hy
      obtain ⟨t, hexec, hrm, hdbi, hlcu, hkept, hexposure⟩ := lineFetchRead_running hrun hbusy hfetch hx hhead hy rfl
      exact ⟨t, hexec, hrm, hdbi, hlcu, fun _ => ⟨hkept.trans hgone, hexposure⟩,
        fun h => absurd hfull (Nat.not_le.mpr h)⟩
    · have hgoes : s.freeChannel.fetchBytes e f bs = _ := State.fetchBytes_part hbody (Nat.not_le.mp hfull)
      obtain ⟨t, hexec, hrm, hdbi, hlcu, hkept, hexposure⟩ :=
        lineFetchRead_running hrun hbusy hfetch hx hhead (by rw [hgoes]; exact hfree) hl
      have hfetch' : t.sr.fetch = some (f.gather p bs) := by rw [hkept, hgoes]; rfl
      refine ⟨t, hexec, hrm, hdbi, hlcu, fun h => absurd h hfull, fun _ => ⟨hexposure, fun h => ?_, fun h => ?_⟩⟩
      · rw [hfetch', LineFetch.gather_of_ends (hends.mp h)]
      · rw [hfetch', LineFetch.gather_of_not_ends (hends.not.mp h)]
  · intro size
    have hsize : size = f.bytes := by cases f <;> rfl
    exact ⟨rfl, fun h => gatherPixels_cons_full (h.trans hsize) q done b bs,
      fun h => gatherPixels_cons_part (fun h' => h (h'.trans hsize.symm)) q done b bs⟩
  · intro n big little wide
    refine ⟨rfl, rfl, rfl, rfl, ?_, ?_, ?_, ?_⟩ <;> unfold decodePixel
    · rw [storedValues_p10]
    · rw [storedValues_p10]
    · rw [storedValues_p10s]
    · rw [storedValues_p10s]

end Sys2Proof.Machine
end

section
/-! ## The exposure chain (R72 to R80) -/

namespace Sys2Proof.Machine
/-! ### Node interpolation (R72) -/

/-- R72: a fraction f of at most 255 of 256 takes a difference no further than the difference, rounded. -/
theorem interpolation_within (d f : Int) (h0 : 0 ≤ f) (h255 : f ≤ 255) :
    min 0 d ≤ (d * f + 128) / 256 ∧ (d * f + 128) / 256 ≤ max 0 d := by
  rcases le_total 0 d with hd | hd
  · have hlow := mul_nonneg hd h0
    have hhigh := mul_le_mul_of_nonneg_left h255 hd
    omega
  · have hlow := mul_le_mul_of_nonpos_left h255 hd
    have hhigh := mul_nonpos_of_nonpos_of_nonneg hd h0
    omega

theorem interpolate_bounds (a b : Nat) {f8 : Nat} (h : f8 ≤ 255) :
    (interpolate a b f8 : Int) = a + (((b : Int) - a) * f8 + 128) / 256 ∧
      min a b ≤ interpolate a b f8 ∧ interpolate a b f8 ≤ max a b := by
  have hwithin := interpolation_within ((b : Int) - a) f8 (by omega) (by omega)
  unfold interpolate
  omega

/-- Settles O49: the quotient lies between 0 and the difference of the nodes. -/
theorem interpolationBetweenNodes : Obligations.InterpolationBetweenNodes := by
  intro a b f8 h
  obtain ⟨hvalue, hlow, hhigh⟩ := interpolate_bounds a b h
  rw [Int.fdiv_eq_ediv_of_nonneg _ (by omega)]
  exact ⟨hvalue, hlow, hhigh, by simp [interpolate]⟩

/-- Between nodes of a range, interpolation stays in it. -/
theorem interpolate_le_of_nodes {nodes : List Nat} {bound : Nat} (h : ∀ n ∈ nodes, n ≤ bound) (i j f : Nat) :
    interpolate (nodes.getD i 0) (nodes.getD j 0) (f % 256) ≤ bound := by
  have hnode (k : Nat) : nodes.getD k 0 ≤ bound := by
    rw [List.getD_eq_getElem?_getD]
    cases hk : nodes[k]? with
    | none => exact Nat.zero_le _
    | some n => exact h n (List.mem_of_getElem? hk)
  exact (interpolate_bounds _ _ (by omega)).2.2.trans (max_le (hnode i) (hnode j))

/-! ### The stages -/

theorem driveTable_eq (drive : List Nat) (n : Nat) : driveTable drive n = if n < 1048576 then
    interpolate (drive.getD (n / 4096) 0) (drive.getD (n / 4096 + 1) 0) (n / 16 % 256)
    else interpolate (drive.getD (n / 65536 + 241) 0) (drive.getD (n / 65536 + 242) 0) (n / 256 % 256) := rfl

theorem offsetExposure_spec (e : Nat) (trim lights : Int) : (offsetExposure e trim lights).1 ≤ 65535 ∧
    ((offsetExposure e trim lights).2 = true ↔ (e : Int) + trim + lights < 0 ∨ 65535 < (e : Int) + trim + lights) ∧
    ((e : Int) + trim + lights < 0 → (offsetExposure e trim lights).1 = 0) ∧
    (65535 < (e : Int) + trim + lights → (offsetExposure e trim lights).1 = 65535) ∧
    ((offsetExposure e trim lights).2 = false →
      ((offsetExposure e trim lights).1 : Int) = e + trim + lights) := by
  unfold offsetExposure
  dsimp only
  split
  · simp; omega
  · split
    · simp; omega
    · simp; omega

theorem applyGain_spec (n gain : Nat) : (applyGain n gain).1 ≤ 16777215 ∧
    ((applyGain n gain).2 = true ↔ 16777215 < (n * gain + 8192) / 16384) ∧
    ((applyGain n gain).2 = false → (applyGain n gain).1 = (n * gain + 8192) / 16384) := by
  unfold applyGain
  dsimp only
  split
  next h => exact ⟨le_rfl, by simpa using h, nofun⟩
  next h => exact ⟨Nat.not_lt.mp h, by simpa using h, fun _ => rfl⟩

theorem limitDrive_spec (code limit : Nat) : (limitDrive code limit).1 = min code limit ∧
    ((limitDrive code limit).2 = true ↔ limit < code) := by
  unfold limitDrive
  split
  next h => exact ⟨(min_eq_right h.le).symm, by simpa using h⟩
  next h => exact ⟨(min_eq_left (Nat.not_lt.mp h)).symm, by simpa using h⟩

/-- R80: no drive code of the chain is above the drive limit. -/
theorem driveCode_le_limit (o : ChainOperands) (facetGain profGain v16 : Nat) :
    (driveCode o facetGain profGain v16).1 ≤ o.limit :=
  (limitDrive_spec _ _).1.trans_le (min_le_right _ _)

/-- Settles O51: each stage with its bound and its clip; the chain is their composition. -/
theorem chainStaysInRange : Obligations.ChainStaysInRange := by
  refine ⟨fun curve v _ hnodes _ => interpolate_le_of_nodes hnodes _ _ _, offsetExposure_spec, applyGain_spec,
    fun drive n _ hnodes _ => ?_, limitDrive_spec, driveCode_le_limit, fun curve profile drive v n =>
      ⟨rfl, rfl, fun h => ?_, fun h => ?_⟩, fun o facetGain profGain v => rfl⟩
  · rw [driveTable_eq]
    split <;> exact interpolate_le_of_nodes hnodes _ _ _
  · rw [driveTable_eq, if_pos h]
  · rw [driveTable_eq, if_neg (Nat.not_lt.mpr h)]

/-! ### Computed lines (R69) -/

theorem computePixel_get (content : SetContent) (ctx : ExposureContext) (optics : Optics) (facets width y : Nat)
    (src : LineSource) (x : Nat) (c : Channel) : (computePixel content ctx optics facets width y src x).get c =
      driveCode (chainOperands content ctx c) (optics.facet.getD (y % facets) 0)
        (profileGain optics.profile (profilePosition optics.centre width x)) ((src.at x).get c) := by
  cases c <;> rfl

/-- R69: the codes of a channel in a computed line's record, in scan-position order. -/
theorem lineRecord_codes (y : Nat) (clips : Rgb Nat) (content : SetContent) (ctx : ExposureContext) (optics : Optics)
    (facets width : Nat) (src : LineSource) :
    (lineRecord y clips (computeLine content ctx optics facets width y src)).codes = (List.range width).map fun n =>
      (computePixel content ctx optics facets width y src n).map Prod.fst := by
  simp [lineRecord, computeLine]

/-- R82: a line's clip count of a channel is raised by the positions clipped in it. -/
theorem lineRecord_clips (y : Nat) (clips : Rgb Nat) (content : SetContent) (ctx : ExposureContext) (optics : Optics)
    (facets width : Nat) (src : LineSource) (c : Channel) :
    (lineRecord y clips (computeLine content ctx optics facets width y src)).clips.get c = clips.get c +
      (List.range width).countP fun n => ((computePixel content ctx optics facets width y src n).get c).2 := by
  have hcount : ((computeLine content ctx optics facets width y src).countP fun p => (p.get c).2) =
      (List.range width).countP fun n => ((computePixel content ctx optics facets width y src n).get c).2 :=
    List.countP_map
  rw [← hcount]
  cases c <;> rfl

/-- R69, R80: the record of a computed line holds codes within the limits latched for the frame. -/
theorem lineRecord_codesWithin (y : Nat) (clips : Rgb Nat) (content : SetContent) (ctx : ExposureContext)
    (optics : Optics) (facets width : Nat) (src : LineSource) (c : Channel) :
    codesWithin (ctx.limits.get c)
      ((lineRecord y clips (computeLine content ctx optics facets width y src)).codes.map (Rgb.get · c)) := by
  intro d hd
  simp only [lineRecord_codes, List.map_map, List.mem_map, Function.comp_apply, Rgb.get_map, computePixel_get] at hd
  obtain ⟨n, -, rfl⟩ := hd
  exact driveCode_le_limit _ _ _ _

end Sys2Proof.Machine
end

section
/-! ## The antilog of the exposure chain (R76) -/

namespace Sys2Proof.Machine

/-- The whole-number comparison of the antilog, read in the reals: both sides are N-th powers. -/
theorem pow_mul_le_iff (N : ℕ) (hN : N ≠ 0) (m d : ℕ) :
    m ^ N * 10 ^ d ≤ 2 ^ (25 * N) ↔ (m : ℝ) ≤ 2 ^ 25 * (10 : ℝ) ^ (-(d : ℝ) / N) := by
  have hroot : ((10 : ℝ) ^ (-(d : ℝ) / N)) ^ N * 10 ^ d = 1 := by
    rw [← Real.rpow_natCast, ← Real.rpow_mul (by norm_num), div_mul_cancel₀ _ (Nat.cast_ne_zero.mpr hN),
      Real.rpow_neg (by norm_num), Real.rpow_natCast, inv_mul_cancel₀ (by positivity)]
  have hpower : ((2 : ℝ) ^ 25 * (10 : ℝ) ^ (-(d : ℝ) / N)) ^ N * 10 ^ d = 2 ^ (25 * N) := by
    rw [mul_pow, mul_assoc, hroot, mul_one, pow_mul]
  calc m ^ N * 10 ^ d ≤ 2 ^ (25 * N)
    _ ↔ (m : ℝ) ^ N * 10 ^ d ≤ 2 ^ (25 * N) := by exact_mod_cast Iff.rfl
    _ ↔ (m : ℝ) ^ N ≤ (2 ^ 25 * (10 : ℝ) ^ (-(d : ℝ) / N)) ^ N := by
      rw [← hpower, mul_le_mul_iff_left₀ (by positivity)]
    _ ↔ (m : ℝ) ≤ 2 ^ 25 * (10 : ℝ) ^ (-(d : ℝ) / N) := pow_le_pow_iff_left₀ (by positivity) (by positivity) hN

theorem antilogFits_iff (d n : ℕ) : antilogFits d n = true ↔ (2 * n - 1) ^ 16384 * 10 ^ d ≤ 2 ^ (25 * 16384) :=
  decide_eq_true_iff

/-- R76: a positive number fits when it is at most half above the exact power of ten. -/
theorem antilogFits_iff_real {d n : ℕ} (hn : 0 < n) :
    antilogFits d n = true ↔ (n : ℝ) ≤ 2 ^ 24 * (10 : ℝ) ^ (-(d : ℝ) / 16384) + 1 / 2 := by
  have hcast : ((2 * n - 1 : ℕ) : ℝ) = 2 * n - 1 := by
    rw [Nat.cast_sub (by omega)]
    push_cast
    ring
  have hroot := pow_mul_le_iff 16384 (by norm_num) (2 * n - 1) d
  rw [hcast] at hroot
  rw [antilogFits_iff, hroot]
  push_cast
  constructor <;> intro h <;> linarith

theorem antilogFits_anti {d d' n n' : ℕ} (hd : d' ≤ d) (hn : n' ≤ n) (h : antilogFits d n = true) :
    antilogFits d' n' = true := by
  rw [antilogFits_iff] at h ⊢
  exact le_trans (Nat.mul_le_mul (Nat.pow_le_pow_left (by omega) _) (Nat.pow_le_pow_right (by norm_num) hd)) h

theorem antilogFits_zero (d : ℕ) : antilogFits d 0 = true := by
  rw [antilogFits_iff, Nat.zero_pow (by norm_num), Nat.zero_mul]
  exact Nat.zero_le _

/-- The least value of the range fits even at the least E2: four decades down, 2^24 is divided by 10^4. -/
theorem antilogFits_bottom : antilogFits 65536 1678 = true := by
  rw [antilogFits_iff, show 65536 = 4 * 16384 from rfl, pow_mul 10, pow_mul 2, ← mul_pow]
  exact Nat.pow_le_pow_left (by norm_num) _

/-- One more than the greatest value of the range does not fit even at the greatest E2. -/
theorem antilogFits_top : antilogFits 1 16774859 = false := by decide +kernel

/-- The search ends at the greatest number that fits. -/
theorem antilogSearch_spec (d k acc : ℕ) (hfits : antilogFits d acc = true)
    (hnot : antilogFits d (acc + 2 ^ k) = false) :
    antilogFits d (antilogSearch d k acc) = true ∧ antilogFits d (antilogSearch d k acc + 1) = false := by
  induction k generalizing acc with
  | zero => exact ⟨hfits, hnot⟩
  | succ k ih =>
    have hhalves : acc + 2 ^ k + 2 ^ k = acc + 2 ^ (k + 1) := by ring
    unfold antilogSearch
    split
    next hmore => exact ih _ hmore (hhalves ▸ hnot)
    next hless => exact ih _ hfits (by simpa using hless)

theorem antilog_spec {e2 : ℕ} (h : e2 ≤ 65535) :
    antilogFits (65536 - e2) (antilog e2) = true ∧ antilogFits (65536 - e2) (antilog e2 + 1) = false := by
  refine antilogSearch_spec _ _ _ (antilogFits_zero _) ?_
  by_contra hfits
  have := antilogFits_anti (d' := 1) (n' := 16774859) (by omega) (by norm_num) (Bool.eq_true_of_not_eq_false hfits)
  rw [antilogFits_top] at this
  cases this

theorem antilog_bounds {e2 : ℕ} (h : e2 ≤ 65535) : 1678 ≤ antilog e2 ∧ antilog e2 ≤ 16774858 := by
  obtain ⟨hfits, hnot⟩ := antilog_spec h
  constructor
  · by_contra hlow
    have := antilogFits_anti (d' := 65536 - e2) (n' := antilog e2 + 1) (by omega) (by omega) antilogFits_bottom
    rw [hnot] at this
    cases this
  · by_contra hhigh
    have := antilogFits_anti (d' := 1) (n' := 16774859) (by omega) (by omega) hfits
    rw [antilogFits_top] at this
    cases this

/-- Settles O50: the search finds the greatest number at most half above the exact value. -/
theorem antilogRoundsHalfUp : Obligations.AntilogRoundsHalfUp := by
  intro e2 h
  have hbounds := antilog_bounds h
  obtain ⟨hfits, hnot⟩ := antilog_spec h
  have hexponent : -((65536 - e2 : ℕ) : ℝ) / 16384 = ((e2 : ℝ) - 65536) / 16384 := by
    rw [Nat.cast_sub (by omega)]
    push_cast
    ring
  rw [antilogFits_iff_real (by omega), hexponent] at hfits
  have hover := mt (antilogFits_iff_real (d := 65536 - e2) (Nat.succ_pos _)).mpr (by rw [hnot]; exact nofun)
  rw [hexponent, not_le] at hover
  refine ⟨(Int.floor_eq_iff.mpr ⟨?_, ?_⟩).symm, hbounds⟩
  · exact_mod_cast hfits
  · exact_mod_cast hover

end Sys2Proof.Machine
end

section
/-! ## What the drive outputs depend on

State.OutputSound gathers what is kept of the film, the exposure and the drive outputs at every event;
State.outputKept says of an operation that it keeps this and gives no output a new image code. -/

namespace Sys2Proof.Machine

/-- The image codes a drive output carries in the present sweep (R144). -/
def State.image (s : State) (c : Channel) : List Nat := (s.lcu.get c).sweep.image

/-- No drive output carries an image code. -/
def State.imagesOff (s : State) : Prop := ∀ c, s.image c = []

/-- From the first state to the second each drive output keeps its image codes or drops them. -/
def State.imagesFrom (s t : State) : Prop := ∀ c, t.image c = s.image c ∨ t.image c = []

/-- R80, R122, R127: the line FIFO keeps a place for the line in production and holds codes within the latched limits,
and every completed line has been counted. -/
structure Exposure.Sound (x : Exposure) : Prop where
  room : x.fifo.length + x.line.isSome.toNat ≤ Config.fifoCapacity
  steps : x.steps = x.ctx.linesExposed + x.ctx.linesBlanked
  codes : ∀ r ∈ x.fifo, ∀ c, codesWithin (x.ctx.limits.get c) (r.codes.map (Rgb.get · c))

/-- The film of a gate cycle that has one (R152), the drive outputs (R144), and the exposure. -/
structure State.OutputSound (s : State) : Prop where
  film : s.filmLoaded
  off : s.exposure? = none → s.imagesOff
  drives : ∀ x, s.exposure? = some x → ∀ c, codesWithin (x.ctx.limits.get c) (s.image c)
  sound : ∀ x, s.exposure? = some x → x.Sound

theorem State.outputSound_iff (s : State) :
    s.OutputSound ↔ s.filmLoaded ∧ s.drivesLimited ∧ s.outputCounts := by
  unfold State.drivesLimited State.outputCounts
  cases hx : s.exposure? with
  | none =>
    simp only [reduceCtorEq, false_implies, implies_true, and_true]
    exact ⟨fun h => ⟨h.film, h.off hx⟩,
      fun ⟨hfilm, hoff⟩ => ⟨hfilm, fun _ => hoff, by simp [hx], by simp [hx]⟩⟩
  | some x =>
    simp only [Option.some.injEq, forall_eq']
    refine ⟨fun h => ⟨h.film, fun c => ⟨h.drives x hx c, fun r hr => (h.sound x hx).codes r hr c⟩,
      (h.sound x hx).room, (h.sound x hx).steps⟩, fun ⟨hfilm, hdrives, hroom, hsteps⟩ =>
      ⟨hfilm, by simp [hx], fun y hy c => ?_, fun y hy => ?_⟩⟩ <;>
      obtain rfl : x = y := Option.some.inj (hx.symm.trans hy)
    · exact (hdrives c).1
    · exact ⟨hroom, hsteps, fun r hr c => (hdrives c).2 r hr⟩

theorem State.imagesFrom_refl (s : State) : s.imagesFrom s := fun _ => .inl rfl

theorem State.imagesFrom_of_lcu {s t : State} (h : t.lcu = s.lcu) : s.imagesFrom t :=
  fun c => .inl (by rw [State.image, h]; rfl)

theorem State.imagesFrom_of_off {s t : State} (h : t.imagesOff) : s.imagesFrom t := fun c => .inr (h c)

theorem State.imagesFrom.trans {s t u : State} (h : s.imagesFrom t) (k : t.imagesFrom u) : s.imagesFrom u := fun c => by
  rcases k c with hk | hk
  · rcases h c with hh | hh
    · exact .inl (hk.trans hh)
    · exact .inr (hk.trans hh)
  · exact .inr hk

theorem State.imagesFrom.off {s t : State} (h : s.imagesFrom t) (hs : s.imagesOff) : t.imagesOff :=
  fun c => (h c).elim (·.trans (hs c)) id

theorem State.imagesFrom.within {s t : State} (h : s.imagesFrom t) {c : Channel} {n : Nat}
    (hs : codesWithin n (s.image c)) : codesWithin n (t.image c) := by
  rcases h c with hc | hc <;> rw [hc]
  · exact hs
  · exact fun d hd => nomatch hd

theorem State.dropDrives_imagesOff (s : State) : s.dropDrives.imagesOff := fun c => by cases c <;> rfl

/-! ### Keeping it -/

/-- Every operation on the way from the first state to the second keeps the outputs sound and puts no new image code on
one. -/
def State.outputKept (s t : State) : Prop := (s.OutputSound → t.OutputSound) ∧ s.imagesFrom t

theorem State.outputKept_refl (s : State) : s.outputKept s := ⟨id, s.imagesFrom_refl⟩

theorem State.outputKept.trans {s t u : State} (h : s.outputKept t) (k : t.outputKept u) : s.outputKept u :=
  ⟨fun hs => k.1 (h.1 hs), h.2.trans k.2⟩

/-- The gate and the magazine stand, whatever becomes of the expected position, the advance order and the halted flag. -/
structure State.GateKept (s t : State) : Prop where
  gate : t.gc.gate = s.gc.gate
  magazine : t.gc.magazine = s.gc.magazine

theorem State.GateKept.trans {s t u : State} (h : s.GateKept t) (k : t.GateKept u) : s.GateKept u :=
  ⟨k.gate.trans h.gate, k.magazine.trans h.magazine⟩

theorem State.gateKept_of_gc {s t : State} (h : t.gc = s.gc) : s.GateKept t := ⟨by rw [h], by rw [h]⟩

theorem State.gateKept_of_film {s t : State} (h : t.film = s.film) : s.GateKept t :=
  State.gateKept_of_gc (congrArg Prod.fst h)

theorem State.GateKept.filmLoaded {s t : State} (h : s.GateKept t) (hs : s.filmLoaded) : t.filmLoaded := by
  unfold State.filmLoaded State.loadedTag? at hs ⊢
  rwa [h.gate, h.magazine]

theorem State.GateKept.exposure? {s t : State} (h : s.GateKept t) : t.exposure? = s.exposure? := by
  unfold State.exposure?
  rw [h.gate]

theorem State.GateKept.outputKept {s t : State} (h : s.GateKept t) (himages : s.imagesFrom t) : s.outputKept t := by
  have hexposure := h.exposure?
  refine ⟨fun hs => ⟨h.filmLoaded hs.film, fun hx => himages.off (hs.off (hexposure ▸ hx)),
    fun x hx c => himages.within (hs.drives x (hexposure ▸ hx) c), fun x hx => hs.sound x (hexposure ▸ hx)⟩, himages⟩

theorem State.outputKept_of_film {s t : State} (hfilm : t.film = s.film) (hlcu : t.lcu = s.lcu) : s.outputKept t :=
  (State.gateKept_of_film hfilm).outputKept (State.imagesFrom_of_lcu hlcu)

/-- Without an exposure, dark outputs and the film are all there is to keep. -/
theorem State.OutputSound.of_ended {s : State} (hfilm : s.filmLoaded) (hx : s.exposure? = none) (hoff : s.imagesOff) :
    s.OutputSound :=
  ⟨hfilm, fun _ => hoff, by simp [hx], by simp [hx]⟩

theorem State.mapExposure_none {s : State} (h : s.exposure? = none) (f : Exposure → Exposure) : s.mapExposure f = s := by
  unfold State.exposure? at h
  unfold State.mapExposure
  cases hg : s.gc.gate <;> simp_all

/-- A change of the exposure that keeps it sound and under the same limits. -/
theorem State.mapExposure_outputKept (s : State) (f : Exposure → Exposure) (hlimits : ∀ x, (f x).ctx.limits = x.ctx.limits)
    (hf : ∀ x, s.exposure? = some x → x.Sound → (f x).Sound) : s.outputKept (s.mapExposure f) := by
  have himages : s.imagesFrom (s.mapExposure f) := State.imagesFrom_of_lcu (s.mapExposure_lcu f)
  refine ⟨fun h => ?_, himages⟩
  cases hx : s.exposure? with
  | none => rwa [State.mapExposure_none hx]
  | some x =>
    have hy := State.mapExposure_exposure? hx f
    have hmag : (s.mapExposure f).gc.magazine = s.gc.magazine := by
      obtain ⟨g, hg⟩ := s.mapExposure_shape f
      rw [hg]
    refine ⟨fun _ => ?_, by simp [hy], fun y hy' c => ?_, fun y hy' => ?_⟩
    · have := h.film (by simp [State.exposure?_eq_some.mp hx])
      rwa [State.loadedTag?, hmag]
    all_goals obtain rfl : f x = y := Option.some.inj (hy.symm.trans hy')
    · rw [hlimits]
      exact himages.within (h.drives x hx c)
    · exact hf x hx (h.sound x hx)

end Sys2Proof.Machine
end

section
/-! ## The events of an exposure keep the outputs sound -/

namespace Sys2Proof.Machine
/-! ### Starts and the end of an event -/

theorem State.lt_of_lineDue {s : State} {x : Exposure} (h : s.lineDue x = true) :
    x.line = none ∧ x.fifo.length < Config.fifoCapacity := by
  simp only [State.lineDue, Bool.and_eq_true, Option.isNone_iff_eq_none, decide_eq_true_eq] at h
  exact ⟨h.1.1, h.2⟩

/-- R68: a line begins where the FIFO has a place for it. -/
theorem State.beginLine_outputKept (s : State) : s.outputKept s.beginLine := by
  have hbegin (phase : LinePhase) {x : Exposure} (hx : s.exposure? = some x) (hdue : s.lineDue x = true) :
      s.outputKept (s.mapExposure (·.begin phase)) := by
    refine s.mapExposure_outputKept _ (fun _ => rfl) fun y hy hsound => ?_
    obtain rfl : x = y := Option.some.inj (hx.symm.trans hy)
    have hroom := (State.lt_of_lineDue hdue).2
    exact ⟨by simpa [Exposure.begin] using hroom, hsound.steps, hsound.codes⟩
  unfold State.beginLine
  split
  next x e hx _ =>
    split
    next hdue =>
      split
      · exact (hbegin _ hx hdue).trans (State.outputKept_of_film (State.requestLine_film _ _) (State.requestLine_lcu _ _))
      · exact hbegin _ hx hdue
      · exact s.outputKept_refl
    · exact s.outputKept_refl
  · exact s.outputKept_refl

theorem State.quiesce_film (s : State) : s.quiesce.film = s.beginLine.film := by simp [State.quiesce]

theorem State.quiesce_outputKept (s : State) : s.outputKept s.quiesce :=
  s.beginLine_outputKept.trans (State.outputKept_of_film s.quiesce_film (by simp))

/-- R157: an exposure begins with dark outputs and an empty FIFO. -/
theorem State.beginExposure_outputSound {s : State} (h : s.OutputSound) (hx : s.exposure? = none)
    (htag : s.loadedTag?.isSome = true) (e : Entry) (i : ImagePart) (v : SetContent) (q : Nat) :
    (s.beginExposure e i v q).OutputSound := by
  have hoff : (s.beginExposure e i v q).imagesOff := (State.imagesFrom_of_lcu (s.beginExposure_lcu e i v q)).off (h.off hx)
  refine ⟨fun _ => htag, fun _ => hoff, fun x _ c => ?_, fun x hx' => ?_⟩
  · rw [hoff c]
    exact fun d hd => nomatch hd
  · obtain rfl : newExposure (newContext e i v q s.lcu) = x := Option.some.inj hx'
    exact ⟨Nat.zero_le _, rfl, fun r hr => nomatch hr⟩

theorem State.exposure?_of_ready {s : State} {q : Nat} (h : s.gc.gate = .ready q) : s.exposure? = none := by
  rw [State.exposure?, h]

theorem State.frameStart_outputKept (s : State) : s.outputKept s.frameStart := by
  refine ⟨fun h => ?_, State.imagesFrom_of_lcu s.frameStart_lcu⟩
  have hreject : s.rejectStock.OutputSound := (State.outputKept_of_film s.rejectStock_film s.rejectStock_lcu).1 h
  unfold State.frameStart
  split
  next e q _ hgate =>
    split
    next i _ =>
      split
      next v tag _ htag =>
        split
        · exact State.beginExposure_outputSound h (State.exposure?_of_ready hgate) (by rw [htag]; rfl) e i v q
        · exact hreject
      · exact hreject
    · exact h
  · exact h

/-- A record appended leaves the gate and the magazine alone, with the port read it may bring about (R176). -/
theorem State.appendRecord_gateKept (s : State) (r : MapRecord) : s.GateKept (s.appendRecord r) := ⟨rfl, rfl⟩

theorem State.recordWritten_gateKept (s : State) (r : MapRecord) : s.GateKept (s.appendRecord r).recordWritten :=
  (s.appendRecord_gateKept r).trans (State.gateKept_of_gc (State.recordWritten_gc _))

theorem State.appendUnknown_gateKept (n : Nat) (s : State) : s.GateKept (s.appendUnknown n) := by
  induction n generalizing s with
  | zero => exact State.gateKept_of_gc rfl
  | succ n ih => exact (s.recordWritten_gateKept _).trans (ih _)

theorem State.appendBlank_gateKept (e : Entry) (n q : Nat) (s : State) : s.GateKept (s.appendBlank e n q) := by
  induction n generalizing s q with
  | zero => exact State.gateKept_of_gc rfl
  | succ n ih => exact (s.recordWritten_gateKept _).trans (ih _ _)

theorem State.advanceFilm_exposure? (s : State) (n : Nat) : (s.advanceFilm n).exposure? = none := by
  have hgate : (s.advanceFilm n).gc.gate = if s.filmExhausted then .filmOut else .advancing := rfl
  rw [State.exposure?, hgate]
  cases s.filmExhausted <;> rfl

/-- The gate advancing or out of film ends an exposure; its outputs must be dark. -/
theorem State.advanceFilm_outputSound {s : State} (h : s.OutputSound) (hgate : s.gc.gate ≠ .noFilm) (hoff : s.imagesOff)
    (n : Nat) : (s.advanceFilm n).OutputSound :=
  .of_ended (fun _ => h.film hgate) (s.advanceFilm_exposure? n) hoff

theorem State.runoutStart_outputKept (s : State) : s.outputKept s.runoutStart := by
  refine ⟨fun h => ?_, State.imagesFrom_of_lcu s.runoutStart_lcu⟩
  unfold State.runoutStart
  split
  next e q _ hgate =>
    split
    next count _ =>
      dsimp only
      generalize min count (s.filmRemaining?.getD 0) = n
      have hgone : s.GateKept ((s.appendBlank e n q).headRunOut n) :=
        (State.appendBlank_gateKept e n q s).trans (State.gateKept_of_film (State.headRunOut_film _ _))
      have hkept := hgone.outputKept (State.imagesFrom_of_lcu (by simp))
      have hadvanced : (((s.appendBlank e n q).headRunOut n).advanceFilm n).OutputSound := by
        refine State.advanceFilm_outputSound (hkept.1 h) ?_ (hkept.2.off (h.off (State.exposure?_of_ready hgate))) n
        rw [hgone.gate, hgate]
        exact nofun
      exact (State.outputKept_of_film ((State.filmEnd_film _).trans (State.raise_film _ _))
        ((State.filmEnd_lcu _).trans (State.raise_lcu _ _))).1 hadvanced
    · exact h
    · exact h
  · exact h

theorem State.startIfDue_outputKept (b s : State) : s.outputKept (State.startIfDue b s) := by
  unfold State.startIfDue
  split
  · exact s.frameStart_outputKept
  · split
    · exact s.runoutStart_outputKept
    · exact s.outputKept_refl

theorem State.recordsEnd_outputKept (b s : State) : s.outputKept (State.recordsEnd b s) :=
  (State.gateKept_of_gc (State.recordsEnd_gc b s)).outputKept (State.imagesFrom_of_lcu (State.recordsEnd_lcu b s))

theorem State.settle_outputKept (b s : State) : s.outputKept (State.settle b s) :=
  ((State.startIfDue_outputKept b s).trans (State.recordsEnd_outputKept b _)).trans (State.quiesce_outputKept _)

/-! ### Ends of an exposure -/

theorem State.withdrawFetch_record_gateKept (s : State) (r : MapRecord) :
    s.GateKept (s.withdrawFetch.appendRecord r) :=
  (State.gateKept_of_film s.withdrawFetch_film).trans (State.appendRecord_gateKept _ r)

/-- R160: a frame ends with dark outputs when the mark that ends it found them dark. -/
theorem State.frameEnd_outputKept {s : State} (hoff : s.imagesOff) : s.outputKept s.frameEnd := by
  refine ⟨fun h => ?_, State.imagesFrom_of_lcu s.frameEnd_lcu⟩
  unfold State.frameEnd
  split
  · exact h
  next x hx =>
    dsimp only
    generalize exposureRecord x.ctx x.clips (frameOutcome x.ctx).1 (frameOutcome x.ctx).2 = r
    have hgate := s.withdrawFetch_record_gateKept r
    have hkept : s.outputKept (s.withdrawFetch.appendRecord r) := hgate.outputKept (State.imagesFrom_of_lcu (by simp))
    have hadvanced : ((s.withdrawFetch.appendRecord r).advanceFilm 1).OutputSound := by
      refine State.advanceFilm_outputSound (hkept.1 h) ?_ (hkept.2.off hoff) 1
      rw [hgate.gate, State.exposure?_eq_some.mp hx]
      exact nofun
    have hended (u : State) (hfilm : u.film = ((s.withdrawFetch.appendRecord r).advanceFilm 1).film)
        (hlcu : u.lcu = ((s.withdrawFetch.appendRecord r).advanceFilm 1).lcu) :
        (u.raiseAll (frameEndEvents x.ctx)).filmEnd.OutputSound :=
      (State.outputKept_of_film (((State.filmEnd_film _).trans (State.raiseAll_film _ _)).trans hfilm)
        (((State.filmEnd_lcu _).trans (State.raiseAll_lcu _ _)).trans hlcu)).1 hadvanced
    split
    · exact hended _ (State.headExposed_film _) (State.headExposed_lcu _)
    · exact hended _ (State.headSpoiled_film _) (State.headSpoiled_lcu _)

theorem State.gateAfterAbort_ends (s : State) (r : SpoilReason) : (s.gateAfterAbort r).exposure? = none ∧
    (s.gateAfterAbort r).gc.magazine = s.gc.magazine := by
  cases r
  case gateFault | magRemoved => exact ⟨rfl, rfl⟩
  all_goals exact ⟨s.advanceFilm_exposure? 1, rfl⟩

/-- R162, R163: an abort of an exposure ends it and darkens the outputs; the magazine stands. -/
theorem State.abort_ends {s : State} {x : Exposure} (hx : s.exposure? = some x) (r : SpoilReason) :
    (s.abort r).exposure? = none ∧ (s.abort r).gc.magazine = s.gc.magazine ∧ (s.abort r).imagesOff := by
  have hkept : ∃ a, s.GateKept a ∧ a.lcu = s.dropDrives.lcu ∧ (s.abort r).film = (a.gateAfterAbort r).film ∧
      (s.abort r).lcu = a.lcu := by
    refine ⟨s.dropDrives.withdrawFetch.appendRecord (exposureRecord x.ctx x.clips .spoiled r),
      .trans (t := s.dropDrives) ⟨rfl, rfl⟩ (State.withdrawFetch_record_gateKept _ _), by simp, ?_, ?_⟩
    all_goals
      simp only [State.abort, hx]
      split <;> split <;> simp
  obtain ⟨a, hgate, hdark, hfilm, hlcu⟩ := hkept
  have hlast := State.gateKept_of_film hfilm
  obtain ⟨hended, hmag⟩ := a.gateAfterAbort_ends r
  refine ⟨hlast.exposure?.trans hended, hlast.magazine.trans (hmag.trans hgate.magazine), fun c => ?_⟩
  rw [State.image, hlcu, hdark]
  exact s.dropDrives_imagesOff c

theorem State.abort_none {s : State} (hx : s.exposure? = none) (r : SpoilReason) : s.abort r = s := by
  unfold State.abort
  rw [hx]

theorem State.abort_exposure? (s : State) (r : SpoilReason) : (s.abort r).exposure? = none := by
  cases hx : s.exposure? with
  | none => rwa [State.abort_none hx]
  | some x => exact (State.abort_ends hx r).1

theorem State.abort_outputKept (s : State) (r : SpoilReason) : s.outputKept (s.abort r) := by
  cases hx : s.exposure? with
  | none =>
    rw [State.abort_none hx]
    exact s.outputKept_refl
  | some x =>
    obtain ⟨hended, hmag, hoff⟩ := State.abort_ends hx r
    refine ⟨fun h => .of_ended (fun _ => ?_) hended hoff, State.imagesFrom_of_off hoff⟩
    have := h.film (by simp [State.exposure?_eq_some.mp hx])
    rwa [State.loadedTag?, hmag]

end Sys2Proof.Machine
end

section
/-! ## The marks and the lines of a frame keep the outputs sound -/

namespace Sys2Proof.Machine
/-! ### Laser channels -/

theorem State.mapLaser_image (s : State) (c d : Channel) (f : LaserUnit → LaserUnit) :
    (s.mapLaser c f).image d = if d = c then (f (s.lcu.get c)).sweep.image else s.image d := by
  cases c <;> cases d <;> rfl

theorem State.withLcu_outputKept {s : State} {v : Rgb LaserUnit} (h : s.imagesFrom (s.withLcu v)) :
    s.outputKept (s.withLcu v) :=
  (State.gateKept_of_gc (s := s) (t := s.withLcu v) rfl).outputKept h

/-- A channel unit changed, its image codes kept or dropped. -/
theorem State.mapLaser_outputKept (s : State) (c : Channel) (f : LaserUnit → LaserUnit)
    (hf : (f (s.lcu.get c)).sweep.image = s.image c ∨ (f (s.lcu.get c)).sweep.image = []) :
    s.outputKept (s.mapLaser c f) := by
  refine State.withLcu_outputKept fun d => ?_
  rw [← State.mapLaser, State.mapLaser_image]
  split
  next h => exact h ▸ hf
  · exact .inl rfl

theorem State.mapLasers_outputKept (s : State) (f : LaserUnit → LaserUnit)
    (hf : ∀ u, (f u).sweep.image = u.sweep.image ∨ (f u).sweep.image = []) : s.outputKept (s.mapLasers f) :=
  State.withLcu_outputKept fun c => by
    rw [State.image, State.withLcu_lcu, Rgb.get_map]
    exact hf _

theorem State.channelsOff_outputKept (s : State) : s.outputKept s.channelsOff :=
  s.mapLasers_outputKept _ fun _ => .inr rfl

theorem State.dropDrives_outputKept (s : State) : s.outputKept s.dropDrives :=
  s.mapLasers_outputKept _ fun _ => .inr rfl

theorem LaserUnit.warmIfOff_image (u : LaserUnit) : u.warmIfOff.sweep.image = u.sweep.image := by
  unfold LaserUnit.warmIfOff
  split <;> rfl

/-- R134 to R138: a sample and its judgement fire the reference pulse and leave the image codes. -/
theorem LaserUnit.judge_image (u : LaserUnit) : u.judge.1.sweep.image = u.sweep.image := by
  unfold LaserUnit.judge LaserUnit.judgeWarming LaserUnit.judgeReady
  dsimp only
  repeat' split
  all_goals rfl

theorem State.faultChannel_outputKept (s : State) (c : Channel) : s.outputKept (s.faultChannel c) :=
  (((s.mapLaser_outputKept c (fun u => { u with state := .fault, drift := false }) (.inl rfl)).trans
    (State.dropDrives_outputKept _)).trans (State.abort_outputKept _ .laserFault)).trans
    (State.outputKept_of_film (State.raise_film _ .laser) rfl)

theorem State.sampleChannel_outputKept (s : State) (c : Channel) (m : BitVec 12) :
    s.outputKept (s.sampleChannel c m) := by
  have hsampled := s.mapLaser_outputKept c (fun _ => ((s.lcu.get c).take m).judge.1)
    (.inl (LaserUnit.judge_image _))
  unfold State.sampleChannel
  split
  · dsimp only
    split
    · exact hsampled
    · exact hsampled.trans (State.faultChannel_outputKept _ c)
    · exact hsampled.trans (State.outputKept_of_film (State.raise_film _ _) rfl)
  · exact s.outputKept_refl

/-! ### The scanner -/

theorem State.withStu_outputKept (s : State) (v : ScanTiming) : s.outputKept (s.withStu v) :=
  State.outputKept_of_film rfl rfl

theorem State.loseLock_outputKept (s : State) : s.outputKept s.loseLock := by
  have hlost (v : ScanTiming) : s.outputKept ((s.withStu v).raise .scanner) := State.outputKept_of_film rfl rfl
  exact (hlost _).trans (State.abort_outputKept _ .lockLost)

theorem State.lock_outputKept (s : State) : s.outputKept s.lock := by
  have hlocked (v : ScanTiming) : s.outputKept ((s.withStu v).raise .scanner) := State.outputKept_of_film rfl rfl
  unfold State.lock
  dsimp only
  split
  · exact hlocked _
  · exact (hlocked _).trans (State.mapLasers_outputKept _ _ fun u => .inl u.warmIfOff_image)

/-- R112, R115, R117: of what a mark may decide only a lost lock touches the frame. -/
theorem State.judgeMark_outputKept (s : State) (p : Option Nat) : s.outputKept (s.judgeMark p) := by
  have hcounted : s.outputKept (s.countMark p) := s.withStu_outputKept _
  unfold State.judgeMark
  split
  · refine hcounted.trans ?_
    unfold State.judgeAcquiring
    dsimp only
    repeat' split
    · exact State.outputKept_refl _
    · exact State.withStu_outputKept _ _
    · exact (State.withStu_outputKept _ _).trans (State.lock_outputKept _)
    · exact State.withStu_outputKept _ _
    · exact State.outputKept_refl _
  · refine hcounted.trans ?_
    unfold State.judgeLocked
    repeat' split
    · exact State.outputKept_refl _
    · exact State.withStu_outputKept _ _
    · exact State.loseLock_outputKept _
    · exact State.withStu_outputKept _ _
  · exact s.withStu_outputKept _
  · exact s.outputKept_refl
  · exact s.outputKept_refl

/-! ### Lines -/

theorem Exposure.Sound.dropped {x : Exposure} (h : x.Sound) : ({ x with line := none } : Exposure).Sound :=
  ⟨le_trans (Nat.le_add_right _ _) h.room, h.steps, h.codes⟩

theorem State.dropLine_outputKept (s : State) (y : Nat) : s.outputKept (s.dropLine y) := by
  have hwithdrawn (t : State) : t.outputKept t.withdrawFetch :=
    State.outputKept_of_film t.withdrawFetch_film t.withdrawFetch_lcu
  have hraised : s.outputKept (s.mapExposure fun x => { x with nextLine := max x.nextLine (y + 1) }) :=
    s.mapExposure_outputKept _ (fun _ => rfl) fun x _ h => ⟨h.room, h.steps, h.codes⟩
  have hdropped : s.outputKept (s.mapExposure fun x => { x with nextLine := max x.nextLine (y + 1), line := none }) :=
    s.mapExposure_outputKept _ (fun _ => rfl) fun x _ h => ⟨h.dropped.room, h.steps, h.codes⟩
  unfold State.dropLine
  dsimp only
  split
  · exact s.outputKept_refl
  · split
    · exact hraised
    · split
      · split
        · exact hdropped.trans (hwithdrawn _)
        · exact hdropped
      · exact hraised

theorem State.blankLine_outputKept (s : State) (y : Nat) : s.outputKept (s.blankLine y) :=
  (s.mapExposure_outputKept (fun x => { x with out := .onFilm y .blanked, nextOut := y + 1 }) (fun _ => rfl)
    fun _ _ h => ⟨h.room, h.steps, h.codes⟩).trans (State.dropLine_outputKept _ y)

/-- R127, R158: a line end is one step and one count. -/
theorem State.endLine_outputKept (s : State) (kind : LineKind) : s.outputKept (s.endLine kind) := by
  refine (s.mapExposure_outputKept (fun x => { x with steps := x.steps + 1, ctx := x.ctx.countLine kind })
    (fun x => by cases kind <;> rfl) fun x _ h => ?_).trans (State.outputKept_of_film rfl rfl)
  have hsteps := h.steps
  refine ⟨h.room, ?_, ?_⟩ <;> cases kind <;> simp only [ExposureContext.countLine]
  · omega
  · omega
  · exact h.codes
  · exact h.codes

/-- R125, R71: a line taken from the FIFO puts its codes, which are within the limits, on the outputs. -/
theorem State.takeLine_outputSound {s : State} (h : s.OutputSound) {x : Exposure} {r : LineRecord}
    (hx : s.exposure? = some x) (hr : r ∈ x.fifo) : (s.takeLine r).OutputSound := by
  have htaken := (s.mapExposure_outputKept (fun x => { x with
    fifo := x.fifo.tail, clips := addClips x.clips r.clips, out := .onFilm r.y .exposed, nextOut := r.y + 1 })
    (fun _ => rfl) fun y _ hy => ⟨?_, hy.steps, fun q hq => hy.codes q (List.mem_of_mem_tail hq)⟩).1 h
  · have himage (c : Channel) : (s.takeLine r).image c = r.codes.map (Rgb.get · c) := by cases c <;> rfl
    have hy := State.mapExposure_exposure? hx fun x => { x with
      fifo := x.fifo.tail, clips := addClips x.clips r.clips, out := .onFilm r.y .exposed, nextOut := r.y + 1 }
    refine ⟨htaken.film, fun hnone => absurd (hnone.symm.trans hy) nofun, fun y hy' c => ?_, htaken.sound⟩
    obtain rfl := Option.some.inj (hy'.symm.trans hy)
    rw [himage]
    exact (h.sound x hx).codes r hr c
  · have := hy.room
    simp only [List.length_tail]
    omega

theorem State.endLine_exposure? {s : State} {x : Exposure} (hx : s.exposure? = some x) (kind : LineKind) :
    (s.endLine kind).exposure? = some { x with steps := x.steps + 1, ctx := x.ctx.countLine kind } :=
  State.mapExposure_exposure? hx _

theorem State.putLine_outputSound {s : State} (h : s.OutputSound) {x y : Exposure} (hy : s.exposure? = some y)
    (hfifo : y.fifo = x.fifo) : (s.putLine x).OutputSound := by
  unfold State.putLine
  split
  next r hr =>
    split
    · exact State.takeLine_outputSound h hy (hfifo ▸ List.mem_of_mem_head? hr)
    · exact (s.blankLine_outputKept _).1 h
  · exact (s.blankLine_outputKept _).1 h

/-- R123 to R128: what a mark does for the frame, where the outputs are dark before it. -/
theorem State.lineOut_outputSound {s : State} (h : s.OutputSound) (hoff : s.imagesOff) (facet : Option Nat) :
    (s.lineOut facet).OutputSound := by
  unfold State.lineOut
  split
  · exact h
  next x hx =>
    split
    · split
      next r hr =>
        split
        · exact State.takeLine_outputSound h hx (List.mem_of_mem_head? hr)
        · exact h
      · exact h
    next y kind _ =>
      have hended := s.endLine_outputKept kind
      dsimp only
      split
      · exact (State.frameEnd_outputKept (hended.2.off hoff)).1 (hended.1 h)
      · exact State.putLine_outputSound (hended.1 h) (State.endLine_exposure? hx kind) rfl

/-- R128: the last line's end is the frame's, and puts nothing on an output. -/
theorem State.lineOut_of_lastLine {s : State} (h : s.lastLineOnFilm = true) (facet : Option Nat) :
    ∃ kind, s.lineOut facet = (s.endLine kind).frameEnd := by
  unfold State.lastLineOnFilm at h
  split at h
  next x hx =>
    split at h
    next y kind hout =>
      refine ⟨kind, ?_⟩
      unfold State.lineOut
      simp only [hx, hout, of_decide_eq_true h, if_true]
    · cases h
  · cases h

/-! ### Marks -/

/-- R112, R124: until the mark takes its line, each part of it finds the outputs dark and leaves them so. -/
theorem State.markPart_outputKept (m : MarkInput) {s : State} (hoff : s.imagesOff) (p : MarkPart) :
    s.outputKept (State.markPart m s p) := by
  cases p with
  | sample c =>
    unfold State.markPart
    dsimp only
    split
    · exact (s.sampleChannel_outputKept c _).trans (State.startIfDue_outputKept s _)
    · exact s.outputKept_refl
  | judge =>
    unfold State.markPart State.markJudge
    dsimp only
    have hjudged := (s.judgeMark_outputKept m.period).trans (State.startIfDue_outputKept s _)
    split
    next hlast =>
      refine hjudged.trans ?_
      unfold State.markLine
      split
      · obtain ⟨kind, hends⟩ := State.lineOut_of_lastLine hlast m.facet
        have hended := State.endLine_outputKept (State.startIfDue s (s.judgeMark m.period)) kind
        rw [hends]
        exact hended.trans (State.frameEnd_outputKept (hended.2.off (hjudged.2.off hoff)))
      · exact State.outputKept_refl _
    · exact hjudged

theorem State.markParts_outputKept (m : MarkInput) (ps : List MarkPart) {s : State} (hoff : s.imagesOff) :
    s.outputKept (ps.foldl (State.markPart m) s) := by
  induction ps generalizing s with
  | nil => exact s.outputKept_refl
  | cons p ps ih =>
    have hfirst := State.markPart_outputKept m hoff p
    exact hfirst.trans (ih (hfirst.2.off hoff))

theorem State.takeMark_outputSound {s : State} (h : s.OutputSound) (ticks : Nat) (samples : Rgb (BitVec 12))
    (order : MarkOrder) : (s.takeMark ticks samples order).OutputSound := by
  have hparts := State.markParts_outputKept (s.markInput ticks samples) (markParts order) s.dropDrives_imagesOff
  refine (State.quiesce_outputKept _).1 ?_
  unfold State.markLine
  split
  · exact State.lineOut_outputSound (hparts.1 (s.dropDrives_outputKept.1 h)) (hparts.2.off s.dropDrives_imagesOff) _
  · exact hparts.1 (s.dropDrives_outputKept.1 h)

end Sys2Proof.Machine
end

section
/-! ## Every step keeps the outputs sound and leaves no line due -/

namespace Sys2Proof.Machine
/-! ### Lines that are due (R68) -/

/-- R68: a line begins in one of its phases, or none is due. -/
theorem State.beginLine_cases (s : State) :
    (∃ x phase, s.exposure? = some x ∧ s.beginLine.film = (s.mapExposure (·.begin phase)).film) ∨
      s.beginLine = s ∧ ∀ x, s.exposure? = some x → s.lineDue x = false := by
  unfold State.beginLine
  split
  next x e hx he =>
    split
    next hdue =>
      split
      · exact .inl ⟨x, _, hx, State.requestLine_film _ _⟩
      · exact .inl ⟨x, _, hx, rfl⟩
      next n hbody => exact .inr ⟨rfl, fun y _ => by simp [State.lineDue, State.frameHeight, he, Entry.image?, hbody]⟩
    next hdue =>
      refine .inr ⟨rfl, fun y hy => ?_⟩
      obtain rfl : x = y := Option.some.inj (hx.symm.trans hy)
      simpa using hdue
  next hnone =>
    refine .inr ⟨rfl, fun x hx => ?_⟩
    have he : s.exposingEntry? = none := by
      by_contra hne
      obtain ⟨e, he⟩ := Option.ne_none_iff_exists'.mp hne
      exact hnone x e hx he
    simp [State.lineDue, State.frameHeight, he]

theorem State.beginLine_noneDue (s : State) {x : Exposure} (hx : s.beginLine.exposure? = some x) :
    s.beginLine.lineDue x = false := by
  rcases s.beginLine_cases with ⟨y, phase, hy, hfilm⟩ | ⟨hstands, hnone⟩
  · rw [State.exposure?_congr hfilm, State.mapExposure_exposure? hy] at hx
    obtain rfl := Option.some.inj hx
    simp [State.lineDue, Exposure.begin]
  · rw [hstands] at hx ⊢
    exact hnone x hx

theorem State.lineDue_congr {s t : State} (hgc : t.gc = s.gc) (hfq : t.fq.entries = s.fq.entries) (x : Exposure) :
    t.lineDue x = s.lineDue x := by
  unfold State.lineDue
  rw [State.frameHeight_congr hgc (by rw [hfq])]

/-- The end of an event leaves no line due. -/
theorem State.quiesce_lineBegun {s : State} (h : s.tablesInRange) : s.quiesce.lineBegun := by
  intro _ x hx
  obtain ⟨g, f, c, hline⟩ := s.beginLine_shape
  obtain ⟨_, _, _, _, _, _, _, _, _, hquiet, -⟩ := s.quiesce_shape h
  have hgc : s.quiesce.gc = s.beginLine.gc := congrArg Prod.fst s.quiesce_film
  rw [State.lineDue_congr hgc (by rw [hquiet, hline])]
  exact s.beginLine_noneDue (by rwa [← State.exposure?_congr s.quiesce_film])

theorem State.lineBegun_of_ended {s : State} (h : s.exposure? = none) : s.lineBegun := by
  simp [State.lineBegun, h]

/-! ### The invariant -/

/-- What every step keeps of the drive outputs, with what of the film and the queue it rests on. -/
structure State.OutputInvariant (s : State) : Prop where
  output : s.OutputSound
  tables : s.tablesInRange
  begun : s.lineBegun

theorem State.outputInvariant_iff (s : State) : s.OutputInvariant ↔
    s.filmLoaded ∧ s.tablesInRange ∧ s.drivesLimited ∧ s.outputCounts ∧ s.lineBegun := by
  refine ⟨fun h => ?_, fun ⟨hfilm, htables, hdrives, hcounts, hbegun⟩ =>
    ⟨s.outputSound_iff.mpr ⟨hfilm, hdrives, hcounts⟩, htables, hbegun⟩⟩
  obtain ⟨hfilm, hdrives, hcounts⟩ := s.outputSound_iff.mp h.output
  exact ⟨hfilm, h.tables, hdrives, hcounts, h.begun⟩

theorem State.follows.tablesInRange {s t : State} (h : s.follows t) (hs : s.tablesInRange) : t.tablesInRange :=
  State.tablesInRange_of_sub hs h.old

/-- What the invariant reads besides the image codes. -/
structure OutputCore where
  gate : GateCycle
  magazine : Magazine
  entries : List Entry
  resetLow : Bool

def State.outputCore (s : State) : OutputCore := ⟨s.gc.gate, s.gc.magazine, s.fq.entries, s.pins.resetLow⟩

theorem State.OutputInvariant.of_core {s t : State} (h : s.OutputInvariant) (hcore : t.outputCore = s.outputCore)
    (himages : s.imagesFrom t) : t.OutputInvariant := by
  have hgate : s.GateKept t := ⟨congrArg OutputCore.gate hcore, congrArg OutputCore.magazine hcore⟩
  have hentries : t.fq.entries = s.fq.entries := congrArg OutputCore.entries hcore
  have hreset : t.pins.resetLow = s.pins.resetLow := congrArg OutputCore.resetLow hcore
  refine ⟨(hgate.outputKept himages).1 h.output, ?_, fun hrun x hx => ?_⟩
  · unfold State.tablesInRange
    rw [hentries]
    exact h.tables
  · rw [hgate.exposure?] at hx
    have hheight : t.frameHeight = s.frameHeight := by
      unfold State.frameHeight State.exposingEntry? State.isExposing State.head?
      rw [hgate.exposure?, hentries]
    rw [State.lineDue, hheight]
    exact h.begun (hreset ▸ hrun) x hx

/-- A change of the film in the gate while nothing is exposed. -/
theorem State.OutputInvariant.withGc {s : State} (h : s.OutputInvariant) (hx : s.exposure? = none) (v : GateController)
    (hfilm : (s.withGc v).filmLoaded) (hended : (s.withGc v).exposure? = none) : (s.withGc v).OutputInvariant :=
  ⟨.of_ended hfilm hended (h.output.off hx), h.tables, State.lineBegun_of_ended hended⟩

/-- An operation on other blocks. -/
theorem State.OutputInvariant.of_lcu {s t : State} (h : s.OutputInvariant) (hcore : t.outputCore = s.outputCore)
    (hlcu : t.lcu = s.lcu) : t.OutputInvariant := h.of_core hcore (State.imagesFrom_of_lcu hlcu)

/-- An event ends. -/
theorem State.OutputInvariant.settle (b : State) {s : State} (h : s.OutputSound) (htables : s.tablesInRange) :
    (State.settle b s).OutputInvariant := by
  refine ⟨(State.settle_outputKept b s).1 h, (State.settle_follows b s).tablesInRange htables,
    State.quiesce_lineBegun ?_⟩
  have hstarted := (State.startIfDue_follows b s).tablesInRange htables
  unfold State.tablesInRange
  rw [State.recordsEnd_fq]
  exact hstarted

/-- An event that leaves the entries and ends. -/
theorem State.OutputInvariant.settle_kept {s t : State} (h : s.OutputInvariant) (hkept : s.outputKept t)
    (hfollows : s.follows t) : (State.settle s t).OutputInvariant :=
  .settle s (hkept.1 h.output) (hfollows.tablesInRange h.tables)

theorem State.OutputInvariant.abort {s : State} (h : s.OutputInvariant) (r : SpoilReason) :
    (s.abort r).OutputInvariant :=
  ⟨(s.abort_outputKept r).1 h.output, (s.abort_follows r).tablesInRange h.tables,
    State.lineBegun_of_ended (s.abort_exposure? r)⟩

theorem State.OutputInvariant.raise {s : State} (h : s.OutputInvariant) (e : Event) : (s.raise e).OutputInvariant :=
  h.of_lcu rfl rfl

theorem State.OutputInvariant.withRm {s : State} (h : s.OutputInvariant) (v : ReelMap) : (s.withRm v).OutputInvariant :=
  h.of_lcu rfl rfl

theorem State.OutputInvariant.channelsOff {s : State} (h : s.OutputInvariant) : s.channelsOff.OutputInvariant :=
  h.of_core rfl s.channelsOff_outputKept.2

theorem State.OutputInvariant.haltScanner {s : State} (h : s.OutputInvariant) : s.haltScanner.OutputInvariant := by
  have hstopped : s.stopScanner.OutputInvariant := State.OutputInvariant.channelsOff (h.of_lcu rfl rfl)
  unfold State.haltScanner
  split
  all_goals first | exact hstopped | exact h.channelsOff

/-- R166. -/
theorem State.OutputInvariant.halt {s : State} (h : s.OutputInvariant) : s.halt.OutputInvariant := by
  unfold State.halt
  split
  · exact h
  · have hflag : ((s.abort .eStop).withGc { (s.abort .eStop).gc with halted := true }).OutputInvariant :=
      (h.abort .eStop).of_lcu rfl rfl
    exact hflag.haltScanner.raise .halt

/-- R117. -/
theorem State.OutputInvariant.loseLock {s : State} (h : s.OutputInvariant) : s.loseLock.OutputInvariant := by
  have hlost (v : ScanTiming) : ((s.withStu v).raise .scanner).OutputInvariant := h.of_lcu rfl rfl
  exact (hlost _).abort .lockLost

theorem State.OutputInvariant.takeIndex {s : State} (h : s.OutputInvariant) : s.takeIndex.OutputInvariant := by
  have hcounter : (s.withStu { s.stu with facet := some 0 }).OutputInvariant := h.of_lcu rfl rfl
  unfold State.takeIndex
  dsimp only
  repeat' split
  · exact hcounter
  · exact h.of_lcu rfl rfl
  · exact hcounter.loseLock
  all_goals exact h

theorem State.OutputInvariant.missMark {s : State} (h : s.OutputInvariant) : s.missMark.OutputInvariant := by
  have hmissed : (s.withStu { s.stu with facet := none, missing := .stopped }).OutputInvariant := h.of_lcu rfl rfl
  unfold State.missMark
  dsimp only
  split
  · exact h.of_lcu rfl rfl
  · exact hmissed.loseLock
  all_goals exact hmissed

end Sys2Proof.Machine
end

section
/-! ## The settling of O57 -/

namespace Sys2Proof.Machine
/-! ### Messages -/

theorem decisionOf_outputCore {c : Instr} {d : State → Decision} (hc : apartFromMemory c = true)
    (hd : decisionOf c = some d) (s : State) :
    (d s).state.outputCore = s.outputCore ∧ s.imagesFrom (d s).state := by
  have stands {t : State} (hcore : t.outputCore = s.outputCore) (hlcu : t.lcu = s.lcu) :
      t.outputCore = s.outputCore ∧ s.imagesFrom t := ⟨hcore, State.imagesFrom_of_lcu hlcu⟩
  have hidle (t : State) : t.updateIdle.outputCore = t.outputCore ∧ t.updateIdle.lcu = t.lcu := by
    obtain ⟨i, h⟩ := t.updateIdle_shape
    rw [h]
    exact ⟨rfl, rfl⟩
  cases c <;> simp only [apartFromMemory, Bool.false_eq_true] at hc <;> cases hd
  case bindAttn => unfold decideBindAttn; repeat' split
                   all_goals exact stands rfl rfl
  case unbind => unfold decideUnbind; repeat' split
                 all_goals exact stands rfl rfl
  case setMask | ackEvents | forceEvent => unfold decideOwner; dsimp only; repeat' split
                                           all_goals exact stands rfl rfl
  case beginSet => unfold decideBeginSet; repeat' split
                   all_goals exact stands rfl rfl
  case writeTable => unfold decideWriteTable; dsimp only; repeat' split
                     all_goals exact stands rfl rfl
  case publishSet => unfold decidePublishSet; repeat' split
                     all_goals exact stands rfl rfl
  case freeSet => unfold decideFreeSet; repeat' split
                  all_goals exact stands rfl rfl
  case setTrim => unfold decideSetTrim; repeat' split
                  all_goals exact stands rfl rfl
  case writeOptics => unfold decideWriteOptics; dsimp only; repeat' split
                      all_goals exact stands rfl rfl
  case wake => unfold decideWake State.restartIdle; repeat' split
               all_goals exact stands rfl rfl
  case setParam =>
    have hstore (p : ScannerParam) (v : Nat) :
        (s.storeScanner p v).outputCore = s.outputCore ∧ s.imagesFrom (s.storeScanner p v) := by
      unfold State.storeScanner; dsimp only
      split
      · obtain ⟨hcore, hlcu⟩ := hidle ((s.withStu { s.stu with settings := s.stu.settings.store p v }).withStu
          { (s.withStu { s.stu with settings := s.stu.settings.store p v }).stu with idle := .stopped })
        exact stands hcore hlcu
      · exact stands rfl rfl
    unfold decideSetParam; repeat' split
    any_goals exact stands rfl rfl
    exact hstore _ _
  case setParamLaser =>
    unfold decideSetParamLaser; dsimp only; repeat' split
    any_goals exact stands rfl rfl
    exact ⟨rfl, (State.mapLaser_outputKept _ _ _ (.inl rfl)).2⟩
  case scannerReset =>
    have hreset : s.resetScanner.outputCore = s.outputCore ∧ s.imagesFrom s.resetScanner := by
      unfold State.resetScanner
      obtain ⟨v, hwake, -⟩ := ((s.withStu { s.stu with
        scanner := .stopped, facet := none, acq := 0, badRun := 0, lastPeriod := none }).channelsOff).wakeIfDue_shape
      rw [hwake]
      exact ⟨rfl, s.channelsOff_outputKept.2⟩
    unfold decideScannerReset; repeat' split
    any_goals exact stands rfl rfl
    exact hreset
  case laserReset =>
    have hreset (t : LaserTarget) : s.imagesFrom (s.resetLasers t) := fun c => by
      have hchannel : (s.resetLasers t).image c = (if laserNamed t s.lcu c then
          (s.lcu.get c).reset (s.isLocked && !s.gc.halted) else s.lcu.get c).sweep.image := by cases c <;> rfl
      rw [hchannel]
      unfold LaserUnit.reset
      repeat' split
      · exact .inr rfl
      · exact .inr rfl
      · exact .inl rfl
    unfold decideLaserReset; repeat' split
    any_goals exact stands rfl rfl
    exact ⟨rfl, hreset _⟩
  case hold =>
    unfold decideHold; repeat' split
    any_goals exact stands rfl rfl
    obtain ⟨au, hadd, -⟩ := s.addHeld_spec .operator
    dsimp only [accept]
    rw [hadd]
    exact stands rfl rfl
  case unknownKindMessage => exact stands rfl rfl

theorem State.OutputInvariant.submit {s : State} (h : s.OutputInvariant) {a : Addr} {f : Submission} (hp : f.proper)
    (hvalid : f.valid = true) (hleave : (newEntry s.fq.serial a f).leaving = false) :
    (s.submit a f).OutputInvariant := by
  obtain ⟨st, c, p, m, pa, pb, cs, hjoin, -⟩ := s.joinQueue_shape a f hleave
  obtain ⟨v, hwake, -⟩ := s.enlisted_shape a f (hp.1 _ _)
  have hfilm : (s.enlisted a f).film = s.film := by rw [hwake, hjoin]; rfl
  have hlcu : (s.enlisted a f).lcu = s.lcu := by rw [hwake, hjoin]
  have htables : (s.enlisted a f).tablesInRange := by
    rw [hwake]
    exact State.joinQueue_tables h.tables hp hvalid hleave
  exact .settle s ((State.outputKept_of_film hfilm hlcu).1 h.output) htables

theorem decideSubmit_outputInvariant {s : State} (h : s.OutputInvariant) (allowed : Bool) (sender : Addr)
    (a : Option Submission) (hp : ∀ f, a = some f → f.proper ∧ ∀ n, (newEntry n sender f).leaving = false) :
    (decideSubmit allowed sender a s).state.OutputInvariant := by
  unfold decideSubmit; repeat' split
  any_goals exact h
  next f _ hpass =>
    obtain ⟨hproper, hleave⟩ := hp f rfl
    exact h.submit hproper (submissionFailure_eq_none hpass).2.1 (hleave _)

/-- R152: without a LOADED magazine there is no film in the gate. -/
theorem State.OutputInvariant.gate_of_unloaded {s : State} (h : s.OutputInvariant) (hmag : s.loadedTag? = none) :
    s.gc.gate = .noFilm := by
  by_contra hne
  have := h.output.film hne
  rw [hmag] at this
  cases this

theorem State.exposure?_of_noFilm {s : State} (h : s.gc.gate = .noFilm) : s.exposure? = none := by
  rw [State.exposure?, h]

theorem decideMagLoad_outputInvariant {s : State} (h : s.OutputInvariant) (role : Role) (payload : List Byte) :
    (decideMagLoad role payload s).state.OutputInvariant := by
  have htake (t : MagazineTag) (habsent : s.gc.magazine = .absent) : (s.takeMagazine t).OutputInvariant := by
    have hgate := h.gate_of_unloaded (by rw [State.loadedTag?, habsent])
    have hended := State.exposure?_of_noFilm hgate
    have hloaded : (s.loadMagazine t).OutputInvariant :=
      (h.withGc hended { s.gc with magazine := .loaded t, gate := .advancing, expected := 0, advance := 0 }
        (fun _ => rfl) rfl).withRm _
    have hheld : (s.holdMagazine t).OutputInvariant := h.withGc hended _ (fun hne => absurd hgate hne) hended
    unfold State.takeMagazine
    refine State.OutputInvariant.raise ?_ .magazine
    split
    · exact hloaded
    · exact hheld
  unfold decideMagLoad; dsimp only; repeat' split
  any_goals exact h
  next habsent => exact htake _ habsent

theorem decideMagUnload_outputInvariant {s : State} (h : s.OutputInvariant) (role : Role) (payload : Payload Unit) :
    (decideMagUnload role payload s).state.OutputInvariant := by
  have hunload : s.unloadMagazine.OutputInvariant := by
    unfold State.unloadMagazine
    split
    · exact h
    next tag hheld =>
      have hgate := h.gate_of_unloaded (by rw [State.loadedTag?, hheld])
      have hended := State.exposure?_of_noFilm hgate
      exact (h.withGc hended { s.gc with magazine := .absent } (fun hne => absurd hgate hne) hended).raise .magazine
    · exact (((h.abort .magRemoved).withGc (s.abort_exposure? .magRemoved)
        { (s.abort .magRemoved).gc with magazine := .absent, gate := .noFilm, advance := 0 }
        (fun hne => absurd rfl hne) rfl).withRm _).raise .magazine
  unfold decideMagUnload; repeat' split
  any_goals exact h
  exact hunload

/-- R154: the film registered is that of a LOADED magazine. -/
theorem State.OutputInvariant.registerFilm {s : State} (h : s.OutputInvariant) (hfilm : s.gc.gate ≠ .noFilm)
    (hx : s.exposure? = none) (q : Nat) : (s.registerFilm q).OutputInvariant := by
  have hunknown := State.appendUnknown_gateKept (q - s.gc.expected) s
  have hoff : (s.appendUnknown (q - s.gc.expected)).imagesOff :=
    (State.imagesFrom_of_lcu (State.appendUnknown_lcu _ _)).off (h.output.off hx)
  have htables := (State.appendUnknown_follows (q - s.gc.expected) s).tablesInRange h.tables
  refine .settle s (.of_ended (fun _ => ?_) rfl hoff) htables
  have hloaded := h.output.film hfilm
  unfold State.loadedTag? at hloaded ⊢
  rwa [State.withGc_gc, hunknown.magazine]

theorem decideGateReady_outputInvariant {s : State} (h : s.OutputInvariant) (role : Role) (payload : Payload Nat) :
    (decideGateReady role payload s).state.OutputInvariant := by
  have hposition (q : Nat) (hfilm : s.gc.gate ≠ .noFilm) (hx : s.exposure? = none) :
      (decidePosition q s).state.OutputInvariant := by
    unfold decidePosition; repeat' split
    · exact h.raise .gate
    · exact h
    · exact h.registerFilm hfilm hx q
  unfold decideGateReady; repeat' split
  any_goals exact h
  all_goals
    next hgate => exact hposition _ (by simp [hgate]) (by rw [State.exposure?, hgate])

theorem decideGateFault_outputInvariant {s : State} (h : s.OutputInvariant) (role : Role) (payload : Payload Unit) :
    (decideGateFault role payload s).state.OutputInvariant := by
  have hfault (hfilm : s.gc.gate ≠ .noFilm) (hx : s.exposure? = none) :
      ((s.withGate .fault).raise .gate).OutputInvariant :=
    (h.withGc hx { s.gc with gate := .fault } (fun _ => h.output.film hfilm) rfl).raise .gate
  unfold decideGateFault; repeat' split
  any_goals exact h
  · exact (h.abort .gateFault).raise .gate
  all_goals
    next hgate => exact hfault (by simp [hgate]) (by rw [State.exposure?, hgate])

theorem decideNamed_outputInvariant {α : Type} {s : State} (h : s.OutputInvariant) (sender : Addr)
    (submitter : α → Option Nat) (payload : NamedPayload α Nat) (take : α → Nat → Decision)
    (htake : ∀ a n, (take a n).state.OutputInvariant) :
    (decideNamed sender submitter payload take s).state.OutputInvariant := by
  unfold decideNamed; dsimp only; repeat' split
  any_goals exact h
  exact htake _ _

theorem decideCancel_outputInvariant {s : State} (h : s.OutputInvariant) (sender : Addr)
    (payload : NamedPayload CancelArgs Nat) : (decideCancel sender payload s).state.OutputInvariant := by
  refine decideNamed_outputInvariant h _ _ _ _ fun a n => ?_
  split
  · exact h
  next e hfind =>
    split
    · exact h.settle_kept (State.outputKept_of_film (s.cancelEntry_film e) (s.cancelEntry_lcu e))
        (s.cancelEntry_follows hfind)
    · exact h

theorem decideFlush_outputInvariant {s : State} (h : s.OutputInvariant) (sender : Addr)
    (payload : NamedPayload (Option Nat) Nat) : (decideFlush sender payload s).state.OutputInvariant :=
  decideNamed_outputInvariant h _ _ _ _ fun _ _ =>
    h.settle_kept (State.outputKept_of_film (State.cancelAll_film _ _) (State.cancelAll_lcu _ _))
      (State.cancelAll_follows _ s)

/-- R193: after the abort the queue is emptied, and nothing of the film or the outputs changes. -/
theorem State.OutputInvariant.recorderReset {s : State} (h : s.OutputInvariant) : s.recorderReset.OutputInvariant := by
  have hreader : (s.withSr .afterReset).OutputInvariant := h.of_lcu rfl rfl
  have haborted := hreader.abort .reset
  have hended := (s.withSr .afterReset).abort_exposure? .reset
  obtain ⟨cs, hflush⟩ := ((s.withSr .afterReset).abort .reset).flushQueue_shape
  obtain ⟨i, hidle⟩ := (((s.withSr .afterReset).abort .reset).flushQueue.clearLatched).updateIdle_shape
  unfold State.recorderReset
  rw [hidle, hflush]
  exact ⟨.of_ended haborted.output.film hended (haborted.output.off hended), fun e he => (nomatch he),
    State.lineBegun_of_ended hended⟩

theorem State.OutputInvariant.resume {s : State} (h : s.OutputInvariant) : s.resume.OutputInvariant := by
  unfold State.resume
  split
  · have hcleared : s.GateKept (s.withGc { s.gc with halted := false }) := ⟨rfl, rfl⟩
    exact h.settle_kept ((hcleared.outputKept (State.imagesFrom_of_lcu rfl)).trans
      (State.outputKept_of_film (State.wakeIfDue_film _) (State.wakeIfDue_lcu _)))
      (State.follows_of_core (State.wakeIfDue_writeCore (s.withGc { s.gc with halted := false })))
  · exact h

/-- The messages about the queue, the film and the part as a whole. -/
theorem decisionOf_outputInvariant_of_action {c : Instr} {d : State → Decision} (hq : c.isQuery = false)
    (hc : apartFromMemory c = false) (hd : decisionOf c = some d) {s : State} (h : s.OutputInvariant) :
    (d s).state.OutputInvariant := by
  cases c <;> simp only [Instr.isQuery, apartFromMemory, Bool.true_eq_false] at hq hc <;> cases hd
  case magLoad => exact decideMagLoad_outputInvariant h _ _
  case magUnload => exact decideMagUnload_outputInvariant h _ _
  case gateReady => exact decideGateReady_outputInvariant h _ _
  case gateFault => exact decideGateFault_outputInvariant h _ _
  case abortFrame =>
    unfold decideAbortFrame; repeat' split
    any_goals exact h
    exact h.abort .aborted
  case submitStored =>
    refine decideSubmit_outputInvariant h _ _ _ fun f hf => ?_
    obtain ⟨a, -, rfl⟩ := Option.map_eq_some_iff.mp hf
    exact ⟨storedSubmission_proper a, fun _ => rfl⟩
  case submitFlat =>
    refine decideSubmit_outputInvariant h _ _ _ fun f hf => ?_
    obtain ⟨a, -, rfl⟩ := Option.map_eq_some_iff.mp hf
    exact ⟨flatSubmission_proper a, fun _ => rfl⟩
  case submitRunout =>
    refine decideSubmit_outputInvariant h _ _ _ fun f hf => ?_
    obtain ⟨a, -, rfl⟩ := Option.map_eq_some_iff.mp hf
    exact ⟨runoutSubmission_proper a, fun _ => rfl⟩
  case cancel => exact decideCancel_outputInvariant h _ _
  case flush => exact decideFlush_outputInvariant h _ _
  case release =>
    unfold decideRelease; repeat' split
    any_goals exact h
    exact h.settle_kept (State.outputKept_of_film rfl rfl) (State.follows_of_core rfl)
  case eStop =>
    unfold decideEStop; repeat' split
    any_goals exact h
    exact h.halt
  case recorderReset =>
    unfold decideRecorderReset; repeat' split
    any_goals exact h
    exact h.recorderReset
  case resume =>
    unfold decideResume; repeat' split
    any_goals exact h
    exact h.resume

/-- Whatever an owning block decides of a message keeps the outputs. -/
theorem decisionOf_outputInvariant {c : Instr} {d : State → Decision} (hd : decisionOf c = some d) {s : State}
    (h : s.OutputInvariant) : (d s).state.OutputInvariant := by
  cases hq : c.isQuery with
  | true =>
    obtain ⟨n, hfree, -⟩ := decisionOf_query hq hd s
    rw [show (d s).state = { s with free := n } from hfree]
    exact h.of_lcu rfl rfl
  | false =>
    cases hapart : apartFromMemory c with
    | true =>
      obtain ⟨hcore, himages⟩ := decisionOf_outputCore hapart hd s
      exact h.of_core hcore himages
    | false => exact decisionOf_outputInvariant_of_action hq hapart hd h

/-- Reception adds only the reply to what the decision makes of the state. -/
theorem onMessage_outputInvariant {c : Instr} {a : Addr} {k : Byte} {d : State → Decision} {s t : State}
    (h : s.OutputInvariant) (hd : (d s).state.OutputInvariant) (ht : onMessage c a k d s = .next t) :
    t.OutputInvariant := by
  unfold onMessage at ht
  split at ht
  · split at ht <;> cases ht
    · exact hd.of_lcu rfl rfl
    · exact h.of_lcu rfl rfl
  · cases ht; exact h

/-- A message addressed to the part keeps the outputs. -/
theorem exec_message_outputInvariant {c : Instr} {a : Addr} (ha : c.sender? = some a) {s t : State}
    (h : s.OutputInvariant) (ht : exec c s = .next t) : t.OutputInvariant := by
  obtain ⟨k, d, hk, hd⟩ := decisionOf_isSome c a ha
  by_cases hu : ∃ b code, c = .unknownKindMessage b code ∧ kindCodes.contains code = true
  · obtain ⟨b, code, rfl, hcode⟩ := hu
    simp only [exec, execUnknownKindMessage, hcode, if_true, Host.Outcome.next.injEq] at ht
    exact ht ▸ h
  · rw [exec_message c a k d s ha hk hd fun b code hc => by simpa using fun hcode => hu ⟨b, code, hc, hcode⟩] at ht
    exact onMessage_outputInvariant h (decisionOf_outputInvariant hd h) ht

/-! ### Completions -/

theorem State.freeChannel_outputKept (s : State) : s.outputKept s.freeChannel :=
  State.outputKept_of_film s.freeChannel_film s.freeChannel_lcu

theorem State.OutputInvariant.stagingReadDone {s : State} (h : s.OutputInvariant) :
    s.stagingReadDone.OutputInvariant := by
  unfold State.stagingReadDone
  split
  next hread _ =>
    exact h.settle_kept (s.freeChannel_outputKept.trans (State.outputKept_of_film (State.walk_film ..) (State.walk_lcu ..)))
      ((s.freeChannel_follows (ReadChannel.mark?_of_staging (by rw [hread]; rfl))).trans (State.walk_follows ..))
  · exact h

/-- R61, R62: the line in production stays the line in production. -/
theorem State.fetchBytes_outputKept (s : State) (e : Entry) (f : LineFetch) (bytes : List Byte) :
    s.outputKept (s.fetchBytes e f bytes) := by
  have hover (flipH : Bool) (g : LineFetch) : s.outputKept (s.handOver flipH g) := by
    refine (State.outputKept_of_film rfl rfl : s.outputKept (s.withSr { s.sr with fetch := none })).trans
      (State.mapExposure_outputKept _ _ (fun _ => rfl) fun x _ hx => ⟨?_, hx.steps, hx.codes⟩)
    have hroom := hx.room
    simpa using hroom
  unfold State.fetchBytes
  dsimp only
  repeat' split
  · exact hover _ _
  · exact State.outputKept_of_film rfl rfl
  · exact s.outputKept_refl
  · exact s.outputKept_refl

theorem State.OutputInvariant.fetchReadDone {s : State} (h : s.OutputInvariant) : s.fetchReadDone.OutputInvariant := by
  unfold State.fetchReadDone
  split
  next hread _ _ =>
    exact h.settle_kept (s.freeChannel_outputKept.trans (State.fetchBytes_outputKept ..))
      ((s.freeChannel_follows (ReadChannel.mark?_of_fetch (by rw [hread]; rfl))).of_core (State.fetchBytes_writeCore ..))
  · exact h

theorem State.endWriteBack_tables {s : State} (h : s.tablesInRange) : s.endWriteBack.tablesInRange := by
  obtain ⟨r, _, _, es, hr, -, hes, hrest⟩ := s.endWriteBack_follows
  refine hrest.tablesInRange (State.tablesInRange_of_sub h fun c hc => hes c ?_)
  have hentries : r.queueCore.entries = es := congrArg WriteCore.entries hr
  exact hentries ▸ hc

theorem State.OutputInvariant.markingDone {s : State} (h : s.OutputInvariant) : s.markingDone.OutputInvariant := by
  have hfreed := s.freeChannel_outputKept.1 h.output
  have htables := State.freeChannel_tables h.tables
  unfold State.markingDone
  split
  · refine .settle s ?_ ?_ <;> split
    · exact (State.outputKept_of_film (State.endWriteBack_film _) (State.endWriteBack_lcu _)).1 hfreed
    · exact hfreed
    · exact State.endWriteBack_tables htables
    · exact htables
  · exact h

/-- R69, R80: a computed line leaves production for the FIFO, with codes within the limits latched for the frame. -/
theorem Exposure.Sound.enter {x : Exposure} (h : x.Sound) {l : LineProduction} (hl : x.line = some l)
    (content : SetContent) (optics : Optics) (facets width : Nat) (src : LineSource) :
    (x.enter (lineRecord l.y l.clips (computeLine content x.ctx optics facets width l.y src))).Sound := by
  have hroom := h.room
  rw [hl] at hroom
  refine ⟨by simpa [Exposure.enter] using hroom, h.steps, fun r hr c => ?_⟩
  rcases List.mem_append.mp hr with hr | hr
  · exact h.codes r hr c
  · obtain rfl := List.mem_singleton.mp hr
    exact lineRecord_codesWithin _ _ _ _ _ _ _ _ c

theorem State.OutputInvariant.lineDone {s : State} (h : s.OutputInvariant) : s.lineDone.OutputInvariant := by
  unfold State.lineDone
  split
  · exact h
  next x hx =>
    split
    next l i content hl _ _ =>
      split
      · refine h.settle_kept (s.mapExposure_outputKept _ (fun _ => rfl) fun y hy hsound => ?_)
          (State.follows_of_core (s.mapExposure_writeCore _))
        obtain rfl : x = y := Option.some.inj (hx.symm.trans hy)
        exact hsound.enter hl ..
      · exact h
    · exact h

/-! ### The other events -/

theorem whenRunning_outputInvariant {f : State → State} {s t : State} (h : s.OutputInvariant)
    (hf : (f s).OutputInvariant) (ht : whenRunning f s = .next t) : t.OutputInvariant := by
  unfold whenRunning at ht
  split at ht <;> cases ht
  · exact h
  · exact hf

theorem State.OutputInvariant.takeMark {s : State} (h : s.OutputInvariant) (ticks : Nat) (samples : Rgb (BitVec 12))
    (order : MarkOrder) : (s.takeMark ticks samples order).OutputInvariant := by
  have hparts (m : MarkInput) (ps : List MarkPart) (t : State) : t.follows (ps.foldl (State.markPart m) t) := by
    induction ps generalizing t with
    | nil => exact t.follows_refl
    | cons p ps ih => exact (State.markPart_follows m t p).trans (ih _)
  exact ⟨State.takeMark_outputSound h.output ticks samples order,
    (s.takeMark_follows ticks samples order).tablesInRange h.tables,
    State.quiesce_lineBegun (((hparts _ _ s.newSweep).trans (State.markLine_follows _ _)).tablesInRange
      (s := s.newSweep) h.tables)⟩

/-- R205: the assertion of RESET_N darkens the outputs and drops the line in production; what is left due then begins
at no event of the part. -/
theorem State.OutputInvariant.hardReset {s : State} (h : s.OutputInvariant) :
    ((s.dropDrives.endOperations.silenceBus).withPins { s.pins with resetLow := true }).OutputInvariant := by
  have hdropped := s.dropDrives_outputKept.1 h.output
  have hcut : s.dropDrives.outputKept ((s.dropDrives.withSr
      { s.dropDrives.sr with staging := none, fetch := none, channel := .idle }).withPort
      { s.dropDrives.port with waiting := none }) := State.outputKept_of_film rfl rfl
  have hended : s.dropDrives.endOperations.OutputSound := (hcut.trans
    (State.mapExposure_outputKept _ (fun x => { x with line := none }) (fun _ => rfl) fun _ _ hx => hx.dropped)).1 hdropped
  have hsilent : s.dropDrives.endOperations.outputKept
      ((s.dropDrives.endOperations.silenceBus).withPins { s.pins with resetLow := true }) :=
    State.outputKept_of_film rfl rfl
  have hcore : s.dropDrives.endOperations.queueCore = s.queueCore := by simp [State.endOperations]
  refine ⟨hsilent.1 hended, State.tablesInRange_of_sub h.tables fun c hc => ?_, fun hrun => nomatch hrun⟩
  rwa [← hcore]

theorem State.afterHardReset_outputInvariant (s1 s0 estopLow : Bool) (epoch lstep free : Nat) (pending : List Instr) :
    (State.afterHardReset s1 s0 estopLow epoch lstep free pending).OutputInvariant :=
  ⟨.of_ended (fun h => absurd rfl h) rfl fun c => by cases c <;> rfl, fun e he => (nomatch he),
    State.lineBegun_of_ended rfl⟩

/-- A command that is no message addressed to the part keeps the outputs. -/
theorem exec_event_outputInvariant {c : Instr} (hc : c.sender? = none) {s t : State} (h : s.OutputInvariant)
    (ht : exec c s = .next t) : t.OutputInvariant := by
  have awaits : s.awaitIdle.OutputInvariant := h.of_lcu rfl rfl
  have ends : s.endTenure.OutputInvariant := h.of_lcu rfl rfl
  cases c <;> simp only [Instr.sender?, reduceCtorEq] at hc
  case broadcastMessage sender kind =>
    have hcast : (s.takeBroadcast sender kind).OutputInvariant := by
      unfold State.takeBroadcast
      split
      · exact h.halt
      · exact h
    simp only [exec, execBroadcastMessage] at ht
    split at ht
    · split at ht <;> cases ht
      · exact hcast.of_lcu rfl rfl
      · exact awaits
    · cases ht; exact h
  case frameDiscard frame =>
    simp only [exec, execFrameDiscard] at ht
    split at ht <;> cases ht
    · exact awaits
    · exact h
  case frameIgnored a b =>
    simp only [exec, execFrameIgnored] at ht
    split at ht <;> cases ht
    · exact awaits
    · exact h
  case replyCollision =>
    simp only [exec, execReplyCollision] at ht
    split at ht <;> cases ht
    · exact ends
    · exact h
  case replyEnd =>
    simp only [exec, execReplyEnd] at ht
    split at ht <;> cases ht
    · exact ends
    · exact h
  case portWrite offset bytes =>
    simp only [exec, execPortWrite] at ht
    split at ht <;> cases ht
    · unfold State.takeWrite
      split <;> exact h.of_lcu rfl rfl
    · exact h
  case portRead offset request =>
    simp only [exec, execPortRead] at ht
    split at ht <;> cases ht
    · unfold State.takeRead State.serveWaiting; dsimp only
      repeat' split
      all_goals exact h.of_lcu rfl rfl
    · exact h
  case pcieLinkUp =>
    simp only [exec, execPcieLinkUp] at ht
    split at ht <;> cases ht
    · exact h
    · exact h.of_lcu rfl rfl
  case deckBusIdle =>
    exact whenRunning_outputInvariant (f := fun s => s.withDbi { s.dbi with waitIdle := false }) h (h.of_lcu rfl rfl) ht
  case startOfScanMark ticks samples order =>
    refine whenRunning_outputInvariant h ?_ ht
    split
    · exact h.takeMark ticks samples order
    · exact h
  case indexPulse =>
    refine whenRunning_outputInvariant h ?_ ht
    split
    · exact h.takeIndex
    · exact h
  case spinUpTimerExpiry =>
    have hfault (v : ScanTiming) : ((s.withStu v).raise .scanner).OutputInvariant := h.of_lcu rfl rfl
    refine whenRunning_outputInvariant h ?_ ht
    split
    · exact (hfault _).channelsOff
    · exact h
  case missingMarkTimerExpiry =>
    refine whenRunning_outputInvariant h ?_ ht
    split
    · exact h.missMark
    · exact h
  case idleTimerExpiry =>
    have hstopped (v : ScanTiming) : (s.withStu v).OutputInvariant := h.of_lcu rfl rfl
    refine whenRunning_outputInvariant h ?_ ht
    split
    · exact (hstopped _).channelsOff.raise .standby
    · exact h
  case estopNAsserted =>
    have hlevel : (s.withEstop true).OutputInvariant := h.of_lcu rfl rfl
    simp only [exec, execEstopNAsserted] at ht
    split at ht <;> cases ht
    · exact hlevel
    · exact hlevel.halt
  case estopNDeasserted => cases ht; exact h.of_lcu rfl rfl
  case hardReset => cases ht; exact h.hardReset
  case hardResetEnd s1 s0 => cases ht; exact State.afterHardReset_outputInvariant ..
  case stagingRead => exact whenRunning_outputInvariant h h.stagingReadDone ht
  case lineFetchRead => exact whenRunning_outputInvariant h h.fetchReadDone ht
  case writeBackMarking => exact whenRunning_outputInvariant h h.markingDone ht
  case lineComputed => exact whenRunning_outputInvariant h h.lineDone ht

theorem exec_outputInvariant {c : Instr} {s t : State} (h : s.OutputInvariant) (ht : exec c s = .next t) :
    t.OutputInvariant := by
  cases hc : c.sender? with
  | some a => exact exec_message_outputInvariant hc h ht
  | none => exact exec_event_outputInvariant hc h ht

theorem step_outputInvariant {s t : State} (h : s.OutputInvariant) (ht : step s = .next t) : t.OutputInvariant := by
  cases hp : s.pending with
  | nil => rw [step_nil s hp] at ht; cases ht; exact h
  | cons c rest =>
    rw [step_cons s c rest hp] at ht
    exact exec_outputInvariant (s := s.withPending rest) (h.of_lcu rfl rfl) ht

/-- Settles O57: every command keeps the outputs within the latched limits, the FIFO's place for the line in production,
and no line due. -/
theorem stepKeepsOutputInvariants : Obligations.StepKeepsOutputInvariants := fun s t h ht =>
  t.outputInvariant_iff.mp (step_outputInvariant (s.outputInvariant_iff.mpr h) ht)

end Sys2Proof.Machine
end

section
/-! ## The settling of O47 -/

namespace Sys2Proof.Machine

/-- The end of an event during an exposure may begin a line of it, and leaves the rest of it. -/
theorem State.quiesce_exposure? {s : State} {x : Exposure} (hx : s.exposure? = some x) :
    s.quiesce.exposure? = some x ∨ ∃ phase, s.quiesce.exposure? = some (x.begin phase) := by
  rw [State.exposure?_congr s.quiesce_film]
  rcases s.beginLine_cases with ⟨y, phase, hy, hfilm⟩ | ⟨hstands, -⟩
  · obtain rfl : x = y := Option.some.inj (hx.symm.trans hy)
    exact .inr ⟨phase, (State.exposure?_congr hfilm).trans (State.mapExposure_exposure? hx _)⟩
  · left
    rw [hstands]
    exact hx

/-- R69: the computation of the line in production ends, in a part that runs. -/
theorem lineComputed_running {s : State} {x : Exposure} {l : LineProduction} {src : LineSource} {e : Entry}
    {i : ImagePart} {v : SetContent} (hrun : s.pins.resetLow = false) (hx : s.exposure? = some x)
    (hl : x.line = some l) (hphase : l.phase = .computing src) (hhead : s.head? = some e) (hi : e.image? = some i)
    (hv : (s.setAt x.ctx.set).ready? = some v) : exec .lineComputed s = .next (s.mapExposure
      (·.enter (lineRecord l.y l.clips (s.lineCodes v x i.width l.y src)))).quiesce := by
  have hentry : s.exposingEntry?.bind Entry.image? = some i := by
    simp [State.exposingEntry?, State.isExposing, hx, hhead, hi]
  have hentered := State.mapExposure_exposure? hx (·.enter (lineRecord l.y l.clips (s.lineCodes v x i.width l.y src)))
  obtain ⟨g, hshape⟩ := s.mapExposure_shape (·.enter (lineRecord l.y l.clips (s.lineCodes v x i.width l.y src)))
  have hdone : s.lineDone = State.settle s (s.mapExposure
      (·.enter (lineRecord l.y l.clips (s.lineCodes v x i.width l.y src)))) := by
    unfold State.lineDone
    simp only [hx, hl, hentry, hv, hphase]
  rw [State.settle_of_startless (State.startless_of_exposure hentered) (by rw [hshape])] at hdone
  simp [exec, execLineComputed, whenRunning, hrun, hdone]

/-- Settles O47: the record that enters the FIFO is the computed line's, and the end of the event leaves it there. -/
theorem computedLineEntersFifo : Obligations.ComputedLineEntersFifo := by
  intro x l src e i v s hrun hx hl hphase hhead hi hv code
  have hexec := lineComputed_running hrun hx hl hphase hhead hi hv
  generalize hr : lineRecord l.y l.clips (s.lineCodes v x i.width l.y src) = r at hexec
  obtain ⟨g, hshape⟩ := s.mapExposure_shape (·.enter r)
  have hcode (n : Nat) (c : Channel) :
      (computePixel v x.ctx s.optics s.stu.settings.facetCount i.width l.y src n).get c = code n c :=
    computePixel_get ..
  have hcodes : r.codes = (List.range i.width).map fun n =>
      (computePixel v x.ctx s.optics s.stu.settings.facetCount i.width l.y src n).map Prod.fst := by
    rw [← hr]
    exact lineRecord_codes ..
  have hentered : ∃ x', (s.mapExposure (·.enter r)).quiesce.exposure? = some x' ∧ x'.fifo = x.fifo ++ [r] ∧
      x'.entered = x.entered + 1 ∧ x'.out = x.out ∧ x'.ctx = x.ctx ∧ x'.clips = x.clips := by
    rcases State.quiesce_exposure? (State.mapExposure_exposure? hx (·.enter r)) with hx' | ⟨phase, hx'⟩
    · exact ⟨_, hx', rfl, rfl, rfl, rfl, rfl⟩
    · exact ⟨_, hx', rfl, rfl, rfl, rfl, rfl⟩
  obtain ⟨x', hx', hfifo, hcount, hout, hctx, hclips⟩ := hentered
  refine ⟨_, x', r, hexec, hx', hfifo, hcount, hout, hctx, hclips, by rw [← hr]; rfl, by simp [hcodes],
    fun n hn c => ?_, fun d hd c => ?_, fun c => ?_, ?_, ?_, ?_, ?_⟩
  · rw [hcodes, List.getD_eq_getElem?_getD, List.getElem?_map, List.getElem?_range hn]
    exact (Rgb.get_map ..).trans (congrArg Prod.fst (hcode n c))
  · subst hr
    exact lineRecord_codesWithin _ _ _ _ _ _ _ _ c _ (List.mem_map_of_mem hd)
  · subst hr
    simp only [← hcode]
    exact lineRecord_clips ..
  · rw [State.quiesce_rm, hshape]
  · have houter := State.quiesce_outer (s.mapExposure (·.enter r))
    rw [hshape] at houter ⊢
    exact congrArg Prod.fst houter
  · rw [State.quiesce_lcu, State.mapExposure_lcu]
  · rw [State.quiesce_pins, State.mapExposure_pins]

end Sys2Proof.Machine
end

section
/-! ## The settling of O37 -/

namespace Sys2Proof.Machine

/-- Values stored into consecutive places within a list stand there, and the other places stand as they were. -/
theorem storeRun_getD (nodes : List Nat) (place : Nat) (vs : List Nat) (hin : place + vs.length ≤ nodes.length)
    (j : Nat) : (storeRun nodes place vs).getD j 0 =
      if place ≤ j ∧ j < place + vs.length then vs.getD (j - place) 0 else nodes.getD j 0 := by
  induction vs generalizing nodes place with
  | nil =>
    rw [if_neg (by simp only [List.length_nil]; omega)]
    rfl
  | cons v vs ih =>
    simp only [List.length_cons] at hin ⊢
    unfold storeRun
    rw [ih _ _ (by rw [List.length_set]; omega)]
    by_cases hj : j = place
    · subst hj
      rw [if_neg (by omega), if_pos (by omega), List.getD_eq_getElem?_getD, List.getElem?_set_self (by omega)]
      simp
    · have hother : (nodes.set place v).getD j 0 = nodes.getD j 0 := by
        simp [List.getD_eq_getElem?_getD, List.getElem?_set_ne (Ne.symm hj)]
      rw [hother]
      by_cases hrun : place + 1 ≤ j ∧ j < place + 1 + vs.length
      · rw [if_pos hrun, if_pos (by omega), show j - place = j - (place + 1) + 1 by omega, List.getD_cons_succ]
      · rw [if_neg hrun, if_neg (by omega)]

/-- Table 4-8: the arguments in range. -/
theorem opticsValid_iff (part : OpticsPart) (first : Nat) (vs : List Word16) :
    opticsValid part first (vs.map BitVec.toNat) = true ↔
      1 ≤ vs.length ∧ vs.length ≤ 16 ∧ first + vs.length ≤ partSize part ∧
      (part = .centre → ∀ v ∈ vs, 2048 ≤ v.toNat ∧ v.toNat ≤ 6144) := by
  simp only [opticsValid, List.length_map, Bool.and_eq_true, Bool.or_eq_true, decide_eq_true_eq, List.all_map,
    List.all_eq_true, Function.comp_apply, and_assoc, ne_eq, imp_iff_not_or]

/-- R86: a list in range is stored as a run of consecutive entries of its part; the centre is a part of one entry. -/
theorem Optics.store_part (o : Optics) {part : OpticsPart} {first : Nat} {vs : List Nat} (hsome : 1 ≤ vs.length)
    (hin : first + vs.length ≤ partSize part) : (o.store part first vs).part part = storeRun (o.part part) first vs := by
  cases part with
  | facet | profile => rfl
  | centre =>
    simp only [partSize] at hin
    obtain ⟨v, rfl⟩ : ∃ v, vs = [v] := List.length_eq_one_iff.mp (by omega)
    obtain rfl : first = 0 := by simp only [List.length_singleton] at hin; omega
    rfl

theorem Optics.store_other (o : Optics) {part part' : OpticsPart} (h : part' ≠ part) (first : Nat) (vs : List Nat) :
    (o.store part first vs).part part' = o.part part' := by
  cases part with
  | facet => cases part' with
    | facet => exact absurd rfl h
    | profile | centre => rfl
  | profile => cases part' with
    | profile => exact absurd rfl h
    | facet | centre => rfl
  | centre => cases part' with
    | centre => exact absurd rfl h
    | facet | profile => rfl

theorem decideWriteOptics_named (part : OpticsPart) (first : Nat) (vs : List Word16) (s : State) :
    decideWriteOptics .calibration (.fits ⟨.named part, first, vs⟩) s =
      if opticsValid part first (vs.map BitVec.toNat) = true then
        if s.isExposing = true then refuse s .busy
        else accept (s.withOptics (s.optics.store part first (vs.map BitVec.toNat)))
          (.opticsWritten part first vs.length)
      else refuse s .arg := by
  unfold decideWriteOptics
  cases hvalid : opticsValid part first (vs.map BitVec.toNat) <;> simp [hvalid]

/-- Settles O37: ARG before BUSY, and outside an exposure the values stored as a run. -/
theorem writeOpticsStores : Obligations.WriteOpticsStores := by
  intro a part first vs s htakes hrole c size good
  have hsize : size = partSize part := by cases part <;> rfl
  have hgood : opticsValid part first (vs.map BitVec.toNat) = true ↔ good := by
    simp only [good, hsize]
    exact opticsValid_iff part first vs
  have hexec : exec c s = .next
      ((decideWriteOptics .calibration (.fits ⟨.named part, first, vs⟩) s).replied c a 0x27) := by
    rw [← hrole]
    exact onMessage_taken c a 0x27 _ s htakes
  rw [hexec, decideWriteOptics_named]
  refine ⟨fun hbad => ?_, fun hok hbusy => ?_, fun hok hidle hlength => ?_⟩
  · rw [if_neg (hgood.not.mpr hbad)]
    rfl
  · rw [if_pos (hgood.mpr hok), if_pos hbusy]
    rfl
  · have hvalid := hgood.mpr hok
    obtain ⟨hsome, -, hin, -⟩ := hok
    have hin' : first + (vs.map BitVec.toNat).length ≤ partSize part := by rwa [List.length_map, ← hsize]
    have hrun := s.optics.store_part (part := part) (first := first) (vs := vs.map BitVec.toNat)
      (by rwa [List.length_map]) hin'
    have hentry (j : Nat) := storeRun_getD (s.optics.part part) first (vs.map BitVec.toNat)
      (by rw [hlength, hsize]; exact hin') j
    rw [if_pos hvalid, if_neg (by simp [hidle])]
    refine ⟨s.optics.store part first (vs.map BitVec.toNat), rfl, fun n hn => ?_, fun j hj => ?_,
      fun part' hne => s.optics.store_other hne _ _⟩
    · rw [hrun, hentry, if_pos (by rw [List.length_map]; omega), Nat.add_sub_cancel_left]
      simp [List.getD_eq_getElem?_getD, hn]
    · rw [hrun, hentry, if_neg (by rw [List.length_map]; omega)]

end Sys2Proof.Machine
end

section
/-! ## The calibration sets: a set's record, and what each message to the store decides (R86, R87, R92 to R106)

The equation of each decision lists the tests in the manual's order. The content of a set is read by Option.elim, so
that a proof rewrites with the state the set is in. -/

namespace Sys2Proof.Machine

/-- A message that is taken is answered with the state, the status and the data its owner decides. -/
theorem exec_replies {c : Instr} {a : Addr} {k : Byte} {d : State → Decision} {s t : State} {st : Status}
    {data : ReplyData} (hc : exec c s = onMessage c a k d s) (htakes : s.takes a = true) (hd : d s = ⟨t, st, data⟩) :
    exec c s = .next (t.replying c a k st data) := by
  rw [hc, onMessage_taken c a k d s htakes, hd]
  rfl

/-! ### The record of a set -/

theorem State.setAt_eq (s : State) {id : Nat} (h : id < 8) : s.setAt id = s.cs[id] := by
  simp [State.setAt, h]

theorem State.withSet_eq (s : State) {id : Nat} (h : id < 8) (r : SetRecord) :
    s.withSet id r = { s with cs := s.cs.set id r } := by
  have hset : s.cs.setIfInBounds id r = s.cs.set id r := by
    ext j hj
    simp [Vector.getElem_setIfInBounds, Vector.getElem_set]
  rw [State.withSet, hset]
  rfl

theorem State.setState_eq (s : State) {id : Nat} (h : id < 8) (st : SetState) :
    s.setState id st = { s with cs := s.cs.set id { s.cs[id] with state := st } } := by
  rw [State.setState, s.setAt_eq h, s.withSet_eq h]

theorem SetRecord.building?_eq_none {r : SetRecord} : r.building? = none ↔ ∀ v, r.state ≠ .building v := by
  unfold SetRecord.building?
  cases r.state <;> simp

theorem SetRecord.building?_of_state {r : SetRecord} {v : SetContent} (h : r.state = .building v) :
    r.building? = some v := by
  rw [SetRecord.building?, h]

theorem SetRecord.content?_of_free {r : SetRecord} (h : r.state = .free) : r.content? = none := by
  rw [SetRecord.content?, h]

theorem SetRecord.content?_of_building {r : SetRecord} {v : SetContent} (h : r.state = .building v) :
    r.content? = some v := by
  rw [SetRecord.content?, h]

theorem SetRecord.content?_of_ready {r : SetRecord} {v : SetContent} {sum : Word16} (h : r.state = .ready v sum) :
    r.content? = some v := by
  rw [SetRecord.content?, h]

theorem not_setId (id : Nat) : (!setId id) = decide (7 < id) := by
  rw [Bool.eq_iff_iff]
  simp [setId]

/-! ### Decisions of the store -/

theorem decideBeginSet_fits (g : BeginSetArgs) (s : State) : decideBeginSet .calibration (.fits g) s =
    if 7 < g.id ∨ g.stock = 0 ∨ g.stock = 65535 then refuse s .arg
    else if (s.setAt g.id).state = .free then
      accept (s.withSet g.id ⟨.building (newContent g.stock g.note), 0⟩) (.setId g.id)
    else refuse s .state := by
  simp only [decideBeginSet, not_setId, ne_eq, not_true_eq_false, if_false, ← Bool.decide_or, decide_eq_true_eq]
  cases (s.setAt g.id).state <;> rfl

theorem decideWriteTable_unknown (id start : Nat) (vs : List Word16) (s : State) :
    decideWriteTable .calibration (.fits ⟨id, .unknown, start, vs⟩) s = refuse s .arg := rfl

theorem decideWriteTable_named (id start : Nat) (t : TableName) (vs : List Word16) (s : State) :
    decideWriteTable .calibration (.fits ⟨id, .named t, start, vs⟩) s =
      if 7 < id ∨ vs = [] ∨ 22 < vs.length ∨ nodeCount t < start + vs.length then refuse s .arg
      else (s.setAt id).building?.elim (refuse s .state) fun v =>
        accept (s.setState id (.building (v.storeNodes t start (vs.map BitVec.toNat))))
          (.tableWritten t start vs.length (clampCount t (vs.map BitVec.toNat))) := by
  simp only [decideWriteTable, not_setId, ne_eq, not_true_eq_false, if_false, ← Bool.decide_or, decide_eq_true_eq,
    List.length_map, Nat.lt_one_iff, List.length_eq_zero_iff]
  cases (s.setAt id).building? <;> rfl

theorem decidePublishSet_fits (id : Nat) (s : State) : decidePublishSet .calibration (.fits id) s =
    if 7 < id then refuse s .arg
    else (s.setAt id).building?.elim (refuse s .state) fun v =>
      (publicationFailure v).elim (accept (s.publish id v) (.published id v.stock (BitVec.ofNat 16 (tableSum v))))
        fun f => ⟨s, .badTable, .badTable f.table f.node f.failure f.before f.value⟩ := by
  simp only [decidePublishSet, not_setId, ne_eq, not_true_eq_false, if_false, decide_eq_true_eq]
  cases (s.setAt id).building? with
  | none => rfl
  | some v => simp only [Option.elim_some]; cases publicationFailure v <;> rfl

theorem decideFreeSet_fits (id : Nat) (s : State) : decideFreeSet .calibration (.fits id) s =
    if 7 < id then refuse s .arg
    else if (s.setAt id).state = .free then refuse s .state
    else if (s.setAt id).building? = none ∧ 0 < (s.setAt id).useCount then
      ⟨s, .inUse, .inUse (s.setAt id).useCount⟩
    else accept (s.setState id .free) .none := by
  simp only [decideFreeSet, not_setId, ne_eq, not_true_eq_false, if_false, decide_eq_true_eq]
  obtain ⟨state, useCount⟩ := s.setAt id
  cases state <;> simp [SetRecord.building?]

theorem decideSetTrim_unknown (id : Nat) (value : Word16) (s : State) :
    decideSetTrim .calibration (.fits ⟨id, .unknown, value⟩) s = refuse s .arg := rfl

theorem decideSetTrim_named (id : Nat) (ch : Channel) (value : Word16) (s : State) :
    decideSetTrim .calibration (.fits ⟨id, .named ch, value⟩) s =
      if 7 < id then refuse s .arg
      else (s.setAt id).content?.elim (refuse s .state) fun _ =>
        accept (s.setState id ((s.setAt id).state.map (·.withTrim ch (clampTrim value.toInt))))
          (.trim ch (clampTrim value.toInt) (decide (clampTrim value.toInt ≠ value.toInt))) := by
  simp only [decideSetTrim, not_setId, ne_eq, not_true_eq_false, if_false, decide_eq_true_eq]
  cases (s.setAt id).content? <;> rfl

theorem decideReadTable_named (id start count : Nat) (t : TableName) (s : State) :
    decideReadTable (.fits ⟨id, .named t, start, count⟩) s =
      if 7 < id ∨ count = 0 ∨ 22 < count ∨ nodeCount t < start + count then refuse s .arg
      else (s.setAt id).content?.elim (refuse s .state) fun v =>
        accept s (.nodes t start count (((v.table t).drop start).take count)) := by
  simp only [decideReadTable, not_setId, ← Bool.decide_or, decide_eq_true_eq, Nat.lt_one_iff]
  cases (s.setAt id).content? <;> rfl

theorem decideQuerySet_fits (id : Nat) (s : State) : decideQuerySet (.fits id) s =
    if 7 < id then refuse s .arg else accept s (.set (s.setAt id).state.summary (s.setAt id).useCount) := by
  simp only [decideQuerySet, not_setId, decide_eq_true_eq]

theorem decideReadOptics_named (part : OpticsPart) (first : Nat) (s : State) :
    decideReadOptics (.fits ⟨.named part, first⟩) s =
      if partSize part ≤ first then refuse s .arg
      else accept s
        (.optics part first (((s.optics.part part).drop first).take 16) s.stu.settings.facetCount) := rfl

end Sys2Proof.Machine
end

section
/-! ## The settling of O17 -/

namespace Sys2Proof.Machine

/-- Settles O17: a query in range is answered from the set or the part it names, and the rest fail the tests before. -/
theorem tableQueriesAnswer : Obligations.TableQueriesAnswer := by
  intro a s htakes
  refine ⟨fun id start count t hid hsome hcount hin => ?_, fun id start count t hbad => ?_,
    fun id start count => exec_replies rfl htakes rfl, fun first => exec_replies rfl htakes rfl,
    fun id hid => exec_replies rfl htakes ?_, fun id hid => exec_replies rfl htakes ?_,
    fun part first => ⟨fun hout => exec_replies rfl htakes ?_, fun hin => exec_replies rfl htakes ?_⟩⟩
  · have hrange : ¬ (7 < id ∨ count = 0 ∨ 22 < count ∨ nodeCount t < start + count) := by omega
    refine ⟨fun hfree => exec_replies rfl htakes ?_, fun v hv => exec_replies rfl htakes ?_⟩
    · rw [decideReadTable_named, if_neg hrange, SetRecord.content?_of_free hfree]
      rfl
    · rw [decideReadTable_named, if_neg hrange, hv]
      rfl
  · exact exec_replies rfl htakes ((decideReadTable_named ..).trans (if_pos hbad))
  · exact (decideQuerySet_fits id s).trans (if_pos hid)
  · exact (decideQuerySet_fits id s).trans (if_neg (Nat.not_lt.mpr hid))
  · exact (decideReadOptics_named part first s).trans (if_pos hout)
  · exact (decideReadOptics_named part first s).trans (if_neg (Nat.not_le.mpr hin))

end Sys2Proof.Machine
end

section
/-! ## The settling of O34 -/

namespace Sys2Proof.Machine

theorem beginSet_byState {a : Addr} (g : BeginSetArgs) {s : State} (htakes : s.takes a = true)
    (hrole : roleOf a = .calibration) :
    let c : Instr := .beginSet a (.fits g)
    (7 < g.id ∨ g.stock = 0 ∨ g.stock = 65535 → exec c s = .next (s.replying c a 0x20 .arg .none)) ∧
    (∀ h : g.id < 8, g.stock ≠ 0 → g.stock ≠ 65535 →
      (s.cs[g.id].state ≠ .free → exec c s = .next (s.replying c a 0x20 .state .none)) ∧
      (s.cs[g.id].state = .free → exec c s = .next (State.replying
        { s with cs := s.cs.set g.id ⟨.building (newContent g.stock g.note), 0⟩ } c a 0x20 .ok (.setId g.id)))) := by
  intro c
  have hexec : exec c s = onMessage c a 0x20 (decideBeginSet .calibration (.fits g)) s := by rw [← hrole]; rfl
  refine ⟨fun hbad => ?_, fun h hzero hones => ?_⟩
  · exact exec_replies hexec htakes ((decideBeginSet_fits g s).trans (if_pos hbad))
  · have hgood : ¬ (7 < g.id ∨ g.stock = 0 ∨ g.stock = 65535) := by simp only [hzero, hones, or_false]; omega
    have hdecided := (decideBeginSet_fits g s).trans (if_neg hgood)
    rw [s.setAt_eq h, s.withSet_eq h] at hdecided
    exact ⟨fun hused => exec_replies hexec htakes (hdecided.trans (if_neg hused)),
      fun hfree => exec_replies hexec htakes (hdecided.trans (if_pos hfree))⟩

theorem freeSet_byState {a : Addr} {id : Nat} (h : id < 8) {s : State} (htakes : s.takes a = true)
    (hrole : roleOf a = .calibration) :
    let c : Instr := .freeSet a (.fits id)
    (s.cs[id].state = .free → exec c s = .next (s.replying c a 0x23 .state .none)) ∧
    (∀ v sum, s.cs[id].state = .ready v sum → 0 < s.cs[id].useCount →
      exec c s = .next (s.replying c a 0x23 .inUse (.inUse s.cs[id].useCount))) ∧
    ((∃ v, s.cs[id].state = .building v) ∨ (s.cs[id].state ≠ .free ∧ s.cs[id].useCount = 0) →
      exec c s = .next (State.replying { s with cs := s.cs.set id { s.cs[id] with state := .free } }
        c a 0x23 .ok .none)) := by
  intro c
  have hexec : exec c s = onMessage c a 0x23 (decideFreeSet .calibration (.fits id)) s := by rw [← hrole]; rfl
  have hdecided := (decideFreeSet_fits id s).trans (if_neg (by omega))
  rw [s.setAt_eq h, s.setState_eq h] at hdecided
  refine ⟨fun hfree => ?_, fun v sum hready hused => ?_, fun hends => ?_⟩
  · exact exec_replies hexec htakes (hdecided.trans (if_pos hfree))
  · have hclosed : s.cs[id].building? = none := SetRecord.building?_eq_none.mpr (by simp [hready])
    exact exec_replies hexec htakes
      (hdecided.trans ((if_neg (by simp [hready])).trans (if_pos ⟨hclosed, hused⟩)))
  · have hoccupied : s.cs[id].state ≠ .free := by
      rcases hends with ⟨v, hbuilding⟩ | ⟨hne, -⟩
      · simp [hbuilding]
      · exact hne
    have hunused : ¬ (s.cs[id].building? = none ∧ 0 < s.cs[id].useCount) := by
      rcases hends with ⟨v, hbuilding⟩ | ⟨-, hzero⟩
      · simp [SetRecord.building?_of_state hbuilding]
      · simp [hzero]
    exact exec_replies hexec htakes (hdecided.trans ((if_neg hoccupied).trans (if_neg hunused)))

theorem setTrim_byState {a : Addr} {id : Nat} (h : id < 8) (ch : Channel) (value : Word16) {s : State}
    (htakes : s.takes a = true) (hrole : roleOf a = .calibration) :
    let c : Instr := .setTrim a (.fits ⟨id, .named ch, value⟩)
    (s.cs[id].state = .free → exec c s = .next (s.replying c a 0x24 .state .none)) ∧
    (∀ v, s.cs[id].content? = some v → exec c s = .next (State.replying
      { s with cs := s.cs.set id { s.cs[id] with
          state := s.cs[id].state.map (·.withTrim ch (clampTrim value.toInt)) } }
      c a 0x24 .ok (.trim ch (clampTrim value.toInt) (decide (clampTrim value.toInt ≠ value.toInt))))) := by
  intro c
  have hexec : exec c s = onMessage c a 0x24 (decideSetTrim .calibration (.fits ⟨id, .named ch, value⟩)) s := by
    rw [← hrole]; rfl
  have hdecided := (decideSetTrim_named id ch value s).trans (if_neg (by omega))
  rw [s.setAt_eq h, s.setState_eq h] at hdecided
  refine ⟨fun hfree => ?_, fun v hv => ?_⟩
  · rw [SetRecord.content?_of_free hfree] at hdecided
    exact exec_replies hexec htakes hdecided
  · rw [hv] at hdecided
    exact exec_replies hexec htakes hdecided

/-- Settles O34: one message after the other, by the state the named set is in. -/
theorem setsBeginAndEnd : Obligations.SetsBeginAndEnd := by
  refine ⟨fun a g s htakes hrole => beginSet_byState g htakes hrole, fun a id h s htakes hrole =>
    ⟨freeSet_byState h htakes hrole, fun value => ?_, fun ch value => ?_⟩⟩
  · refine exec_replies rfl htakes ?_
    rw [hrole, decideSetTrim_unknown]
    rfl
  · obtain ⟨hrefused, htaken⟩ := setTrim_byState h ch value htakes hrole
    refine ⟨hrefused, fun v hbuilding => ?_, fun v sum hready => ?_⟩
    · have hexec := htaken v (SetRecord.content?_of_building hbuilding)
      rw [hbuilding] at hexec
      exact hexec
    · have hexec := htaken v (SetRecord.content?_of_ready hready)
      rw [hready] at hexec
      exact hexec

end Sys2Proof.Machine
end

section
/-! ## The settling of O35 -/

namespace Sys2Proof.Machine

/-! ### Replaced tables -/

theorem Rgb.get_set {α : Type} (v : Rgb α) (c c' : Channel) (x : α) :
    (v.set c x).get c' = if c' = c then x else v.get c' := by
  cases c <;> cases c' <;> rfl

theorem SetContent.withTable_table (v : SetContent) (t : TableName) (nodes : List Nat) :
    (v.withTable t nodes).table t = nodes := by
  cases t <;> exact (Rgb.get_set ..).trans (if_pos rfl)

theorem SetContent.withTable_other (v : SetContent) {t t' : TableName} (h : t' ≠ t) (nodes : List Nat) :
    (v.withTable t nodes).table t' = v.table t' := by
  cases t with
  | curve ch => cases t' with
    | curve ch' => exact (Rgb.get_set ..).trans (if_neg (by simpa using h))
    | drive ch' => rfl
  | drive ch => cases t' with
    | curve ch' => rfl
    | drive ch' => exact (Rgb.get_set ..).trans (if_neg (by simpa using h))

theorem SetContent.withTable_names (v : SetContent) (t : TableName) (nodes : List Nat) :
    (v.withTable t nodes).stock = v.stock ∧ (v.withTable t nodes).note = v.note ∧
      (v.withTable t nodes).trims = v.trims := by
  cases t <;> exact ⟨rfl, rfl, rfl⟩

/-! ### The nodes of a message -/

theorem storeRun_length (nodes : List Nat) (place : Nat) (vs : List Nat) :
    (storeRun nodes place vs).length = nodes.length := by
  induction vs generalizing nodes place with
  | nil => rfl
  | cons v vs ih => rw [storeRun, ih, List.length_set]

/-- R95, R96: the nodes of a table after a message in range: within the run the values as stored, elsewhere as before. -/
theorem SetContent.storeNodes_getD (v : SetContent) (t : TableName) (start : Nat) (vs : List Word16)
    (hin : start + vs.length ≤ (v.table t).length) (j : Nat) :
    ((v.storeNodes t start (vs.map BitVec.toNat)).table t).getD j 0 =
      if start ≤ j ∧ j < start + vs.length then storedNode t (vs.getD (j - start) 0).toNat
      else (v.table t).getD j 0 := by
  rw [SetContent.storeNodes, v.withTable_table, storeRun_getD _ _ _ (by simpa using hin)]
  simp only [List.length_map]
  by_cases hrun : start ≤ j ∧ j < start + vs.length
  · have hlt : j - start < vs.length := by omega
    rw [if_pos hrun, if_pos hrun]
    simp [List.getD_eq_getElem?_getD, hlt]
  · rw [if_neg hrun, if_neg hrun]

theorem SetContent.storeNodes_length (v : SetContent) (t : TableName) (start : Nat) (vs : List Nat) :
    ((v.storeNodes t start vs).table t).length = (v.table t).length := by
  rw [SetContent.storeNodes, v.withTable_table, storeRun_length]

/-- R96: the clamped drive values counted as the words they arrive in. -/
theorem clampCount_drive (ch : Channel) (vs : List Word16) :
    clampCount (.drive ch) (vs.map BitVec.toNat) = vs.countP fun x => decide (4096 ≤ x.toNat) :=
  List.countP_map

/-- Settles O35: ARG before STATE, and in a BUILDING set the values stored as a run of one table. -/
theorem writeTableStoresNodes : Obligations.WriteTableStoresNodes := by
  intro a id start t vs s htakes hrole c size
  have hsize : size = nodeCount t := by cases t <;> rfl
  have hexec : exec c s = onMessage c a 0x21 (decideWriteTable .calibration (.fits ⟨id, .named t, start, vs⟩)) s := by
    rw [← hrole]; rfl
  refine ⟨?_, fun hbad => ?_, fun h hsome hcount hin => ?_⟩
  · refine exec_replies rfl htakes ?_
    rw [hrole, decideWriteTable_unknown]
    rfl
  · rw [hsize] at hbad
    exact exec_replies hexec htakes ((decideWriteTable_named ..).trans (if_pos hbad))
  · have hgood : ¬ (7 < id ∨ vs = [] ∨ 22 < vs.length ∨ nodeCount t < start + vs.length) := by
      simp only [hsome, false_or]; omega
    have hdecided := (decideWriteTable_named id start t vs s).trans (if_neg hgood)
    rw [s.setAt_eq h] at hdecided
    refine ⟨fun hclosed => ?_, fun v hv hlength => ?_⟩
    · rw [SetRecord.building?_eq_none.mpr hclosed] at hdecided
      exact exec_replies hexec htakes hdecided
    · rw [SetRecord.building?_of_state hv, Option.elim_some, s.setState_eq h] at hdecided
      have hnode := v.storeNodes_getD t start vs (by rw [hlength]; exact hin)
      obtain ⟨hstock, hnote, htrims⟩ := v.withTable_names t (storeRun (v.table t) start
        ((vs.map BitVec.toNat).map (storedNode t)))
      refine ⟨v.storeNodes t start (vs.map BitVec.toNat), ?_, fun i hi => ?_, fun j hj => ?_,
        (v.storeNodes_length ..).trans hlength, fun t' hne => v.withTable_other hne _, hstock, hnote, htrims⟩
      · refine (exec_replies hexec htakes hdecided).trans ?_
        cases t with
        | curve ch => rfl
        | drive ch => rw [clampCount_drive]
      · rw [hnode, if_pos (by omega), Nat.add_sub_cancel_left]
        cases t <;> rfl
      · rw [hnode, if_neg (by omega)]

end Sys2Proof.Machine
end

section
/-! ## The settling of O36 -/

namespace Sys2Proof.Machine

/-! ### The check of a node -/

/-- R97: how node j of a table fails against the node before it, if it does. -/
def SetContent.nodeFailure? (v : SetContent) (t : TableName) (j : Nat) : Option TableFailure :=
  checkNode t j ((v.table t).getD (j - 1) 0) ((v.table t).getD j 0)

/-- R97: the nodes that are checked, from 1 to the last, that fail. -/
def SetContent.nodeFails (v : SetContent) (t : TableName) (j : Nat) : Prop :=
  1 ≤ j ∧ j < nodeCount t ∧ v.nodeFailure? t j ≠ none

theorem checkNode_curve (ch : Channel) (j before value : Nat) :
    checkNode (.curve ch) j before value ≠ none ↔ value < before := by
  simp [checkNode]

theorem checkNode_drive (ch : Channel) (j before value : Nat) :
    checkNode (.drive ch) j before value ≠ none ↔ if j = 257 then value ≠ before else value < before := by
  by_cases hj : j = 257 <;> simp [checkNode, hj]

/-- R97: only the two middle nodes of a drive table are checked to agree. -/
theorem checkNode_join {t : TableName} {j before value : Nat} {f : TableFailure} (hj : j < nodeCount t)
    (h : checkNode t j before value = some f) : f = .join ↔ j = 257 := by
  cases t with
  | curve ch =>
    have hne : j ≠ 257 := Nat.ne_of_lt hj
    obtain ⟨-, rfl⟩ : value < before ∧ TableFailure.order = f := by simpa [checkNode] using h
    simp [hne]
  | drive ch =>
    by_cases hmiddle : j = 257
    · obtain ⟨-, rfl⟩ : value ≠ before ∧ TableFailure.join = f := by simpa [checkNode, hmiddle] using h
      simp [hmiddle]
    · obtain ⟨-, rfl⟩ : value < before ∧ TableFailure.order = f := by simpa [checkNode, hmiddle] using h
      simp [hmiddle]

/-! ### The walks -/

/-- R97: a walk that ends without a failure has passed every node. -/
theorem firstFailure_eq_none {t : TableName} {j before : Nat} {vs : List Nat} :
    firstFailure t j before vs = none ↔
      ∀ i < vs.length, checkNode t (i + j) ((before :: vs).getD i 0) (vs.getD i 0) = none := by
  induction vs generalizing j before with
  | nil => simp [firstFailure]
  | cons v vs ih =>
    rw [firstFailure]
    cases hv : checkNode t j before v with
    | some f =>
      refine ⟨fun hsome => by simp at hsome, fun hpass => ?_⟩
      have hfirst : checkNode t j before v = none := by simpa using hpass 0 (by simp)
      simp [hv] at hfirst
    | none =>
      refine ih.trans ⟨fun hpass i hi => ?_, fun hpass i hi => ?_⟩
      · cases i with
        | zero => simpa using hv
        | succ i =>
          rw [Nat.succ_add_eq_add_succ]
          exact hpass i (Nat.lt_of_succ_lt_succ hi)
      · rw [← Nat.succ_add_eq_add_succ]
        exact hpass (i + 1) (Nat.succ_lt_succ hi)

/-- R97: a walk stops at the first node that fails. -/
theorem firstFailure_eq_some {t : TableName} {j before : Nat} {vs : List Nat} {n : NodeFailure}
    (h : firstFailure t j before vs = some n) : ∃ i < vs.length, ∃ f,
      n = ⟨t, i + j, f, (before :: vs).getD i 0, vs.getD i 0⟩ ∧
      checkNode t (i + j) ((before :: vs).getD i 0) (vs.getD i 0) = some f ∧
      ∀ k < i, checkNode t (k + j) ((before :: vs).getD k 0) (vs.getD k 0) = none := by
  induction vs generalizing j before with
  | nil => simp [firstFailure] at h
  | cons v vs ih =>
    rw [firstFailure] at h
    cases hv : checkNode t j before v with
    | some f =>
      rw [hv] at h
      exact ⟨0, by simp, f, by simpa using h.symm, by simpa using hv, fun k hk => absurd hk (Nat.not_lt_zero k)⟩
    | none =>
      rw [hv] at h
      obtain ⟨i, hi, f, hn, hfails, hpass⟩ := ih h
      rw [← Nat.succ_add_eq_add_succ] at hn hfails
      refine ⟨i + 1, Nat.succ_lt_succ hi, f, hn, hfails, fun k hk => ?_⟩
      cases k with
      | zero => simpa using hv
      | succ k =>
        rw [Nat.succ_add_eq_add_succ]
        exact hpass k (Nat.lt_of_succ_lt_succ hk)

/-- R97: a table passes when none of its checked nodes fails. -/
theorem tableFailure_eq_none {v : SetContent} {t : TableName} (hlength : (v.table t).length = nodeCount t) :
    tableFailure v t = none ↔ ∀ j, ¬ v.nodeFails t j := by
  rw [tableFailure]
  simp only [SetContent.nodeFails, SetContent.nodeFailure?, ← hlength]
  cases v.table t with
  | nil => simp
  | cons w ws =>
    refine firstFailure_eq_none.trans ⟨fun hpass j ⟨hlow, hhigh, hfails⟩ => ?_, fun hpass i hi => ?_⟩
    · obtain ⟨i, rfl⟩ := Nat.exists_eq_add_of_le' hlow
      exact hfails (hpass i (Nat.lt_of_succ_lt_succ hhigh))
    · by_contra hfails
      exact hpass (i + 1) ⟨Nat.le_add_left 1 i, Nat.succ_lt_succ hi, hfails⟩

/-- R97, R98: the failure of a table is that of its first node that fails. -/
theorem tableFailure_eq_some {v : SetContent} {t : TableName} {n : NodeFailure}
    (hlength : (v.table t).length = nodeCount t) (h : tableFailure v t = some n) : ∃ j f,
      n = ⟨t, j, f, (v.table t).getD (j - 1) 0, (v.table t).getD j 0⟩ ∧ v.nodeFails t j ∧
      (∀ i < j, ¬ v.nodeFails t i) ∧ (f = .join ↔ j = 257) := by
  rw [tableFailure] at h
  simp only [SetContent.nodeFails, SetContent.nodeFailure?, ← hlength]
  cases htable : v.table t with
  | nil => simp [htable] at h
  | cons w ws =>
    rw [htable] at h
    obtain ⟨i, hi, f, hn, hfails, hpass⟩ := firstFailure_eq_some h
    have hlast : i + 1 < nodeCount t := by rw [← hlength, htable]; exact Nat.succ_lt_succ hi
    refine ⟨i + 1, f, hn, ⟨Nat.le_add_left 1 i, Nat.succ_lt_succ hi, ?_⟩, fun k hk ⟨hlow, _, hfailed⟩ => ?_,
      checkNode_join hlast hfails⟩
    · exact Option.ne_none_iff_exists'.mpr ⟨f, hfails⟩
    · obtain ⟨k, rfl⟩ := Nat.exists_eq_add_of_le' hlow
      exact hfailed (hpass k (Nat.lt_of_succ_lt_succ hk))

/-! ### The set -/

theorem mem_tableOrder (t : TableName) : t ∈ tableOrder := by
  rcases t with ⟨_ | _ | _⟩ | ⟨_ | _ | _⟩ <;> decide

theorem publicationFailure_eq_none {v : SetContent} (hlength : ∀ t, (v.table t).length = nodeCount t) :
    publicationFailure v = none ↔ ∀ t j, ¬ v.nodeFails t j := by
  rw [publicationFailure, List.findSome?_eq_none_iff]
  exact ⟨fun hpass t => (tableFailure_eq_none (hlength t)).mp (hpass t (mem_tableOrder t)),
    fun hpass t _ => (tableFailure_eq_none (hlength t)).mpr (hpass t)⟩

/-- R97, R98: the failure of a set is the first of the first table that fails. -/
theorem publicationFailure_eq_some {v : SetContent} (hlength : ∀ t, (v.table t).length = nodeCount t) {n : NodeFailure}
    (h : publicationFailure v = some n) : ∃ t j f,
      n = ⟨t, j, f, (v.table t).getD (j - 1) 0, (v.table t).getD j 0⟩ ∧ v.nodeFails t j ∧
      (∀ i < j, ¬ v.nodeFails t i) ∧
      (∀ t', tableOrder.idxOf t' < tableOrder.idxOf t → ∀ i, ¬ v.nodeFails t' i) ∧ (f = .join ↔ j = 257) := by
  obtain ⟨before, t, after, horder, hfails, hpass⟩ := List.findSome?_eq_some_iff.mp h
  obtain ⟨j, f, hn, hnode, hfirst, hjoin⟩ := tableFailure_eq_some (hlength t) hfails
  refine ⟨t, j, f, hn, hnode, hfirst, fun t' hearlier => ?_, hjoin⟩
  have hmem : t' ∈ before := by
    by_contra hout
    have ht : tableOrder.idxOf t ≤ before.length := by
      rw [horder, List.idxOf_append]
      split
      next hin => exact (List.idxOf_lt_length_of_mem hin).le
      next => simp
    rw [horder, List.idxOf_append_of_notMem hout, ← horder] at hearlier
    omega
  exact (tableFailure_eq_none (hlength t')).mp (hpass t' hmem)

/-! ### Publication -/

/-- R99: publication changes the record of its set and raises CAL_SET. -/
theorem State.publish_spec (s : State) {id : Nat} (h : id < 8) (v : SetContent) :
    s.publish id v = { s with
      cs := s.cs.set id { s.cs[id] with state := .ready v (BitVec.ofNat 16 (tableSum v)) }
      au := (s.publish id v).au } ∧
    s.raisedOnly (s.publish id v) [.calSet] := by
  rw [State.publish, s.setState_eq h]
  exact ⟨rfl, State.raisedOnly_raise (es := []) (State.raisedOnly_of_au s.raisedOnly_refl rfl) _⟩

/-- Settles O36: the walk of the six tables decides between READY and BAD_TABLE. -/
theorem publishSetValidates : Obligations.PublishSetValidates := by
  intro a id h s htakes hrole c nodeFails sum
  have hsum (v : SetContent) : sum v = tableSum v := by
    simp only [sum, tableSum, ← addWord_eq]
  have hfails (v : SetContent) (t : TableName) (j : Nat) : nodeFails v t j ↔ v.nodeFails t j := by
    cases t <;> simp only [nodeFails, SetContent.nodeFails, SetContent.nodeFailure?, checkNode_curve, checkNode_drive,
      nodeCount, Nat.lt_succ_iff]
  have hexec : exec c s = onMessage c a 0x22 (decidePublishSet .calibration (.fits id)) s := by rw [← hrole]; rfl
  have hdecided := (decidePublishSet_fits id s).trans (if_neg (by omega))
  rw [s.setAt_eq h] at hdecided
  simp only [hsum, hfails]
  refine ⟨fun hclosed => ?_, fun v hv hlengths => ?_⟩
  · rw [SetRecord.building?_eq_none.mpr hclosed] at hdecided
    exact exec_replies hexec htakes hdecided
  · rw [SetRecord.building?_of_state hv, Option.elim_some] at hdecided
    have hlength (t : TableName) : (v.table t).length = nodeCount t := by
      cases t with
      | curve ch => exact (hlengths ch).1
      | drive ch => exact (hlengths ch).2
    refine ⟨fun hvalid => ?_, fun ⟨t, j, hfailed⟩ => ?_⟩
    · rw [(publicationFailure_eq_none hlength).mpr hvalid] at hdecided
      obtain ⟨hchanged, hraised⟩ := s.publish_spec h v
      exact ⟨s.publish id v, exec_replies hexec htakes hdecided, hchanged, hraised⟩
    · cases hfound : publicationFailure v with
      | none => exact absurd hfailed ((publicationFailure_eq_none hlength).mp hfound t j)
      | some n =>
        obtain ⟨t, j, f, rfl, hnode, hfirst, hearlier, hjoin⟩ := publicationFailure_eq_some hlength hfound
        rw [hfound] at hdecided
        exact ⟨t, j, f, hnode, hfirst, hearlier, hjoin, exec_replies hexec htakes hdecided⟩

end Sys2Proof.Machine
end

section
/-! ## What the scanner's invariants read of the state

State.ScanSound gathers the facet counter, the channels and the exposure under lock; State.ScannerInvariant adds the
idle timer, which only the end of an event brings back in line with a frame start (R119). -/

namespace Sys2Proof.Machine

/-- What the scanner's invariants read besides the exposure and the idle timer. -/
structure ScanCore where
  facetCount : Nat
  facet : Option Nat
  scanner : ScannerState
  lasers : Rgb ChannelState

/-- The part of the state that the scanner's invariants read. -/
def State.scanCore (s : State) : ScanCore :=
  ⟨s.stu.settings.facetCount, s.stu.facet, s.stu.scanner, s.lcu.map LaserUnit.state⟩

/-- R113, R121, R134, R139, R140: the facet counter in range, the channels with the scanner, an exposure under lock. -/
structure State.ScanSound (s : State) : Prop where
  facet : s.facetInRange
  channels : s.channelsFollowScanner
  locked : s.isExposing = true → s.isLocked = true ∧ s.lasersReady = true

/-- The same, with the idle timer stopped during an exposure (R119). -/
structure State.ScannerInvariant (s : State) : Prop where
  sound : s.ScanSound
  idle : s.isExposing = true → s.stu.idle = .stopped

theorem State.scannerInvariant_iff (s : State) :
    s.ScannerInvariant ↔ s.facetInRange ∧ s.channelsFollowScanner ∧ s.exposureNeedsLock := by
  refine ⟨fun ⟨⟨hfacet, hchannels, hlocked⟩, hidle⟩ => ⟨hfacet, hchannels, fun hx => ?_⟩,
    fun ⟨hfacet, hchannels, hx⟩ => ⟨⟨hfacet, hchannels, fun h => ?_⟩, fun h => (hx h).2.2⟩⟩
  · exact ⟨(hlocked hx).1, (hlocked hx).2, hidle hx⟩
  · exact ⟨(hx h).1, (hx h).2.1⟩

theorem State.lasersReady_iff (s : State) : s.lasersReady = true ↔ ∀ c, (s.lcu.get c).state = .ready := by
  simp only [State.lasersReady, Bool.and_eq_true, decide_eq_true_eq]
  exact ⟨fun ⟨⟨hr, hg⟩, hb⟩ c => by cases c <;> assumption, fun h => ⟨⟨h .r, h .g⟩, h .b⟩⟩

theorem State.isLocked_iff (s : State) : s.isLocked = true ↔ s.stu.scanner = .locked := decide_eq_true_iff

theorem State.turning_iff (s : State) : s.turning = true ↔ s.stu.scanner = .acquiring ∨ s.stu.scanner = .locked := by
  unfold State.turning
  cases s.stu.scanner <;> simp

theorem State.isExposing_congr {s t : State} (h : t.film = s.film) : t.isExposing = s.isExposing :=
  congrArg Option.isSome (State.exposure?_congr h)

theorem State.isExposing_of_ended {s : State} (h : s.exposure? = none) : s.isExposing = false := by
  rw [State.isExposing, h]; rfl

/-! ### The three shapes a sound state has -/

/-- A state whose scanner turns. -/
theorem State.ScanSound.of_turning {s : State}
    (hcount : 4 ≤ s.stu.settings.facetCount ∧ s.stu.settings.facetCount ≤ 16)
    (hfacet : ∀ f, s.stu.facet = some f → f < s.stu.settings.facetCount) (hturn : s.turning = true)
    (hx : s.isExposing = true → s.isLocked = true ∧ s.lasersReady = true) : s.ScanSound :=
  ⟨⟨hcount, fun f hf => ⟨hfacet f hf, hturn⟩⟩, fun h => absurd (hturn.symm.trans h) nofun, hx⟩

/-- A state whose channels are off and which exposes nothing. -/
theorem State.ScanSound.of_still {s : State}
    (hcount : 4 ≤ s.stu.settings.facetCount ∧ s.stu.settings.facetCount ≤ 16) (hfacet : s.stu.facet = none)
    (hoff : ∀ c, (s.lcu.get c).state = .off) (hx : s.isExposing = false) : s.ScanSound :=
  ⟨⟨hcount, fun _ hf => absurd (hfacet.symm.trans hf) nofun⟩, fun _ => hoff, fun h => absurd (hx.symm.trans h) nofun⟩

/-- Nothing is exposed without lock. -/
theorem State.ScanSound.not_exposing {s : State} (h : s.ScanSound) (hlock : s.stu.scanner ≠ .locked) :
    s.isExposing = false := by
  by_contra hx
  exact hlock (s.isLocked_iff.mp (h.locked (by simpa using hx)).1)

/-- The facet counter is UNKNOWN while the scanner does not turn. -/
theorem State.ScanSound.facet_unknown {s : State} (h : s.ScanSound) (hturn : s.turning = false) :
    s.stu.facet = none := by
  cases hf : s.stu.facet with
  | none => rfl
  | some f => exact absurd (hturn.symm.trans (h.facet.2 f hf).2) nofun

theorem State.ScanSound.facet_lt {s : State} (h : s.ScanSound) {f : Nat} (hf : s.stu.facet = some f) :
    f < s.stu.settings.facetCount := (h.facet.2 f hf).1

/-! ### Keeping it -/

/-- What the invariants read stands, and no exposure has begun. -/
structure State.ScanKept (s t : State) : Prop where
  core : t.scanCore = s.scanCore
  exposing : t.isExposing = true → s.isExposing = true

theorem State.scanKept_refl (s : State) : s.ScanKept s := ⟨rfl, id⟩

theorem State.ScanKept.trans {s t u : State} (h : s.ScanKept t) (k : t.ScanKept u) : s.ScanKept u :=
  ⟨k.core.trans h.core, fun hx => h.exposing (k.exposing hx)⟩

theorem State.scanCore_congr {s t : State} (hstu : t.stu = s.stu) (hlcu : t.lcu = s.lcu) : t.scanCore = s.scanCore := by
  unfold State.scanCore
  rw [hstu, hlcu]

theorem State.scanKept_of_film {s t : State} (hfilm : t.film = s.film) (hstu : t.stu = s.stu) (hlcu : t.lcu = s.lcu) :
    s.ScanKept t := ⟨State.scanCore_congr hstu hlcu, fun h => by rwa [← State.isExposing_congr hfilm]⟩

theorem State.scanKept_of_ended {s t : State} (hx : t.exposure? = none) (hstu : t.stu = s.stu) (hlcu : t.lcu = s.lcu) :
    s.ScanKept t :=
  ⟨State.scanCore_congr hstu hlcu, fun h => absurd ((State.isExposing_of_ended hx).symm.trans h) nofun⟩

theorem State.lasers_congr {s t : State} (h : t.scanCore = s.scanCore) (c : Channel) :
    (t.lcu.get c).state = (s.lcu.get c).state := by
  have hlasers : (t.lcu.map LaserUnit.state).get c = (s.lcu.map LaserUnit.state).get c :=
    congrArg (Rgb.get · c) (congrArg ScanCore.lasers h)
  rwa [Rgb.get_map, Rgb.get_map] at hlasers

theorem State.turning_congr {s t : State} (h : t.scanCore = s.scanCore) : t.turning = s.turning := by
  unfold State.turning
  rw [show t.stu.scanner = s.stu.scanner from congrArg ScanCore.scanner h]

theorem State.lasersReady_congr {s t : State} (h : t.scanCore = s.scanCore) : t.lasersReady = s.lasersReady := by
  rw [Bool.eq_iff_iff, State.lasersReady_iff, State.lasersReady_iff]
  simp only [State.lasers_congr h]

theorem State.isLocked_congr {s t : State} (h : t.scanCore = s.scanCore) : t.isLocked = s.isLocked := by
  unfold State.isLocked
  rw [show t.stu.scanner = s.stu.scanner from congrArg ScanCore.scanner h]

theorem State.ScanSound.of_core {s t : State} (h : s.ScanSound) (hcore : t.scanCore = s.scanCore)
    (hx : t.isExposing = true → s.isExposing = true ∨ s.isLocked = true ∧ s.lasersReady = true) : t.ScanSound := by
  have hcount : t.stu.settings.facetCount = s.stu.settings.facetCount := congrArg ScanCore.facetCount hcore
  have hfacet : t.stu.facet = s.stu.facet := congrArg ScanCore.facet hcore
  refine ⟨?_, fun hturn c => ?_, fun hxt => ?_⟩
  · unfold State.facetInRange
    rw [hcount, hfacet, State.turning_congr hcore]
    exact h.facet
  · rw [State.lasers_congr hcore]
    exact h.channels (State.turning_congr hcore ▸ hturn) c
  · rw [State.isLocked_congr hcore, State.lasersReady_congr hcore]
    exact (hx hxt).elim h.locked id

theorem State.ScanKept.sound {s t : State} (k : s.ScanKept t) (h : s.ScanSound) : t.ScanSound :=
  h.of_core k.core fun hx => .inl (k.exposing hx)

theorem State.ScanKept.invariant {s t : State} (k : s.ScanKept t) (hidle : t.stu.idle = s.stu.idle)
    (h : s.ScannerInvariant) : t.ScannerInvariant :=
  ⟨k.sound h.sound, fun hx => hidle.trans (h.idle (k.exposing hx))⟩

/-- An operation on other blocks, the film in the gate standing. -/
theorem State.ScannerInvariant.of_film {s t : State} (h : s.ScannerInvariant) (hfilm : t.film = s.film)
    (hstu : t.stu = s.stu) (hlcu : t.lcu = s.lcu) : t.ScannerInvariant :=
  (State.scanKept_of_film hfilm hstu hlcu).invariant (by rw [hstu]) h

/-- An operation on other blocks that leaves nothing exposed. -/
theorem State.ScannerInvariant.of_ended {s t : State} (h : s.ScannerInvariant) (hx : t.exposure? = none)
    (hstu : t.stu = s.stu) (hlcu : t.lcu = s.lcu) : t.ScannerInvariant :=
  (State.scanKept_of_ended hx hstu hlcu).invariant (by rw [hstu]) h

/-- A sound state with nothing exposed keeps all of the invariant. -/
theorem State.ScanSound.invariant_of_ended {s : State} (h : s.ScanSound) (hx : s.isExposing = false) :
    s.ScannerInvariant := ⟨h, fun hxt => absurd (hx.symm.trans hxt) nofun⟩

end Sys2Proof.Machine
end

section
/-! ## Events of the gate, the queue and the channels keep the scanner sound -/

namespace Sys2Proof.Machine
/-! ### The exposure -/

theorem State.mapExposure_isExposing (s : State) (f : Exposure → Exposure) :
    (s.mapExposure f).isExposing = s.isExposing := by
  cases hx : s.exposure? with
  | none => rw [State.mapExposure_none hx]
  | some x => simp [State.isExposing, State.mapExposure_exposure? hx, hx]

theorem State.mapExposure_scanKept (s : State) (f : Exposure → Exposure) : s.ScanKept (s.mapExposure f) :=
  ⟨State.scanCore_congr (s.mapExposure_stu f) (s.mapExposure_lcu f), fun h => s.mapExposure_isExposing f ▸ h⟩

theorem State.mapLasers_scanKept (s : State) (f : LaserUnit → LaserUnit) (hf : ∀ u, (f u).state = u.state) :
    s.ScanKept (s.mapLasers f) := by
  refine ⟨?_, id⟩
  have hlasers : (s.lcu.map f).map LaserUnit.state = s.lcu.map LaserUnit.state := by simp only [Rgb.map, hf]
  exact congrArg (ScanCore.mk _ _ _) hlasers

theorem State.dropDrives_scanKept (s : State) : s.ScanKept s.dropDrives := s.mapLasers_scanKept _ fun _ => rfl

theorem State.raise_scanKept (s : State) (e : Event) : s.ScanKept (s.raise e) :=
  State.scanKept_of_film (s.raise_film e) (s.raise_stu e) (s.raise_lcu e)

/-- R162: of the scanner and the channels an abort drops the drives alone. -/
theorem State.abort_lcu {s : State} {x : Exposure} (hx : s.exposure? = some x) (r : SpoilReason) :
    (s.abort r).lcu = s.dropDrives.lcu := by
  simp only [State.abort, hx]
  split <;> split <;> simp

theorem State.abort_scanKept (s : State) (r : SpoilReason) : s.ScanKept (s.abort r) := by
  cases hx : s.exposure? with
  | none =>
    rw [State.abort_none hx]
    exact s.scanKept_refl
  | some x =>
    exact s.dropDrives_scanKept.trans
      (State.scanKept_of_ended (s.abort_exposure? r) (s.abort_stu r) (State.abort_lcu hx r))

theorem State.frameEnd_exposure? (s : State) : s.frameEnd.exposure? = none := by
  unfold State.frameEnd
  split
  · assumption
  next x _ =>
    dsimp only
    split
    · exact (State.exposure?_congr ((State.filmEnd_film _).trans ((State.raiseAll_film _ _).trans
        (State.headExposed_film _)))).trans (State.advanceFilm_exposure? _ 1)
    · exact (State.exposure?_congr ((State.filmEnd_film _).trans ((State.raiseAll_film _ _).trans
        (State.headSpoiled_film _)))).trans (State.advanceFilm_exposure? _ 1)

theorem State.frameEnd_scanKept (s : State) : s.ScanKept s.frameEnd :=
  State.scanKept_of_ended s.frameEnd_exposure? s.frameEnd_stu s.frameEnd_lcu

/-! ### Starts and the end of an event -/

theorem State.runoutStart_exposure? {s : State} (h : s.gateReady = true) : s.runoutStart.exposure? = none := by
  have hnone : s.exposure? = none := by
    unfold State.gateReady at h
    unfold State.exposure?
    cases hg : s.gc.gate <;> simp_all
  unfold State.runoutStart
  split
  · split
    · exact (State.exposure?_congr ((State.filmEnd_film _).trans (State.raise_film _ _))).trans
        (State.advanceFilm_exposure? _ _)
    · exact hnone
    · exact hnone
  · exact hnone

/-- R156: a frame starts only under lock and with three READY channels. -/
theorem State.startIfDue_scanSound (b : State) {s : State} (h : s.ScanSound) : (State.startIfDue b s).ScanSound := by
  refine h.of_core (State.scanCore_congr (State.startIfDue_stu b s) (State.startIfDue_lcu b s)) fun hx => ?_
  unfold State.startIfDue at hx
  split at hx
  next hdue =>
    simp only [State.frameReady_eq, Bool.and_eq_true] at hdue
    exact .inr ⟨hdue.1.1.2, hdue.1.2⟩
  · split at hx
    next hdue =>
      simp only [State.runoutReady, Bool.and_eq_true] at hdue
      rw [State.isExposing_of_ended (State.runoutStart_exposure? hdue.1.1.1.1)] at hx
      cases hx
    · exact .inl hx

theorem State.recordsEnd_scanKept (b s : State) : s.ScanKept (State.recordsEnd b s) :=
  State.scanKept_of_film (congrArg₂ Prod.mk (State.recordsEnd_gc b s) (State.recordsEnd_rm b s))
    (State.recordsEnd_stu b s) (State.recordsEnd_lcu b s)

/-- R119: the end of an event sets the idle timer and changes nothing else of the scan timing unit. -/
theorem State.quiesce_stu (s : State) : ∃ i, s.quiesce.stu = { s.stu with idle := i } := by
  obtain ⟨i, h⟩ := s.beginLine.offerStaging.requestMarking.grant.updateIdle_shape
  refine ⟨i, ?_⟩
  rw [State.quiesce, h]
  simp

theorem State.beginLine_isExposing (s : State) : s.beginLine.isExposing = s.isExposing := by
  rcases s.beginLine_cases with ⟨x, phase, -, hfilm⟩ | ⟨hstands, -⟩
  · rw [State.isExposing_congr hfilm, State.mapExposure_isExposing]
  · rw [hstands]

theorem State.quiesce_scanKept (s : State) : s.ScanKept s.quiesce := by
  obtain ⟨i, hstu⟩ := s.quiesce_stu
  refine ⟨?_, fun hx => ?_⟩
  · unfold State.scanCore
    rw [hstu, s.quiesce_lcu]
  · rwa [State.isExposing_congr s.quiesce_film, State.beginLine_isExposing] at hx

/-- R119: while the gate is EXPOSING the idle timer does not run. -/
theorem State.updateIdle_stops {s : State} (h : s.isExposing = true) : s.updateIdle.stu.idle = .stopped := by
  simp [State.updateIdle, h]

theorem State.updateIdle_scanKept (s : State) : s.ScanKept s.updateIdle := by
  obtain ⟨i, h⟩ := s.updateIdle_shape
  rw [h]
  exact ⟨rfl, id⟩

theorem State.ScanSound.updateIdle {s : State} (h : s.ScanSound) : s.updateIdle.ScannerInvariant :=
  ⟨s.updateIdle_scanKept.sound h, fun hx => State.updateIdle_stops (s.updateIdle_scanKept.exposing hx)⟩

/-- The end of an event leaves the idle timer stopped during an exposure. -/
theorem State.ScanSound.quiesce {s : State} (h : s.ScanSound) : s.quiesce.ScannerInvariant := by
  refine ⟨s.quiesce_scanKept.sound h, fun hx => ?_⟩
  rw [State.quiesce] at hx ⊢
  exact State.updateIdle_stops ((State.updateIdle_scanKept _).exposing hx)

theorem State.ScanSound.settle (b : State) {s : State} (h : s.ScanSound) : (State.settle b s).ScannerInvariant :=
  ((State.recordsEnd_scanKept b _).sound (State.startIfDue_scanSound b h)).quiesce

end Sys2Proof.Machine
end

section
/-! ## Samples, lock, wakes and halts keep the scanner sound -/

namespace Sys2Proof.Machine
/-! ### Laser channels -/

/-- R134 to R138: a READY channel's judgement leaves its state to the verdict. -/
theorem LaserUnit.judge_state_of_ready {u : LaserUnit} (h : u.state = .ready) : u.judge.1.state = .ready := by
  unfold LaserUnit.judge
  rw [h]
  dsimp only
  unfold LaserUnit.judgeReady
  repeat' split
  all_goals exact h

theorem State.mapLaser_get (s : State) (c d : Channel) (f : LaserUnit → LaserUnit) :
    ((s.mapLaser c f).lcu.get d) = if d = c then f (s.lcu.get c) else s.lcu.get d := by
  cases c <;> cases d <;> rfl

/-- A channel of a turning scanner changed, READY during an exposure. -/
theorem State.ScanSound.mapLaser {s : State} (h : s.ScanSound) (hturn : s.turning = true) (c : Channel)
    (f : LaserUnit → LaserUnit) (hf : (s.lcu.get c).state = .ready → (f (s.lcu.get c)).state = .ready) :
    (s.mapLaser c f).ScanSound := by
  refine .of_turning h.facet.1 (fun _ hn => h.facet_lt hn) hturn fun hx => ?_
  obtain ⟨hlock, hready⟩ := h.locked hx
  rw [State.lasersReady_iff] at hready ⊢
  refine ⟨hlock, fun d => ?_⟩
  rw [State.mapLaser_get]
  split
  · exact hf (hready c)
  · exact hready d

/-- R139: a channel in FAULT leaves no exposure. -/
theorem State.ScanSound.faultChannel {s : State} (h : s.ScanSound) (hturn : s.turning = true) (c : Channel) :
    (s.faultChannel c).ScanSound := by
  have hcore := ((State.dropDrives_scanKept (s.mapLaser c fun u => { u with state := .fault, drift := false })).trans
    (State.abort_scanKept _ .laserFault)).trans (State.raise_scanKept _ .laser)
  have hstu : (s.faultChannel c).stu = s.stu := s.faultChannel_stu c
  refine .of_turning (by rw [hstu]; exact h.facet.1) (fun f hf => ?_) ?_ fun hx => ?_
  · rw [hstu] at hf ⊢
    exact h.facet_lt hf
  · exact (State.turning_congr hcore.core).trans hturn
  · have hended : (s.faultChannel c).exposure? = none :=
      (State.exposure?_congr (State.raise_film _ .laser)).trans (State.abort_exposure? _ .laserFault)
    exact absurd ((State.isExposing_of_ended hended).symm.trans hx) nofun

/-- A firing channel belongs to a turning scanner. -/
theorem State.ScanSound.turning_of_fires {s : State} (h : s.ScanSound) {c : Channel}
    (hc : (s.lcu.get c).fires = true) : s.turning = true := by
  cases hturn : s.turning with
  | true => rfl
  | false => simp [LaserUnit.fires, h.channels hturn c] at hc

theorem State.ScanSound.sampleChannel {s : State} (h : s.ScanSound) (c : Channel) (m : BitVec 12) :
    (s.sampleChannel c m).ScanSound := by
  unfold State.sampleChannel
  split
  next hfires =>
    have hturn := h.turning_of_fires hfires
    have hsampled := h.mapLaser hturn c (fun _ => ((s.lcu.get c).take m).judge.1)
      fun hready => LaserUnit.judge_state_of_ready hready
    dsimp only
    split
    · exact hsampled
    · exact hsampled.faultChannel hturn c
    · exact (State.raise_scanKept _ _).sound hsampled
  · exact h

/-! ### Lock (R112 to R117) -/

/-- R117: a lost lock leaves a turning scanner without an exposure. -/
theorem State.ScanSound.loseLock {s : State} (h : s.ScanSound) : s.loseLock.ScanSound := by
  have hcount := h.facet.1
  refine .of_turning (by simpa [State.loseLock] using hcount) (fun f hf => ?_) ?_ fun hx => ?_
  · simp [State.loseLock] at hf
  · simp [State.turning, State.loseLock]
  · exact absurd ((State.isExposing_of_ended (State.abort_exposure? _ .lockLost)).symm.trans hx) nofun

/-- R115: lock comes to a scanner that was acquiring, and so to no exposure. -/
theorem State.ScanSound.lock {s : State} (h : s.ScanSound) (hseek : s.stu.scanner = .acquiring) : s.lock.ScanSound := by
  have hended := h.not_exposing (by simp [hseek])
  have hlocked : ((s.withStu { s.stu with scanner := .locked, spinUp := .stopped, badRun := 0 }).raise
      .scanner).ScanSound :=
    .of_turning h.facet.1 (fun _ hf => h.facet_lt hf) rfl fun hx => absurd (hended.symm.trans hx) nofun
  unfold State.lock
  dsimp only
  split
  · exact hlocked
  · exact .of_turning h.facet.1 (fun _ hf => h.facet_lt hf) rfl fun hx => absurd (hended.symm.trans hx) nofun

theorem nextFacet_lt {facets : Nat} {counter : Option Nat} (hpos : 0 < facets) {f : Nat}
    (h : nextFacet facets counter = some f) : f < facets := by
  obtain ⟨g, -, rfl⟩ := Option.map_eq_some_iff.mp h
  split <;> omega

theorem State.ScanSound.countMark {s : State} (h : s.ScanSound) (hturn : s.turning = true) (p : Option Nat) :
    (s.countMark p).ScanSound :=
  .of_turning h.facet.1 (fun _ hf => nextFacet_lt (Nat.lt_of_lt_of_le (by decide) h.facet.1.1) hf) hturn h.locked

theorem State.ScanSound.judgeMark {s : State} (h : s.ScanSound) (p : Option Nat) : (s.judgeMark p).ScanSound := by
  unfold State.judgeMark
  split
  next hscan =>
    have hcounted := h.countMark (s.turning_iff.mpr (.inl hscan)) p
    unfold State.judgeAcquiring
    dsimp only
    repeat' split
    · exact hcounted
    · exact hcounted.of_core rfl .inl
    · exact State.ScanSound.lock (hcounted.of_core rfl .inl) hscan
    · exact hcounted.of_core rfl .inl
    · exact hcounted
  next hscan =>
    have hcounted := h.countMark (s.turning_iff.mpr (.inr hscan)) p
    unfold State.judgeLocked
    repeat' split
    · exact hcounted
    · exact hcounted.of_core rfl .inl
    · exact hcounted.loseLock
    · exact hcounted.of_core rfl .inl
  next hscan =>
    have hended := h.not_exposing (by simp [hscan])
    exact .of_turning h.facet.1 (fun _ hf => h.facet_lt hf) rfl fun hx => absurd (hended.symm.trans hx) nofun
  · exact h
  · exact h

theorem State.ScannerInvariant.takeIndex {s : State} (h : s.ScannerInvariant) (hturn : s.turning = true) :
    s.takeIndex.ScannerInvariant := by
  have hcounter : (s.withStu { s.stu with facet := some 0 }).ScanSound := by
    refine .of_turning h.sound.facet.1 (fun f hf => ?_) hturn h.sound.locked
    obtain rfl : 0 = f := Option.some.inj hf
    exact Nat.lt_of_lt_of_le (by decide) h.sound.facet.1.1
  unfold State.takeIndex
  dsimp only
  repeat' split
  · exact ⟨hcounter, h.idle⟩
  · exact ⟨hcounter.of_core rfl .inl, h.idle⟩
  · exact hcounter.loseLock.invariant_of_ended (State.isExposing_of_ended (State.abort_exposure? _ .lockLost))
  all_goals exact h

theorem State.ScannerInvariant.missMark {s : State} (h : s.ScannerInvariant) : s.missMark.ScannerInvariant := by
  have hmissed : (s.withStu { s.stu with facet := none, missing := .stopped }).ScanSound :=
    ⟨⟨h.sound.facet.1, fun f hf => nomatch hf⟩, h.sound.channels, h.sound.locked⟩
  unfold State.missMark
  dsimp only
  split
  · exact ⟨hmissed.of_core rfl .inl, h.idle⟩
  · exact hmissed.loseLock.invariant_of_ended (State.isExposing_of_ended (State.abort_exposure? _ .lockLost))
  all_goals exact ⟨hmissed, h.idle⟩

/-! ### Lines and marks -/

theorem State.withdrawFetch_scanKept (s : State) : s.ScanKept s.withdrawFetch :=
  State.scanKept_of_film s.withdrawFetch_film s.withdrawFetch_stu s.withdrawFetch_lcu

theorem State.dropLine_scanKept (s : State) (y : Nat) : s.ScanKept (s.dropLine y) := by
  unfold State.dropLine
  dsimp only
  split
  · exact s.scanKept_refl
  · split
    · exact s.mapExposure_scanKept _
    · split
      · split
        · exact (s.mapExposure_scanKept _).trans (State.withdrawFetch_scanKept _)
        · exact s.mapExposure_scanKept _
      · exact s.mapExposure_scanKept _

theorem State.takeLine_scanKept (s : State) (r : LineRecord) : s.ScanKept (s.takeLine r) :=
  (s.mapExposure_scanKept _).trans ⟨rfl, id⟩

theorem State.putLine_scanKept (s : State) (x : Exposure) : s.ScanKept (s.putLine x) := by
  have hblank (y : Nat) : s.ScanKept (s.blankLine y) := (s.mapExposure_scanKept _).trans (State.dropLine_scanKept _ y)
  unfold State.putLine
  split
  · split
    · exact s.takeLine_scanKept _
    · exact hblank _
  · exact hblank _

theorem State.endLine_scanKept (s : State) (kind : LineKind) : s.ScanKept (s.endLine kind) :=
  (s.mapExposure_scanKept _).trans (State.scanKept_of_film rfl rfl rfl)

theorem State.lineOut_scanKept (s : State) (facet : Option Nat) : s.ScanKept (s.lineOut facet) := by
  unfold State.lineOut
  split
  · exact s.scanKept_refl
  · split
    · split
      · split
        · exact s.takeLine_scanKept _
        · exact s.scanKept_refl
      · exact s.scanKept_refl
    next kind _ =>
      dsimp only
      split
      · exact (s.endLine_scanKept kind).trans (State.frameEnd_scanKept _)
      · exact (s.endLine_scanKept kind).trans (State.putLine_scanKept _ _)

theorem State.markLine_scanKept (s : State) (m : MarkInput) : s.ScanKept (s.markLine m) := by
  unfold State.markLine
  split
  · exact s.lineOut_scanKept _
  · exact s.scanKept_refl

theorem State.ScanSound.markPart {s : State} (h : s.ScanSound) (m : MarkInput) (p : MarkPart) :
    (State.markPart m s p).ScanSound := by
  cases p with
  | sample c =>
    unfold State.markPart
    dsimp only
    split
    · exact State.startIfDue_scanSound s (h.sampleChannel c _)
    · exact h
  | judge =>
    have hjudged := State.startIfDue_scanSound s (h.judgeMark m.period)
    unfold State.markPart State.markJudge
    dsimp only
    split
    · exact (State.markLine_scanKept _ m).sound hjudged
    · exact hjudged

theorem State.ScanSound.takeMark {s : State} (h : s.ScanSound) (ticks : Nat) (samples : Rgb (BitVec 12))
    (order : MarkOrder) : (s.takeMark ticks samples order).ScannerInvariant := by
  have hparts (m : MarkInput) (ps : List MarkPart) (t : State) (ht : t.ScanSound) :
      (ps.foldl (State.markPart m) t).ScanSound := by
    induction ps generalizing t with
    | nil => exact ht
    | cons p ps ih => exact ih _ (ht.markPart m p)
  exact ((State.markLine_scanKept _ _).sound (hparts _ _ _ (s.dropDrives_scanKept.sound h))).quiesce

/-! ### Wakes, stops and halts -/

theorem State.ScanSound.wake {s : State} (h : s.ScanSound) (hstopped : s.stu.scanner = .stopped) :
    s.wake.ScanSound :=
  .of_still h.facet.1 rfl (h.channels (by simp [State.turning, hstopped])) (h.not_exposing (by simp [hstopped]))

theorem State.ScanSound.wakeIfDue {s : State} (h : s.ScanSound) : s.wakeIfDue.ScanSound := by
  unfold State.wakeIfDue
  split
  next hdue => exact h.wake hdue.1
  · exact h

theorem Rgb.map_off (v : Rgb LaserUnit) (c : Channel) : ((v.map LaserUnit.off).get c).state = .off := by
  rw [Rgb.get_map]
  rfl

/-- R119, R120: a stopped scanner, with nothing exposed. -/
theorem State.ScanSound.stopScanner {s : State} (h : s.ScanSound) (hended : s.isExposing = false) :
    s.stopScanner.ScanSound :=
  .of_still h.facet.1 rfl (Rgb.map_off s.lcu) hended

theorem State.ScanSound.channelsOff {s : State} (h : s.ScanSound) (hturn : s.turning = false) :
    s.channelsOff.ScanSound :=
  .of_still h.facet.1 (h.facet_unknown hturn) (Rgb.map_off s.lcu)
    (h.not_exposing fun hlock => absurd (hturn.symm.trans (s.turning_iff.mpr (.inr hlock))) nofun)

theorem State.ScanSound.haltScanner {s : State} (h : s.ScanSound) (hended : s.isExposing = false) :
    s.haltScanner.ScannerInvariant := by
  unfold State.haltScanner
  split
  next hscan => exact (h.stopScanner hended).invariant_of_ended hended
  next hscan => exact (h.stopScanner hended).invariant_of_ended hended
  next hscan => exact (h.stopScanner hended).invariant_of_ended hended
  next hscan => exact (h.channelsOff (by simp [State.turning, hscan])).invariant_of_ended hended
  next hscan => exact (h.channelsOff (by simp [State.turning, hscan])).invariant_of_ended hended

theorem State.ScannerInvariant.raise {s : State} (h : s.ScannerInvariant) (e : Event) : (s.raise e).ScannerInvariant :=
  h.of_film (s.raise_film e) (s.raise_stu e) (s.raise_lcu e)

theorem State.ScannerInvariant.abort {s : State} (h : s.ScannerInvariant) (r : SpoilReason) :
    (s.abort r).ScannerInvariant :=
  (s.abort_scanKept r).invariant (by rw [s.abort_stu r]) h

/-- R166. -/
theorem State.ScannerInvariant.halt {s : State} (h : s.ScannerInvariant) : s.halt.ScannerInvariant := by
  unfold State.halt
  split
  · exact h
  · have hended : (s.abort .eStop).isExposing = false := State.isExposing_of_ended (s.abort_exposure? .eStop)
    have hflag : ((s.abort .eStop).withGc { (s.abort .eStop).gc with halted := true }).ScanSound :=
      (h.abort .eStop).sound.of_core rfl .inl
    exact (hflag.haltScanner hended).raise .halt

/-- R116: the scanner fails while it seeks lock. -/
theorem State.ScanSound.scannerFault {s : State} (h : s.ScanSound) (hseek : s.seekingLock = true) :
    s.scannerFault.ScannerInvariant := by
  have hended : s.isExposing = false := h.not_exposing fun hlock => by
    simp [State.seekingLock, hlock] at hseek
  have hstill : s.scannerFault.ScanSound := .of_still h.facet.1 rfl (Rgb.map_off s.lcu) hended
  exact hstill.invariant_of_ended hended

/-- R119: the idle timer expires, so nothing is exposed. -/
theorem State.ScannerInvariant.standby {s : State} (h : s.ScannerInvariant) (hruns : s.stu.idle.runs = true) :
    s.standby.ScannerInvariant := by
  have hended : s.isExposing = false := by
    cases hx : s.isExposing with
    | false => rfl
    | true => simp [h.idle hx, Timer.runs] at hruns
  have hstill : s.standby.ScanSound := .of_still h.sound.facet.1 rfl (Rgb.map_off s.lcu) hended
  exact hstill.invariant_of_ended hended

end Sys2Proof.Machine
end

section
/-! ## The settling of O56 -/

namespace Sys2Proof.Machine
/-! ### Messages -/

/-- R110, R111, Table 6-4. -/
theorem decideWake_scannerInvariant {s : State} (h : s.ScannerInvariant) (role : Role) (payload : Payload Unit) :
    (decideWake role payload s).state.ScannerInvariant := by
  have hrestart : s.restartIdle.ScannerInvariant := by
    unfold State.restartIdle
    split
    next full hidle =>
      refine State.ScanSound.invariant_of_ended (h.sound.of_core (by rfl) .inl) ?_
      cases hx : s.isExposing with
      | false => exact hx
      | true => exact absurd (hidle.symm.trans (h.idle hx)) nofun
    · exact h
  unfold decideWake; repeat' split
  any_goals exact h
  next hscan _ =>
    exact (h.sound.wake hscan).invariant_of_ended (h.sound.not_exposing (by simp [hscan]))
  · exact hrestart

/-- R121: a setting stored; the facet count changes only while the counter is UNKNOWN. -/
theorem State.ScannerInvariant.storeScanner {s : State} (h : s.ScannerInvariant) {p : ScannerParam} {v : Nat}
    (hrange : scannerInRange p v = true) (hrest : p ≠ .idleTimeout → s.scannerAtRest = true) :
    (s.storeScanner p v).ScannerInvariant := by
  have hstored : (s.withStu { s.stu with settings := s.stu.settings.store p v }).ScannerInvariant := by
    cases p with
    | facetCount =>
      have hscan := of_decide_eq_true (hrest nofun)
      have hturn : s.turning = false := by rcases hscan with hs | hs <;> simp [State.turning, hs]
      have hended : s.isExposing = false := h.sound.not_exposing (by rcases hscan with hs | hs <;> simp [hs])
      exact State.ScanSound.invariant_of_ended (.of_still (of_decide_eq_true hrange) (h.sound.facet_unknown hturn)
        (h.sound.channels hturn) hended) hended
    | period | tolerance | spinupTimeout | idleTimeout => exact ⟨h.sound.of_core rfl .inl, h.idle⟩
  unfold State.storeScanner
  dsimp only
  split
  · exact State.ScanSound.updateIdle (hstored.sound.of_core rfl .inl)
  · exact hstored

theorem decideSetParam_scannerInvariant {s : State} (h : s.ScannerInvariant) (role : Role)
    (payload : Payload ScannerParamArgs) : (decideSetParam role payload s).state.ScannerInvariant := by
  unfold decideSetParam; repeat' split
  any_goals exact h
  next hrange hrest =>
    exact h.storeScanner (by simpa using hrange) fun hp => by simpa [hp] using hrest

theorem decideSetParamLaser_scannerInvariant {s : State} (h : s.ScannerInvariant) (role : Role)
    (payload : Payload LaserParamArgs) : (decideSetParamLaser role payload s).state.ScannerInvariant := by
  have hstates (c : Channel) (f : LaserUnit → LaserUnit) (hf : ∀ u, (f u).state = u.state) :
      (s.mapLaser c f).ScannerInvariant := by
    have hlasers : (s.lcu.set c (f (s.lcu.get c))).map LaserUnit.state = s.lcu.map LaserUnit.state := by
      cases c <;> simp only [Rgb.map, Rgb.set, Rgb.get, hf]
    exact State.ScanKept.invariant (s := s) ⟨congrArg (ScanCore.mk _ _ _) hlasers, id⟩ (by rfl) h
  unfold decideSetParamLaser; dsimp only; repeat' split
  any_goals exact h
  refine hstates _ (fun u => { u with settings := u.settings.store _ _ }) fun _ => rfl

/-- R118: out of FAULT the scanner is still, its channels off, before the wake is tested. -/
theorem State.ScannerInvariant.resetScanner {s : State} (h : s.ScannerInvariant) (hfault : s.stu.scanner = .fault) :
    s.resetScanner.ScannerInvariant := by
  have hended := h.sound.not_exposing (by simp [hfault])
  unfold State.resetScanner
  generalize hreset : (s.withStu { s.stu with
    scanner := .stopped, facet := none, acq := 0, badRun := 0, lastPeriod := none }).channelsOff = t
  have hstill : t.ScanSound := by
    rw [← hreset]
    exact .of_still h.sound.facet.1 rfl (Rgb.map_off s.lcu) hended
  have htended : t.isExposing = false := by
    rw [← hreset]
    exact hended
  exact hstill.wakeIfDue.invariant_of_ended ((State.isExposing_congr t.wakeIfDue_film).trans htended)

theorem decideScannerReset_scannerInvariant {s : State} (h : s.ScannerInvariant) (role : Role) (payload : Payload Unit) :
    (decideScannerReset role payload s).state.ScannerInvariant := by
  unfold decideScannerReset; repeat' split
  any_goals exact h
  next hfault => exact h.resetScanner hfault

theorem laserNamed_fault {t : LaserTarget} {v : Rgb LaserUnit} {c : Channel} (h : laserNamed t v c = true) :
    (v.get c).state = .fault := by
  unfold laserNamed at h
  split at h
  · exact of_decide_eq_true h
  · simp only [Bool.and_eq_true, decide_eq_true_eq] at h
    exact h.2

/-- R141: a channel in FAULT is reset, so the scanner turns and nothing is exposed. -/
theorem State.ScannerInvariant.resetLasers {s : State} (h : s.ScannerInvariant) (t : LaserTarget) {c : Channel}
    (hc : laserNamed t s.lcu c = true) : (s.resetLasers t).ScannerInvariant := by
  have hfault := laserNamed_fault hc
  have hturn : s.turning = true := by
    cases hturn : s.turning with
    | true => rfl
    | false => exact absurd ((h.sound.channels hturn c).symm.trans hfault) nofun
  have hended : s.isExposing = false := by
    cases hx : s.isExposing with
    | false => rfl
    | true => exact absurd ((s.lasersReady_iff.mp (h.sound.locked hx).2 c).symm.trans hfault) nofun
  have hreset : (s.resetLasers t).ScanSound :=
    .of_turning h.sound.facet.1 (fun _ hf => h.sound.facet_lt hf) hturn
      fun hx => absurd (hended.symm.trans hx) nofun
  exact hreset.invariant_of_ended hended

theorem decideLaserReset_scannerInvariant {s : State} (h : s.ScannerInvariant) (role : Role)
    (payload : Payload (Coded LaserTarget)) : (decideLaserReset role payload s).state.ScannerInvariant := by
  unfold decideLaserReset; repeat' split
  any_goals exact h
  next hnamed =>
    simp only [Bool.or_eq_true] at hnamed
    rcases hnamed with (hr | hg) | hb
    · exact h.resetLasers _ hr
    · exact h.resetLasers _ hg
    · exact h.resetLasers _ hb

/-- The messages to the attention unit, the calibration store, the scanner and the channels, and HOLD. -/
theorem decisionOf_scannerInvariant_of_apart {c : Instr} {d : State → Decision} (hc : apartFromMemory c = true)
    (hd : decisionOf c = some d) {s : State} (h : s.ScannerInvariant) : (d s).state.ScannerInvariant := by
  cases c <;> simp only [apartFromMemory, Bool.false_eq_true] at hc <;> cases hd
  case wake => exact decideWake_scannerInvariant h _ _
  case setParam => exact decideSetParam_scannerInvariant h _ _
  case setParamLaser => exact decideSetParamLaser_scannerInvariant h _ _
  case scannerReset => exact decideScannerReset_scannerInvariant h _ _
  case laserReset => exact decideLaserReset_scannerInvariant h _ _
  case bindAttn => unfold decideBindAttn; repeat' split
                   all_goals exact h.of_film rfl rfl rfl
  case unbind => unfold decideUnbind; repeat' split
                 all_goals exact h.of_film rfl rfl rfl
  case setMask | ackEvents | forceEvent => unfold decideOwner; dsimp only; repeat' split
                                           all_goals exact h.of_film rfl rfl rfl
  case beginSet => unfold decideBeginSet; repeat' split
                   all_goals exact h.of_film rfl rfl rfl
  case writeTable => unfold decideWriteTable; dsimp only; repeat' split
                     all_goals exact h.of_film rfl rfl rfl
  case publishSet => unfold decidePublishSet; repeat' split
                     all_goals exact h.of_film rfl rfl rfl
  case freeSet => unfold decideFreeSet; repeat' split
                  all_goals exact h.of_film rfl rfl rfl
  case setTrim => unfold decideSetTrim; repeat' split
                  all_goals exact h.of_film rfl rfl rfl
  case writeOptics => unfold decideWriteOptics; dsimp only; repeat' split
                      all_goals exact h.of_film rfl rfl rfl
  case hold =>
    unfold decideHold; repeat' split
    any_goals exact h
    exact h.of_film (s.addHeld_film .operator) (s.addHeld_stu .operator) (s.addHeld_lcu .operator)
  case unknownKindMessage => exact h

theorem decideSubmit_scannerInvariant {s : State} (h : s.ScannerInvariant) (allowed : Bool) (sender : Addr)
    (a : Option Submission) : (decideSubmit allowed sender a s).state.ScannerInvariant := by
  have hjoined (f : Submission) : (s.joinQueue sender f).ScanSound := by
    have hjoin : (s.joined sender f).film = s.film ∧ (s.joined sender f).stu = s.stu ∧ (s.joined sender f).lcu = s.lcu := by
      unfold State.joined State.roomMade
      dsimp only
      repeat' split
      all_goals simp
    obtain ⟨hfilm, hstu, hlcu⟩ := hjoin
    rw [State.joinQueue_eq]
    split
    · exact (State.scanKept_of_film ((State.enterWindow_film _ _).trans hfilm) ((State.enterWindow_stu _ _).trans hstu)
        ((State.enterWindow_lcu _ _).trans hlcu)).sound h.sound
    · exact (State.scanKept_of_film hfilm hstu hlcu).sound h.sound
  unfold decideSubmit State.submit; dsimp only; repeat' split
  any_goals exact h
  · exact State.ScanSound.settle s (hjoined _).wakeIfDue
  · exact State.ScanSound.settle s (hjoined _)

theorem decideMagLoad_scannerInvariant {s : State} (h : s.ScannerInvariant) (role : Role) (payload : List Byte) :
    (decideMagLoad role payload s).state.ScannerInvariant := by
  have hheld (t : MagazineTag) : (s.holdMagazine t).ScannerInvariant :=
    State.ScanKept.invariant (s := s) ⟨rfl, id⟩ rfl h
  unfold decideMagLoad State.takeMagazine; dsimp only; repeat' split
  any_goals exact h
  · exact State.ScannerInvariant.raise (h.of_ended (t := s.loadMagazine _) rfl rfl rfl) .magazine
  · exact (hheld _).raise .magazine

theorem decideMagUnload_scannerInvariant {s : State} (h : s.ScannerInvariant) (role : Role) (payload : Payload Unit) :
    (decideMagUnload role payload s).state.ScannerInvariant := by
  have hunload : s.unloadMagazine.ScannerInvariant := by
    unfold State.unloadMagazine
    split
    · exact h
    · exact State.ScannerInvariant.raise
        (State.ScanKept.invariant (s := s) (t := s.withGc { s.gc with magazine := .absent }) ⟨rfl, id⟩ rfl h) .magazine
    · refine State.ScannerInvariant.raise ((h.abort .magRemoved).of_ended ?_ ?_ ?_) .magazine
      all_goals rfl
  unfold decideMagUnload; repeat' split
  any_goals exact h
  exact hunload

theorem decideGateReady_scannerInvariant {s : State} (h : s.ScannerInvariant) (role : Role) (payload : Payload Nat) :
    (decideGateReady role payload s).state.ScannerInvariant := by
  have hregistered (q : Nat) : (s.registerFilm q).ScannerInvariant :=
    State.ScanSound.settle s (State.ScanKept.sound (s := s) (State.scanKept_of_ended (by rfl)
      (State.appendUnknown_stu _ _) (State.appendUnknown_lcu _ _)) h.sound)
  have hposition (q : Nat) : (decidePosition q s).state.ScannerInvariant := by
    unfold decidePosition; repeat' split
    · exact h.raise .gate
    · exact h
    · exact hregistered q
  unfold decideGateReady; repeat' split
  any_goals exact h
  all_goals exact hposition _

theorem decideGateFault_scannerInvariant {s : State} (h : s.ScannerInvariant) (role : Role) (payload : Payload Unit) :
    (decideGateFault role payload s).state.ScannerInvariant := by
  have hfault : ((s.withGate .fault).raise .gate).ScannerInvariant :=
    State.ScannerInvariant.raise (h.of_ended (t := s.withGate .fault) rfl rfl rfl) .gate
  unfold decideGateFault; repeat' split
  any_goals exact h
  · exact (h.abort .gateFault).raise .gate
  all_goals exact hfault

theorem decideNamed_scannerInvariant {α : Type} {s : State} (h : s.ScannerInvariant) (sender : Addr)
    (submitter : α → Option Nat) (payload : NamedPayload α Nat) (take : α → Nat → Decision)
    (htake : ∀ a n, (take a n).state.ScannerInvariant) :
    (decideNamed sender submitter payload take s).state.ScannerInvariant := by
  unfold decideNamed; dsimp only; repeat' split
  any_goals exact h
  exact htake _ _

theorem decideCancel_scannerInvariant {s : State} (h : s.ScannerInvariant) (sender : Addr)
    (payload : NamedPayload CancelArgs Nat) : (decideCancel sender payload s).state.ScannerInvariant := by
  refine decideNamed_scannerInvariant h _ _ _ _ fun a n => ?_
  split
  · exact h
  next e _ =>
    split
    · exact State.ScanSound.settle s
        (h.of_film (s.cancelEntry_film e) (s.cancelEntry_stu e) (s.cancelEntry_lcu e)).sound
    · exact h

theorem decideFlush_scannerInvariant {s : State} (h : s.ScannerInvariant) (sender : Addr)
    (payload : NamedPayload (Option Nat) Nat) : (decideFlush sender payload s).state.ScannerInvariant :=
  decideNamed_scannerInvariant h _ _ _ _ fun _ _ => State.ScanSound.settle s
    (h.of_film (State.cancelAll_film _ _) (State.cancelAll_stu _ _) (State.cancelAll_lcu _ _)).sound

/-- R193: the abort is all a recorder reset does to the film and the channels. -/
theorem State.ScannerInvariant.recorderReset {s : State} (h : s.ScannerInvariant) :
    s.recorderReset.ScannerInvariant := by
  have hreader : (s.withSr .afterReset).ScannerInvariant := h.of_film rfl rfl rfl
  obtain ⟨cs, hflush⟩ := ((s.withSr .afterReset).abort .reset).flushQueue_shape
  unfold State.recorderReset
  rw [hflush]
  exact State.ScanSound.updateIdle ((hreader.abort .reset).sound.of_core (by rfl) .inl)

theorem State.ScannerInvariant.resume {s : State} (h : s.ScannerInvariant) : s.resume.ScannerInvariant := by
  unfold State.resume
  split
  · have hcleared : (s.withGc { s.gc with halted := false }).ScanSound := h.sound.of_core rfl .inl
    exact State.ScanSound.settle s hcleared.wakeIfDue
  · exact h

/-- The messages about the queue, the film and the part as a whole. -/
theorem decisionOf_scannerInvariant_of_action {c : Instr} {d : State → Decision} (hq : c.isQuery = false)
    (hc : apartFromMemory c = false) (hd : decisionOf c = some d) {s : State} (h : s.ScannerInvariant) :
    (d s).state.ScannerInvariant := by
  cases c <;> simp only [Instr.isQuery, apartFromMemory, Bool.true_eq_false] at hq hc <;> cases hd
  case magLoad => exact decideMagLoad_scannerInvariant h _ _
  case magUnload => exact decideMagUnload_scannerInvariant h _ _
  case gateReady => exact decideGateReady_scannerInvariant h _ _
  case gateFault => exact decideGateFault_scannerInvariant h _ _
  case abortFrame =>
    unfold decideAbortFrame; repeat' split
    any_goals exact h
    exact h.abort .aborted
  case submitStored | submitFlat | submitRunout => exact decideSubmit_scannerInvariant h _ _ _
  case cancel => exact decideCancel_scannerInvariant h _ _
  case flush => exact decideFlush_scannerInvariant h _ _
  case release =>
    unfold decideRelease; repeat' split
    any_goals exact h
    exact State.ScanSound.settle s (h.sound.of_core rfl .inl)
  case eStop =>
    unfold decideEStop; repeat' split
    any_goals exact h
    exact h.halt
  case recorderReset =>
    unfold decideRecorderReset; repeat' split
    any_goals exact h
    exact h.recorderReset
  case resume =>
    unfold decideResume; repeat' split
    any_goals exact h
    exact h.resume

/-- Whatever an owning block decides of a message keeps the scanner's invariants. -/
theorem decisionOf_scannerInvariant {c : Instr} {d : State → Decision} (hd : decisionOf c = some d) {s : State}
    (h : s.ScannerInvariant) : (d s).state.ScannerInvariant := by
  cases hq : c.isQuery with
  | true =>
    obtain ⟨n, hfree, -⟩ := decisionOf_query hq hd s
    rw [show (d s).state = { s with free := n } from hfree]
    exact h.of_film rfl rfl rfl
  | false =>
    cases hapart : apartFromMemory c with
    | true => exact decisionOf_scannerInvariant_of_apart hapart hd h
    | false => exact decisionOf_scannerInvariant_of_action hq hapart hd h

/-- Reception adds only the reply to what the decision makes of the state. -/
theorem onMessage_scannerInvariant {c : Instr} {a : Addr} {k : Byte} {d : State → Decision} {s t : State}
    (h : s.ScannerInvariant) (hd : (d s).state.ScannerInvariant) (ht : onMessage c a k d s = .next t) :
    t.ScannerInvariant := by
  unfold onMessage at ht
  split at ht
  · split at ht <;> cases ht
    · exact hd.of_film rfl rfl rfl
    · exact h.of_film rfl rfl rfl
  · cases ht; exact h

/-- A message addressed to the part keeps the scanner's invariants. -/
theorem exec_message_scannerInvariant {c : Instr} {a : Addr} (ha : c.sender? = some a) {s t : State}
    (h : s.ScannerInvariant) (ht : exec c s = .next t) : t.ScannerInvariant := by
  obtain ⟨k, d, hk, hd⟩ := decisionOf_isSome c a ha
  by_cases hu : ∃ b code, c = .unknownKindMessage b code ∧ kindCodes.contains code = true
  · obtain ⟨b, code, rfl, hcode⟩ := hu
    simp only [exec, execUnknownKindMessage, hcode, if_true, Host.Outcome.next.injEq] at ht
    exact ht ▸ h
  · rw [exec_message c a k d s ha hk hd fun b code hc => by simpa using fun hcode => hu ⟨b, code, hc, hcode⟩] at ht
    exact onMessage_scannerInvariant h (decisionOf_scannerInvariant hd h) ht

/-! ### Completions -/

theorem State.walk_stu (s : State) (g : Staging) (bs : List Byte) : (s.walk g bs).stu = s.stu := by
  unfold State.walk
  split <;> simp

theorem State.ScannerInvariant.stagingReadDone {s : State} (h : s.ScannerInvariant) :
    s.stagingReadDone.ScannerInvariant := by
  unfold State.stagingReadDone
  split
  · exact State.ScanSound.settle s (h.of_film ((State.walk_film ..).trans s.freeChannel_film)
      ((State.walk_stu ..).trans s.freeChannel_stu) ((State.walk_lcu ..).trans s.freeChannel_lcu)).sound
  · exact h

theorem State.fetchBytes_scanKept (s : State) (e : Entry) (f : LineFetch) (bytes : List Byte) :
    s.ScanKept (s.fetchBytes e f bytes) := by
  have hover (flipH : Bool) (g : LineFetch) : s.ScanKept (s.handOver flipH g) :=
    State.ScanKept.trans (t := s.withSr { s.sr with fetch := none }) (State.scanKept_of_film rfl rfl rfl)
      (State.mapExposure_scanKept _ _)
  unfold State.fetchBytes
  dsimp only
  repeat' split
  · exact hover _ _
  · exact State.scanKept_of_film rfl rfl rfl
  · exact s.scanKept_refl
  · exact s.scanKept_refl

theorem State.ScannerInvariant.fetchReadDone {s : State} (h : s.ScannerInvariant) :
    s.fetchReadDone.ScannerInvariant := by
  unfold State.fetchReadDone
  split
  · exact State.ScanSound.settle s ((State.fetchBytes_scanKept ..).sound
      (h.of_film s.freeChannel_film s.freeChannel_stu s.freeChannel_lcu).sound)
  · exact h

theorem State.ScannerInvariant.markingDone {s : State} (h : s.ScannerInvariant) : s.markingDone.ScannerInvariant := by
  have hfreed : s.freeChannel.ScannerInvariant := h.of_film s.freeChannel_film s.freeChannel_stu s.freeChannel_lcu
  unfold State.markingDone
  split
  · refine State.ScanSound.settle s ?_
    split
    · exact (hfreed.of_film (State.endWriteBack_film _) (State.endWriteBack_stu _) (State.endWriteBack_lcu _)).sound
    · exact hfreed.sound
  · exact h

theorem State.ScannerInvariant.lineDone {s : State} (h : s.ScannerInvariant) : s.lineDone.ScannerInvariant := by
  unfold State.lineDone
  repeat' split
  any_goals exact h
  exact State.ScanSound.settle s ((s.mapExposure_scanKept _).sound h.sound)

/-! ### The other events -/

theorem whenRunning_scannerInvariant {f : State → State} {s t : State} (h : s.ScannerInvariant)
    (hf : (f s).ScannerInvariant) (ht : whenRunning f s = .next t) : t.ScannerInvariant := by
  unfold whenRunning at ht
  split at ht <;> cases ht
  · exact h
  · exact hf

/-- R205: the assertion of RESET_N leaves the scanner, the states of the channels and what is exposed. -/
theorem State.ScannerInvariant.hardReset {s : State} (h : s.ScannerInvariant) :
    ((s.dropDrives.endOperations.silenceBus).withPins { s.pins with resetLow := true }).ScannerInvariant := by
  have hcut (v : StripReader) (w : FramePort) : s.dropDrives.ScanKept ((s.dropDrives.withSr v).withPort w) :=
    State.scanKept_of_film rfl rfl rfl
  have hended : s.ScanKept s.dropDrives.endOperations :=
    (s.dropDrives_scanKept.trans (hcut _ _)).trans (State.mapExposure_scanKept _ _)
  have hstu : s.dropDrives.endOperations.stu = s.stu := by simp [State.endOperations]
  exact State.ScanKept.invariant (s := s)
    (hended.trans (State.scanKept_of_film (by rfl) (by rfl) (by rfl))) (congrArg ScanTiming.idle hstu) h

theorem State.afterHardReset_scannerInvariant (s1 s0 estopLow : Bool) (epoch lstep free : Nat) (pending : List Instr) :
    (State.afterHardReset s1 s0 estopLow epoch lstep free pending).ScannerInvariant :=
  State.ScanSound.invariant_of_ended (State.ScanSound.of_still (show 4 ≤ 8 ∧ 8 ≤ 16 by decide) rfl (fun c => by cases c <;> rfl) rfl) rfl

/-- A command that is no message addressed to the part keeps the scanner's invariants. -/
theorem exec_event_scannerInvariant {c : Instr} (hc : c.sender? = none) {s t : State} (h : s.ScannerInvariant)
    (ht : exec c s = .next t) : t.ScannerInvariant := by
  have awaits : s.awaitIdle.ScannerInvariant := h.of_film rfl rfl rfl
  have ends : s.endTenure.ScannerInvariant := h.of_film rfl rfl rfl
  cases c <;> simp only [Instr.sender?, reduceCtorEq] at hc
  case broadcastMessage sender kind =>
    have hcast : (s.takeBroadcast sender kind).ScannerInvariant := by
      unfold State.takeBroadcast
      split
      · exact h.halt
      · exact h
    simp only [exec, execBroadcastMessage] at ht
    split at ht
    · split at ht <;> cases ht
      · exact hcast.of_film rfl rfl rfl
      · exact awaits
    · cases ht; exact h
  case frameDiscard =>
    simp only [exec, execFrameDiscard] at ht
    split at ht <;> cases ht
    · exact awaits
    · exact h
  case frameIgnored =>
    simp only [exec, execFrameIgnored] at ht
    split at ht <;> cases ht
    · exact awaits
    · exact h
  case replyCollision =>
    simp only [exec, execReplyCollision] at ht
    split at ht <;> cases ht
    · exact ends
    · exact h
  case replyEnd =>
    simp only [exec, execReplyEnd] at ht
    split at ht <;> cases ht
    · exact ends
    · exact h
  case portWrite offset bytes =>
    simp only [exec, execPortWrite] at ht
    split at ht <;> cases ht
    · unfold State.takeWrite
      split <;> exact h.of_film rfl rfl rfl
    · exact h
  case portRead offset request =>
    simp only [exec, execPortRead] at ht
    split at ht <;> cases ht
    · unfold State.takeRead State.serveWaiting; dsimp only
      repeat' split
      all_goals exact h.of_film rfl rfl rfl
    · exact h
  case pcieLinkUp =>
    simp only [exec, execPcieLinkUp] at ht
    split at ht <;> cases ht
    · exact h
    · exact h.of_film rfl rfl rfl
  case deckBusIdle =>
    exact whenRunning_scannerInvariant (f := fun s => s.withDbi { s.dbi with waitIdle := false }) h
      (h.of_film rfl rfl rfl) ht
  case startOfScanMark ticks samples order =>
    refine whenRunning_scannerInvariant h ?_ ht
    split
    · exact h.sound.takeMark ticks samples order
    · exact h
  case indexPulse =>
    refine whenRunning_scannerInvariant h ?_ ht
    split
    next hturn => exact h.takeIndex hturn
    · exact h
  case spinUpTimerExpiry =>
    refine whenRunning_scannerInvariant h ?_ ht
    split
    next hseek => exact h.sound.scannerFault (Bool.and_eq_true_iff.mp hseek).2
    · exact h
  case missingMarkTimerExpiry =>
    refine whenRunning_scannerInvariant h ?_ ht
    split
    · exact h.missMark
    · exact h
  case idleTimerExpiry =>
    refine whenRunning_scannerInvariant h ?_ ht
    split
    next hruns => exact h.standby (Bool.and_eq_true_iff.mp hruns).1
    · exact h
  case estopNAsserted =>
    have hlevel : (s.withEstop true).ScannerInvariant := h.of_film rfl rfl rfl
    simp only [exec, execEstopNAsserted] at ht
    split at ht <;> cases ht
    · exact hlevel
    · exact hlevel.halt
  case estopNDeasserted => cases ht; exact h.of_film rfl rfl rfl
  case hardReset => cases ht; exact h.hardReset
  case hardResetEnd => cases ht; exact State.afterHardReset_scannerInvariant ..
  case stagingRead => exact whenRunning_scannerInvariant h h.stagingReadDone ht
  case lineFetchRead => exact whenRunning_scannerInvariant h h.fetchReadDone ht
  case writeBackMarking => exact whenRunning_scannerInvariant h h.markingDone ht
  case lineComputed => exact whenRunning_scannerInvariant h h.lineDone ht

theorem exec_scannerInvariant {c : Instr} {s t : State} (h : s.ScannerInvariant) (ht : exec c s = .next t) :
    t.ScannerInvariant := by
  cases hc : c.sender? with
  | some a => exact exec_message_scannerInvariant hc h ht
  | none => exact exec_event_scannerInvariant hc h ht

theorem step_scannerInvariant {s t : State} (h : s.ScannerInvariant) (ht : step s = .next t) : t.ScannerInvariant := by
  cases hp : s.pending with
  | nil => rw [step_nil s hp] at ht; cases ht; exact h
  | cons c rest =>
    rw [step_cons s c rest hp] at ht
    exact exec_scannerInvariant (s := s.withPending rest) (h.of_film rfl rfl rfl) ht

/-- Settles O56: a state is sound when its scanner turns under lock with what it exposes, or is still with its channels
off; every command keeps this, and the end of each event stops the idle timer of an exposure. -/
theorem stepKeepsScannerInvariants : Obligations.StepKeepsScannerInvariants := fun s t h ht =>
  t.scannerInvariant_iff.mp (step_scannerInvariant (s.scannerInvariant_iff.mpr h) ht)

end Sys2Proof.Machine
end

section
/-! ## The settling of O22, O23 and O24: WAKE, SET_PARAM, SCANNER_RESET and LASER_RESET -/

namespace Sys2Proof.Machine
/-! ### WAKE -/

/-- R111: a running idle timer restarts; a stopped one stays so. -/
theorem State.restartIdle_eq (s : State) : s.restartIdle = { s with stu := { s.stu with
    idle := if s.stu.idle = .stopped then .stopped else .running s.stu.settings.idleTimeout } } := by
  unfold State.restartIdle
  split
  next full hidle => rw [hidle, if_neg nofun]; rfl
  next hidle => rw [if_pos hidle, ← hidle]

/-- R111: a WAKE is decided alike for every role but OBSERVER. -/
theorem decideWake_master {role : Role} (h : role ≠ .observer) (s : State) :
    decideWake role (.fits ()) s = decideWake .job (.fits ()) s := by
  cases role with
  | observer => exact absurd rfl h
  | job | transport | calibration => rfl

/-- Settles O22: Table 6-4, state by state. -/
theorem wakeByScannerState : Obligations.WakeByScannerState := by
  intro a s htakes
  have hreplies {t : State} {st : Status} {data : ReplyData} (hd : decideWake (roleOf a) (.fits ()) s = ⟨t, st, data⟩) :
      exec (.wake a (.fits ())) s = .next (t.replying (.wake a (.fits ())) a 0x05 st data) :=
    exec_replies rfl htakes hd
  refine ⟨fun hrole => hreplies ?_, fun hrole => ?_⟩
  · simp [decideWake, Role.isMaster, hrole, refuse]
  have hmaster := decideWake_master hrole s
  refine ⟨fun hscan hrun => ?_, fun hscan hhalt => ?_, fun hscan => ?_, fun hscan => ?_, fun hscan => ?_⟩
  · exact hreplies (by rw [hmaster, decideWake, hscan, hrun]; rfl)
  · exact hreplies (by rw [hmaster, decideWake, hscan, hhalt]; rfl)
  · refine hreplies ?_
    rcases hscan with hscan | hscan <;> rw [hmaster, decideWake, hscan] <;>
      exact congrArg (Decision.mk s .ok <| .scannerState ·) hscan
  · refine hreplies ?_
    rw [hmaster, decideWake, hscan]
    dsimp only
    rw [s.restartIdle_eq, ← hscan]
    rfl
  · exact hreplies (by rw [hmaster, decideWake, hscan]; rfl)

/-! ### SET_PARAM -/

theorem decideSetParam_named (p : ScannerParam) (v : Nat) (s : State) :
    decideSetParam .job (.fits ⟨.named p, v⟩) s =
      if scannerInRange p v = true then
        if p ≠ .idleTimeout ∧ s.scannerAtRest = false then refuse s .state
        else accept (s.storeScanner p v) (.storedValue v)
      else refuse s .arg := by
  unfold decideSetParam
  cases hrange : scannerInRange p v <;> simp [hrange]

theorem decideSetParamLaser_named (p : LaserParam) (ch : Channel) (v : Nat) (s : State) :
    decideSetParamLaser .job (.fits ⟨p, .named ch, v⟩) s =
      if laserInRange p (s.lcu.get ch).settings v = true then
        if p ≠ .driveLimit ∧ (s.lcu.get ch).fires = true then refuse s .state
        else accept (s.mapLaser ch fun u => { u with settings := u.settings.store p v }) (.storedValue v)
      else refuse s .arg := by
  unfold decideSetParamLaser
  cases hrange : laserInRange p (s.lcu.get ch).settings v <;> simp [hrange]

theorem State.scannerAtRest_iff (s : State) :
    s.scannerAtRest = true ↔ s.stu.scanner = .stopped ∨ s.stu.scanner = .fault := decide_eq_true_iff

theorem State.scannerAtRest_eq_false (s : State) :
    s.scannerAtRest = false ↔ s.stu.scanner = .spinningUp ∨ s.turning = true := by
  unfold State.scannerAtRest State.turning
  cases s.stu.scanner <;> simp

/-- R121: a new idle timeout sets the idle timer by the conditions of R119. -/
theorem State.storeScanner_idleTimeout (s : State) (v : Nat) : s.storeScanner .idleTimeout v =
    { s with stu := { s.stu with
      settings := { s.stu.settings with idleTimeout := v }
      idle := if s.isLocked && !s.isExposing && !s.hasImageEntry && decide (v ≠ 0) then .running v else .stopped } } := by
  have hstored (t : State) (ht : t = { s with stu := { s.stu with
      settings := { s.stu.settings with idleTimeout := v }, idle := .stopped } }) : t.updateIdle = { t with stu := { t.stu with
      idle := if s.isLocked && !s.isExposing && !s.hasImageEntry && decide (v ≠ 0) then .running v else .stopped } } := by
    have hconditions : (t.isLocked && !t.isExposing && !t.hasImageEntry && decide (t.stu.settings.idleTimeout ≠ 0)) =
        (s.isLocked && !s.isExposing && !s.hasImageEntry && decide (v ≠ 0)) := by rw [ht]; rfl
    have hidle : t.stu.idle = .stopped := by rw [ht]
    have htimeout : t.stu.settings.idleTimeout = v := by rw [ht]
    unfold State.updateIdle
    rw [hconditions, hidle, htimeout]
    split <;> rfl
  exact hstored _ rfl

/-- R121: one of the first four settings is stored and nothing else changes. -/
theorem State.storeScanner_other (s : State) {p : ScannerParam} (hp : p ≠ .idleTimeout) (v : Nat) :
    s.storeScanner p v = { s with stu := { s.stu with settings := s.stu.settings.store p v } } := by
  unfold State.storeScanner
  rw [if_neg hp]
  rfl

/-- Settles O23: the tests of each decision in order; what is stored is read off the setting named. -/
theorem setParamStoresInRange : Obligations.SetParamStoresInRange := by
  constructor
  · intro a p v s htakes hrole c range stored
    have hreplies {t : State} {st : Status} {data : ReplyData}
        (hd : decideSetParam .job (.fits ⟨.named p, v⟩) s = ⟨t, st, data⟩) :
        exec c s = .next (t.replying c a 0x06 st data) := exec_replies rfl htakes (by rw [hrole]; exact hd)
    have hrange : scannerInRange p v = true ↔ range.1 ≤ v ∧ v ≤ range.2 := by
      cases p <;> simp [scannerInRange, range]
    have hstored : s.stu.settings.store p v = stored := by cases p <;> rfl
    refine ⟨fun hout => hreplies ?_, fun hlow hhigh => ⟨fun hp hscan => hreplies ?_, fun hp hscan => hreplies ?_,
      fun hp => hreplies ?_⟩⟩ <;> rw [decideSetParam_named]
    · rw [if_neg (by rw [hrange]; omega)]
      rfl
    · rw [if_pos (hrange.mpr ⟨hlow, hhigh⟩), if_pos ⟨hp, s.scannerAtRest_eq_false.mpr hscan⟩]
      rfl
    · rw [if_pos (hrange.mpr ⟨hlow, hhigh⟩), if_neg (by simp [s.scannerAtRest_iff.mpr hscan]),
        s.storeScanner_other hp, hstored]
      rfl
    · rw [if_pos (hrange.mpr ⟨hlow, hhigh⟩), if_neg (by simp [hp])]
      subst hp
      rw [s.storeScanner_idleTimeout]
      rfl
  · intro a p ch v s htakes hrole c u good stored
    have hreplies {t : State} {st : Status} {data : ReplyData}
        (hd : decideSetParamLaser .job (.fits ⟨p, .named ch, v⟩) s = ⟨t, st, data⟩) :
        exec c s = .next (t.replying c a 0x06 st data) := exec_replies rfl htakes (by rw [hrole]; exact hd)
    have hgood : laserInRange p u.settings v = true ↔ good := by
      cases p <;> simp [laserInRange, good]
    have hstored : u.settings.store p v = stored := by cases p <;> rfl
    refine ⟨fun hbad => hreplies ?_, fun hok hp hstate => hreplies ?_, fun hok hstate => hreplies ?_⟩ <;>
      rw [decideSetParamLaser_named]
    · rw [if_neg (hgood.not.mpr hbad)]
      rfl
    · rw [if_pos (hgood.mpr hok), if_pos ⟨hp, decide_eq_true hstate⟩]
      rfl
    · have hquiet : ¬ (p ≠ .driveLimit ∧ u.fires = true) := by
        rintro ⟨hp, hfires⟩
        rcases hstate with hp' | hs | hs
        · exact hp hp'
        all_goals simp [LaserUnit.fires, hs] at hfires
      rw [if_pos (hgood.mpr hok), if_neg hquiet, ← hstored]
      rfl

/-! ### SCANNER_RESET and LASER_RESET -/

theorem Rgb.get_tabulate {α : Type} (f : Channel → α) (c : Channel) : (Rgb.tabulate f).get c = f c := by
  cases c <;> rfl

theorem laserNamed_iff (t : LaserTarget) (v : Rgb LaserUnit) (c : Channel) :
    laserNamed t v c = true ↔ (t = .all ∨ t = .one c) ∧ (v.get c).state = .fault := by
  cases t with
  | all => simp [laserNamed]
  | one d =>
    simp only [laserNamed, Bool.and_eq_true, decide_eq_true_eq, reduceCtorEq, false_or, LaserTarget.one.injEq]
    exact and_congr_left' eq_comm

/-- R110, R118: the wake tested after SCANNER_RESET. -/
theorem State.resetScanner_eq (s : State) : s.resetScanner =
    if s.gc.halted = false ∧ s.hasImageEntry = true then { s with
      lcu := s.lcu.map LaserUnit.off
      stu := { s.stu with
        scanner := .spinningUp, spinUp := .running s.stu.settings.spinupTimeout, missing := .stopped
        acq := 0, badRun := 0, lastPeriod := none, facet := none } }
    else { s with
      lcu := s.lcu.map LaserUnit.off
      stu := { s.stu with scanner := .stopped, facet := none, acq := 0, badRun := 0, lastPeriod := none } } := by
  have hdue (v : ScanTiming) (hv : v.scanner = .stopped) : ((s.withStu v).channelsOff).wakeIfDue =
      if s.gc.halted = false ∧ s.hasImageEntry = true then ((s.withStu v).channelsOff).wake
      else (s.withStu v).channelsOff := by
    unfold State.wakeIfDue
    refine ite_congr ?_ (fun _ => rfl) fun _ => rfl
    simp only [State.channelsOff_stu, State.withStu_stu, hv, true_and, Bool.not_eq_true]
    rfl
  exact hdue _ rfl

theorem decideScannerReset_job (s : State) : decideScannerReset .job (.fits ()) s =
    if s.stu.scanner = .fault then accept s.resetScanner (.scannerState s.resetScanner.stu.scanner)
    else refuse s .state := rfl

theorem decideLaserReset_named (g : LaserTarget) (s : State) : decideLaserReset .job (.fits (.named g)) s =
    if laserNamed g s.lcu .r || laserNamed g s.lcu .g || laserNamed g s.lcu .b then
      accept (s.resetLasers g) (.laserStates ((s.resetLasers g).lcu.map LaserUnit.state))
    else refuse s .state := rfl

/-- Settles O24: both resets act on what is in FAULT alone. -/
theorem resetsLeaveFaults : Obligations.ResetsLeaveFaults := by
  refine ⟨fun a s htakes => ⟨fun hrole => ?_, fun hrole => ?_⟩, fun a g s htakes => ⟨fun hrole => ?_, fun hrole => ?_⟩⟩
  · exact exec_replies rfl htakes (by simp [decideScannerReset, hrole, refuse])
  · intro c off base
    have hreplies {t : State} {st : Status} {data : ReplyData}
        (hd : decideScannerReset .job (.fits ()) s = ⟨t, st, data⟩) :
        exec c s = .next (t.replying c a 0x07 st data) := exec_replies rfl htakes (by rw [hrole]; exact hd)
    refine ⟨fun hscan => hreplies ?_, fun hscan hstays => hreplies ?_, fun hscan hrun himage => hreplies ?_⟩ <;>
      rw [decideScannerReset_job]
    · rw [if_neg hscan]
      rfl
    · rw [if_pos hscan, s.resetScanner_eq, if_neg (by rcases hstays with h | h <;> simp [h])]
      rfl
    · rw [if_pos hscan, s.resetScanner_eq, if_pos ⟨hrun, himage⟩]
      rfl
  · exact exec_replies rfl htakes (by simp [decideLaserReset, hrole, refuse])
  · intro c named
    have hreplies {p : Coded LaserTarget} {t : State} {st : Status} {data : ReplyData}
        (hd : decideLaserReset .job (.fits p) s = ⟨t, st, data⟩) : exec (.laserReset a (.fits p)) s =
          .next (t.replying (.laserReset a (.fits p)) a 0x08 st data) :=
      exec_replies rfl htakes (by rw [hrole]; exact hd)
    have hnamed (d : Channel) : laserNamed g s.lcu d = true ↔ named d := laserNamed_iff g s.lcu d
    have hany : (laserNamed g s.lcu .r || laserNamed g s.lcu .g || laserNamed g s.lcu .b) = true ↔ ∃ d, named d := by
      simp only [Bool.or_eq_true, hnamed]
      exact ⟨fun h => h.elim (fun h => h.elim (⟨.r, ·⟩) (⟨.g, ·⟩)) (⟨.b, ·⟩),
        fun ⟨d, hd⟩ => by cases d <;> simp [hd]⟩
    refine ⟨hreplies rfl, fun hnone => hreplies ?_, fun hsome => ⟨s.resetLasers g, hreplies ?_, rfl, fun d => ?_⟩⟩
    · rw [decideLaserReset_named, if_neg (by rw [hany]; exact fun ⟨d, hd⟩ => hnone d hd)]
      rfl
    · rw [decideLaserReset_named, if_pos (hany.mpr hsome)]
      rfl
    · have hchannel : (s.resetLasers g).lcu.get d = if laserNamed g s.lcu d = true then
          (s.lcu.get d).reset (s.isLocked && !s.gc.halted) else s.lcu.get d := Rgb.get_tabulate _ d
      refine ⟨fun hother => ?_, fun hthis hlock hrun => ?_, fun hthis hcold => ?_⟩ <;> rw [hchannel]
      · rw [if_neg (by rwa [hnamed])]
      · rw [if_pos ((hnamed d).mpr hthis), s.isLocked_iff.mpr hlock, hrun]
        rfl
      · have hwarm : (s.isLocked && !s.gc.halted) = false := by
          rcases hcold with h | h
          · simp [State.isLocked, h]
          · simp [h]
        rw [if_pos ((hnamed d).mpr hthis), hwarm]
        rfl

end Sys2Proof.Machine
end

section
/-! ## The settling of O28: index pulses and the three expiries -/

namespace Sys2Proof.Machine

/-- R117, R162: lock is lost, whatever the event that loses it has made of the facet counter. -/
theorem State.lockLostFrom_of_facet (s : State) (f : Option Nat) :
    s.lockLostFrom (s.withStu { s.stu with facet := f }).loseLock := by
  generalize ht : (s.withStu { s.stu with facet := f }).loseLock = t
  generalize hr : (s.withStu { s.stu with
    scanner := .acquiring, acq := 0, badRun := 0, facet := none, idle := .stopped
    spinUp := .running s.stu.settings.spinupTimeout }).raise .scanner = r
  have hraised : s.raisedOnly r [.scanner] := by
    rw [← hr]
    exact State.raisedOnly_raise (es := []) s.raisedOnly_refl .scanner
  have habort : t = r.abort .lockLost := by
    rw [← ht, ← hr]
    rfl
  cases hx : r.exposure? with
  | none =>
    have hnone : s.exposure? = none := by rw [← hx, ← hr]; rfl
    rw [State.abort_none hx] at habort
    refine ⟨by rw [habort, ← hr]; rfl, ?_, ?_, ?_, ?_, ?_, ?_, ?_, ?_, fun _ => ⟨?_, ?_, ?_, ?_, ?_, ?_, ?_⟩,
      fun x hx' => absurd (hnone.symm.trans hx') nofun⟩
    all_goals rw [habort]
    all_goals first
      | exact hraised
      | (rw [← hr]; rfl)
  | some x =>
    have hsome : s.exposure? = some x := by rw [← hx, ← hr]; rfl
    obtain ⟨hleaves, hkeeps, hmag, hlive, hevents, -⟩ := State.abort_leaves r x .lockLost hx nofun
    obtain ⟨hstu, hlcu, hdbi, hport, hoptics, hcs, hpins, hhalted, -⟩ := hkeeps
    rw [← habort] at hleaves hmag hlive hevents hstu hlcu hdbi hport hoptics hcs hpins hhalted
    have hevents' := State.raisedOnly_trans hraised hevents
    subst hr
    refine ⟨hstu, hdbi, hport, hoptics, hcs, hpins, hmag, hhalted, hlive,
      fun hnone => absurd (hnone.symm.trans hsome) nofun, fun y hy => ?_⟩
    obtain rfl : x = y := Option.some.inj (hsome.symm.trans hy)
    exact ⟨hleaves, hlcu, hevents'⟩

theorem indexPulse_running {s : State} (h : s.pins.resetLow = false) :
    exec .indexPulse s = .next (if s.turning then s.takeIndex else s) := by
  simp [exec, execIndexPulse, whenRunning, h]

theorem missingMarkTimerExpiry_running {s : State} {full : Nat} (h : s.pins.resetLow = false)
    (hruns : s.stu.missing = .running full) : exec .missingMarkTimerExpiry s = .next s.missMark := by
  simp [exec, execMissingMarkTimerExpiry, whenRunning, h, hruns, Timer.runs]

theorem spinUpTimerExpiry_running {s : State} {full : Nat} (h : s.pins.resetLow = false)
    (hruns : s.stu.spinUp = .running full) (hseek : s.stu.scanner = .spinningUp ∨ s.stu.scanner = .acquiring) :
    exec .spinUpTimerExpiry s = .next s.scannerFault := by
  simp [exec, execSpinUpTimerExpiry, whenRunning, h, hruns, Timer.runs, State.seekingLock, hseek]

theorem idleTimerExpiry_running {s : State} {full : Nat} (h : s.pins.resetLow = false)
    (hruns : s.stu.idle = .running full) (hlock : s.stu.scanner = .locked) :
    exec .idleTimerExpiry s = .next s.standby := by
  simp [exec, execIdleTimerExpiry, whenRunning, h, hruns, Timer.runs, State.isLocked, hlock]

/-- R113: an index pulse that finds the counter UNKNOWN or 0 is no slip. -/
theorem State.takeIndex_of_agreeing {s : State} (h : s.stu.facet = none ∨ s.stu.facet = some 0) :
    s.takeIndex = s.withStu { s.stu with facet := some 0 } := by
  unfold State.takeIndex
  rw [if_pos h]

/-- R113: a slip found while acquiring begins the count anew. -/
theorem State.takeIndex_of_slip_acquiring {s : State} {f : Nat} (h : s.stu.facet = some (f + 1))
    (hscan : s.stu.scanner = .acquiring) : s.takeIndex = s.withStu { s.stu with facet := some 0, acq := 0 } := by
  unfold State.takeIndex
  rw [if_neg (by simp [h]), hscan]
  rfl

/-- R113: a slip found under lock loses it. -/
theorem State.takeIndex_of_slip_locked {s : State} {f : Nat} (h : s.stu.facet = some (f + 1))
    (hscan : s.stu.scanner = .locked) : s.takeIndex = (s.withStu { s.stu with facet := some 0 }).loseLock := by
  unfold State.takeIndex
  rw [if_neg (by simp [h]), hscan]

/-- Settles O28: what each pulse and expiry leaves is read off its operation; a loss of lock is one lemma for both. -/
theorem indexPulseAndTimers : Obligations.IndexPulseAndTimers := by
  refine ⟨fun s hrun => ⟨fun hturn => ?_, fun hturn hfacet => ?_, fun f hfacet hscan => ?_, fun f hfacet hscan => ?_⟩,
    fun s full hrun hmissing => ⟨fun hscan => ?_, fun hscan => ?_⟩, fun s full hrun => ?_⟩
  · rw [indexPulse_running hrun, hturn]
    rfl
  · rw [indexPulse_running hrun, hturn, State.takeIndex_of_agreeing hfacet]
    rfl
  · rw [indexPulse_running hrun, if_pos (s.turning_iff.mpr (.inl hscan)), State.takeIndex_of_slip_acquiring hfacet hscan]
    rfl
  · rw [indexPulse_running hrun, if_pos (s.turning_iff.mpr (.inr hscan)), State.takeIndex_of_slip_locked hfacet hscan]
    exact ⟨_, rfl, s.lockLostFrom_of_facet (some 0)⟩
  · rw [missingMarkTimerExpiry_running hrun hmissing, State.missMark, hscan]
    rfl
  · rw [missingMarkTimerExpiry_running hrun hmissing, State.missMark, hscan]
    exact ⟨_, rfl, State.lockLostFrom_of_facet { s with stu := { s.stu with missing := .stopped } } none⟩
  · intro off
    refine ⟨fun hspin hseek => ⟨_, spinUpTimerExpiry_running hrun hspin hseek, ?_, rfl, ?_⟩,
      fun hidle hlock => ⟨_, idleTimerExpiry_running hrun hidle hlock, ?_, rfl, ?_⟩⟩
    · exact Bool.and_false _
    · exact State.raisedOnly_of_au (State.raisedOnly_raise (es := []) s.raisedOnly_refl .scanner) rfl
    · exact Bool.and_false _
    · exact State.raisedOnly_raise (es := []) s.raisedOnly_refl .standby

end Sys2Proof.Machine
end

section
/-! ## Events stay latched through a mark (R195)

State.latchKept says that from one state to another events have been raised and nothing else has happened to the
attention lines. -/

namespace Sys2Proof.Machine

/-- Only events have been raised on the attention lines. -/
def State.latchKept (s t : State) : Prop := ∃ es, s.raisedOnly t es

theorem State.latchKept_refl (s : State) : s.latchKept s := ⟨[], s.raisedOnly_refl⟩

theorem State.latchKept.trans {s t u : State} (h : s.latchKept t) (k : t.latchKept u) : s.latchKept u := by
  obtain ⟨es, hes⟩ := h
  obtain ⟨fs, hfs⟩ := k
  exact ⟨es ++ fs, State.raisedOnly_trans hes hfs⟩

theorem State.latchKept_of_au {s t : State} (h : t.au = s.au) : s.latchKept t :=
  ⟨[], State.raisedOnly_of_au s.raisedOnly_refl h⟩

theorem State.raise_latchKept (s : State) (e : Event) : s.latchKept (s.raise e) :=
  ⟨[e], State.raisedOnly_raise (es := []) s.raisedOnly_refl e⟩

theorem State.raiseAll_latchKept (s : State) (es : List Event) : s.latchKept (s.raiseAll es) :=
  ⟨es, s.raiseAll_raisedOnly es⟩

/-- What was latched is latched still. -/
theorem State.latchKept.hasLatched {s t : State} (h : s.latchKept t) {e : Event} (he : s.hasLatched e) :
    t.hasLatched e := by
  obtain ⟨es, hes⟩ := h
  intro n
  rw [hes n]
  simp only [BitVec.getLsbD_or, he n, Bool.true_or]

theorem State.raiseAll_hasLatched (s : State) {es : List Event} {e : Event} (h : e ∈ es) :
    (s.raiseAll es).hasLatched e := by
  induction es generalizing s with
  | nil => cases h
  | cons f fs ih =>
    rcases List.mem_cons.mp h with rfl | h
    · exact ((s.raise e).raiseAll_latchKept fs).hasLatched (s.raise_hasLatched e)
    · exact ih (s.raise f) h

/-! ### The queue -/

theorem State.channelOnly.latchKept {s t : State} (h : s.channelOnly t) : s.latchKept t := by
  obtain ⟨c, p, m, rfl⟩ := h
  exact State.latchKept_of_au rfl

theorem State.withdrawFetch_au (s : State) : s.withdrawFetch.au = s.au := by
  obtain ⟨c, p, m, h⟩ := s.withdrawFetch_shape
  rw [h]

theorem State.appendRecord_au (s : State) (r : MapRecord) : (s.appendRecord r).au = s.au := by
  obtain ⟨m, h⟩ := s.appendRecord_shape r
  rw [h]

theorem State.advanceFilm_au (s : State) (n : Nat) : (s.advanceFilm n).au = s.au := rfl

theorem State.beginLeaving_latchKept (s : State) (k : Key) (c : Completion) : s.latchKept (s.beginLeaving k c) := by
  obtain ⟨ch, w, m, h⟩ := s.beginLeaving_shape k c
  exact State.latchKept_of_au (by rw [h])

theorem State.addHeld_latchKept (s : State) (r : HeldReason) : s.latchKept (s.addHeld r) := by
  obtain ⟨au, -, h⟩ := s.addHeld_spec r
  exact ⟨_, h⟩

theorem State.completeRejection_latchKept (s : State) (e : Entry) (r : RejectReason) :
    s.latchKept (s.completeRejection e r) :=
  (State.addHeld_latchKept (s.withFq { s.fq with rejection := some ⟨e.serial, e.key, r⟩ }) .rejected).trans
    (State.raise_latchKept _ _)

theorem State.removeAt_latchKept (s : State) (pos : Nat) : s.latchKept (s.removeAt pos) := by
  cases he : s.fq.entries[pos]? with
  | none =>
    rw [s.removeAt_beyond he]
    exact s.latchKept_refl
  | some e =>
    obtain ⟨a, b, au, -, h⟩ := State.removeAt_shape he
    exact ⟨_, h⟩

theorem State.takeRejectedHead_latchKept (n : Nat) (s : State) : s.latchKept (s.takeRejectedHead n) := by
  induction n generalizing s with
  | zero => exact s.latchKept_refl
  | succ n ih =>
    unfold State.takeRejectedHead
    split
    · exact s.latchKept_refl
    · split
      · exact s.latchKept_refl
      · split
        · exact s.latchKept_refl
        · split
          · exact s.beginLeaving_latchKept _ _
          · exact ((s.removeAt_latchKept 0).trans (State.completeRejection_latchKept _ _ _)).trans (ih _)

theorem State.settleHead_latchKept (s : State) : s.latchKept s.settleHead := State.takeRejectedHead_latchKept _ s

theorem State.removeEntry_latchKept (s : State) (k : Key) : s.latchKept (s.removeEntry k) := by
  unfold State.removeEntry
  split
  · exact (s.removeAt_latchKept _).trans (State.settleHead_latchKept _)
  · exact s.latchKept_refl

theorem State.headExposed_latchKept (s : State) : s.latchKept s.headExposed := by
  have hcounted (es : List Entry) : s.latchKept (s.withEntries es) := State.latchKept_of_au rfl
  unfold State.headExposed
  split
  · exact s.latchKept_refl
  · split
    · exact s.latchKept_refl
    · dsimp only
      split
      · exact hcounted _
      · split
        · exact (hcounted _).trans (State.beginLeaving_latchKept _ _ _)
        · exact ((hcounted _).trans (State.removeEntry_latchKept _ _)).trans (State.raise_latchKept _ _)

theorem State.headSpoiled_latchKept (s : State) : s.latchKept s.headSpoiled := by
  obtain ⟨au, -, h⟩ := s.headSpoiled_spec
  exact ⟨_, h⟩

theorem State.headRunOut_latchKept (s : State) (n : Nat) : s.latchKept (s.headRunOut n) := by
  have hlowered (es : List Entry) : s.latchKept (s.withEntries es) := State.latchKept_of_au rfl
  unfold State.headRunOut
  split
  · exact s.latchKept_refl
  · split
    · dsimp only
      split
      · exact ((hlowered _).trans (State.removeEntry_latchKept _ _)).trans (State.raise_latchKept _ _)
      · exact hlowered _
    · exact s.latchKept_refl
    · exact s.latchKept_refl

theorem State.stagingFailed_latchKept (s : State) (g : Staging) (r : RejectReason) :
    s.latchKept (s.stagingFailed g r) :=
  State.latchKept.trans (s := s) (State.latchKept_of_au (by rfl)) (State.settleHead_latchKept _)

theorem State.offerStaging_latchKept (s : State) : s.latchKept s.offerStaging := by
  unfold State.offerStaging
  split
  · exact s.latchKept_refl
  · split
    · split
      · unfold State.walkToDescriptor
        split
        · exact s.stagingFailed_latchKept _ _
        · exact State.latchKept_of_au rfl
      · exact s.latchKept_refl
      · exact s.latchKept_refl
    · exact s.latchKept_refl

/-! ### The film, starts and the end of an event -/

theorem State.filmEnd_latchKept (s : State) : s.latchKept s.filmEnd := by
  obtain ⟨au, -, h⟩ := s.filmEnd_spec
  exact ⟨_, h⟩

theorem State.mapExposure_latchKept (s : State) (f : Exposure → Exposure) : s.latchKept (s.mapExposure f) := by
  obtain ⟨g, h⟩ := s.mapExposure_shape f
  exact State.latchKept_of_au (by rw [h])

theorem State.appendBlank_latchKept (e : Entry) (n q : Nat) (s : State) : s.latchKept (s.appendBlank e n q) := by
  induction n generalizing s q with
  | zero => exact s.latchKept_refl
  | succ n ih =>
    have hrecord : (s.appendRecord (blankRecord q e)).recordWritten.au = s.au :=
      (State.recordWritten_au _).trans (s.appendRecord_au _)
    exact (State.latchKept_of_au hrecord).trans (ih _ _)

theorem State.runoutStart_latchKept (s : State) : s.latchKept s.runoutStart := by
  have hadvanced (t : State) (n : Nat) : t.latchKept ((t.advanceFilm n).raise .advance).filmEnd :=
    (State.raise_latchKept (t.advanceFilm n) .advance).trans (State.filmEnd_latchKept _)
  unfold State.runoutStart
  split
  · split
    · exact ((State.appendBlank_latchKept _ _ _ s).trans (State.headRunOut_latchKept _ _)).trans (hadvanced _ _)
    · exact s.latchKept_refl
    · exact s.latchKept_refl
  · exact s.latchKept_refl

theorem State.frameStart_latchKept (s : State) : s.latchKept s.frameStart := by
  have hreject : s.latchKept s.rejectStock :=
    State.latchKept.trans (s := s) (State.latchKept_of_au (by rfl)) (State.settleHead_latchKept _)
  unfold State.frameStart
  split
  · split
    · split
      · split
        · exact State.latchKept_of_au rfl
        · exact hreject
      · exact hreject
    · exact s.latchKept_refl
  · exact s.latchKept_refl

theorem State.startIfDue_latchKept (b s : State) : s.latchKept (State.startIfDue b s) := by
  unfold State.startIfDue
  split
  · exact s.frameStart_latchKept
  · split
    · exact s.runoutStart_latchKept
    · exact s.latchKept_refl

theorem State.beginLine_latchKept (s : State) : s.latchKept s.beginLine := by
  obtain ⟨g, f, c, h⟩ := s.beginLine_shape
  exact State.latchKept_of_au (by rw [h])

theorem State.updateIdle_latchKept (s : State) : s.latchKept s.updateIdle := by
  obtain ⟨i, h⟩ := s.updateIdle_shape
  exact State.latchKept_of_au (by rw [h])

theorem State.quiesce_latchKept (s : State) : s.latchKept s.quiesce :=
  ((((s.beginLine_latchKept.trans (State.offerStaging_latchKept _)).trans
    (State.requestMarking_channelOnly _).latchKept).trans (State.grant_channelOnly _).latchKept)).trans
    (State.updateIdle_latchKept _)

theorem State.gateAfterAbort_au (s : State) (r : SpoilReason) : (s.gateAfterAbort r).au = s.au := by
  cases r <;> rfl

theorem State.abort_latchKept (s : State) (r : SpoilReason) : s.latchKept (s.abort r) := by
  have hrecorded (m : MapRecord) : s.latchKept ((s.dropDrives.withdrawFetch.appendRecord m).gateAfterAbort r) :=
    State.latchKept_of_au (((State.gateAfterAbort_au _ r).trans (State.appendRecord_au _ m)).trans
      (State.withdrawFetch_au s.dropDrives))
  unfold State.abort
  split
  · exact s.latchKept_refl
  · dsimp only
    refine State.latchKept.trans ?_ (State.raiseAll_latchKept _ _)
    repeat' split
    · exact hrecorded _
    · exact (hrecorded _).trans (State.headSpoiled_latchKept _)
    · exact (hrecorded _).trans (State.filmEnd_latchKept _)
    · exact ((hrecorded _).trans (State.headSpoiled_latchKept _)).trans (State.filmEnd_latchKept _)

theorem State.frameEnd_latchKept (s : State) : s.latchKept s.frameEnd := by
  have hrecorded (m : MapRecord) : s.latchKept ((s.withdrawFetch.appendRecord m).advanceFilm 1) :=
    State.latchKept_of_au (((State.advanceFilm_au _ 1).trans (State.appendRecord_au _ m)).trans s.withdrawFetch_au)
  unfold State.frameEnd
  split
  · exact s.latchKept_refl
  · dsimp only
    refine State.latchKept.trans (State.latchKept.trans ?_ (State.raiseAll_latchKept _ _)) (State.filmEnd_latchKept _)
    split
    · exact (hrecorded _).trans (State.headExposed_latchKept _)
    · exact (hrecorded _).trans (State.headSpoiled_latchKept _)

/-! ### The parts of a mark -/

theorem State.loseLock_latchKept (s : State) : s.latchKept s.loseLock := by
  have hraised (v : ScanTiming) : s.latchKept ((s.withStu v).raise .scanner) :=
    State.raise_latchKept (s.withStu v) .scanner
  exact (hraised _).trans (State.abort_latchKept _ _)

theorem State.loseLock_hasLatched (s : State) : s.loseLock.hasLatched .scanner :=
  (State.abort_latchKept _ .lockLost).hasLatched (State.raise_hasLatched _ _)

theorem State.lock_hasLatched (s : State) : s.lock.hasLatched .scanner := by
  unfold State.lock
  dsimp only
  split
  · exact State.raise_hasLatched _ _
  · exact State.raise_hasLatched (s.withStu _) _

theorem State.faultChannel_latchKept (s : State) (c : Channel) : s.latchKept (s.faultChannel c) :=
  State.latchKept.trans (State.latchKept.trans (s := s) (State.latchKept_of_au (by rfl))
    (State.abort_latchKept _ .laserFault)) (State.raise_latchKept _ _)

theorem State.sampleChannel_latchKept (s : State) (c : Channel) (m : BitVec 12) :
    s.latchKept (s.sampleChannel c m) := by
  unfold State.sampleChannel
  split
  · dsimp only
    split
    · exact State.latchKept_of_au rfl
    · exact State.latchKept.trans (s := s) (State.latchKept_of_au (by rfl)) (State.faultChannel_latchKept _ c)
    · exact State.latchKept.trans (s := s) (State.latchKept_of_au (by rfl)) (State.raise_latchKept _ _)
  · exact s.latchKept_refl

theorem State.dropLine_latchKept (s : State) (y : Nat) : s.latchKept (s.dropLine y) := by
  unfold State.dropLine
  dsimp only
  split
  · exact s.latchKept_refl
  · split
    · exact s.mapExposure_latchKept _
    · split
      · split
        · exact (s.mapExposure_latchKept _).trans (State.latchKept_of_au (State.withdrawFetch_au _))
        · exact s.mapExposure_latchKept _
      · exact s.mapExposure_latchKept _

theorem State.takeLine_latchKept (s : State) (r : LineRecord) : s.latchKept (s.takeLine r) :=
  (s.mapExposure_latchKept _).trans (State.latchKept_of_au rfl)

theorem State.putLine_latchKept (s : State) (x : Exposure) : s.latchKept (s.putLine x) := by
  have hblank (y : Nat) : s.latchKept (s.blankLine y) := (s.mapExposure_latchKept _).trans (State.dropLine_latchKept _ y)
  unfold State.putLine
  split
  · split
    · exact s.takeLine_latchKept _
    · exact hblank _
  · exact hblank _

theorem State.lineOut_latchKept (s : State) (facet : Option Nat) : s.latchKept (s.lineOut facet) := by
  have hended (kind : LineKind) : s.latchKept (s.endLine kind) :=
    (s.mapExposure_latchKept _).trans (State.latchKept_of_au rfl)
  unfold State.lineOut
  split
  · exact s.latchKept_refl
  · split
    · split
      · split
        · exact s.takeLine_latchKept _
        · exact s.latchKept_refl
      · exact s.latchKept_refl
    · dsimp only
      split
      · exact (hended _).trans (State.frameEnd_latchKept _)
      · exact (hended _).trans (State.putLine_latchKept _ _)

theorem State.markLine_latchKept (s : State) (m : MarkInput) : s.latchKept (s.markLine m) := by
  unfold State.markLine
  split
  · exact s.lineOut_latchKept _
  · exact s.latchKept_refl

end Sys2Proof.Machine
end

section
/-! ## A mark in its parts: the samples before the judgement, the judgement, and what follows it (R112 to R117) -/

namespace Sys2Proof.Machine
/-! ### What a mark makes of the scan timing unit -/

/-- R113, R114: the unit after a mark has been counted. -/
def ScanTiming.counted (v : ScanTiming) (p : Option Nat) : ScanTiming :=
  { v with
    facet := nextFacet v.settings.facetCount v.facet
    lastPeriod := p.orElse fun _ => v.lastPeriod
    missing := .running (2 * v.settings.period) }

/-- R115: the unit after a mark in ACQUIRING. -/
def ScanTiming.acquired (v : ScanTiming) (p : Option Nat) : ScanTiming :=
  match p with
  | none => v.counted p
  | some q =>
    if goodPeriod v.settings q = false then { v.counted p with acq := 0 }
    else if v.facet.isSome = false then v.counted p
    else if 64 ≤ v.acq + 1 then
      { v.counted p with acq := v.acq + 1, scanner := .locked, spinUp := .stopped, badRun := 0 }
    else { v.counted p with acq := v.acq + 1 }

/-- R117: the mark loses lock: it ends the third bad period in a row. -/
def ScanTiming.losesLock (v : ScanTiming) (p : Option Nat) : Prop :=
  ∃ q, p = some q ∧ goodPeriod v.settings q = false ∧ 3 ≤ v.badRun + 1

/-- R117: the unit after a mark in LOCKED that keeps lock. -/
def ScanTiming.keptLock (v : ScanTiming) (p : Option Nat) : ScanTiming :=
  match p with
  | none => v.counted p
  | some q => { v.counted p with badRun := if goodPeriod v.settings q then 0 else v.badRun + 1 }

/-- R117: the unit as a lost lock leaves it. -/
def ScanTiming.lockLost (v : ScanTiming) : ScanTiming :=
  { v with
    scanner := .acquiring, acq := 0, badRun := 0, facet := none, idle := .stopped
    spinUp := .running v.settings.spinupTimeout }

theorem ScanTiming.acquired_counted (v : ScanTiming) (p : Option Nat) :
    (v.acquired p).settings = v.settings ∧ (v.acquired p).facet = (v.counted p).facet ∧
      (v.acquired p).lastPeriod = (v.counted p).lastPeriod ∧ (v.acquired p).missing = (v.counted p).missing := by
  unfold ScanTiming.acquired
  repeat' split
  all_goals exact ⟨rfl, rfl, rfl, rfl⟩

theorem ScanTiming.keptLock_counted (v : ScanTiming) (p : Option Nat) : ∃ n,
    v.keptLock p = { v.counted p with badRun := n } := by
  cases p with
  | none => exact ⟨v.badRun, rfl⟩
  | some q => exact ⟨_, rfl⟩

theorem ScanTiming.period?_eq (v : ScanTiming) (ticks : Nat) :
    v.period? ticks = if v.missing = .stopped then none else some ticks := by
  unfold ScanTiming.period?
  cases v.missing with
  | stopped => rfl
  | running full => rw [if_neg nofun]

theorem ScanTiming.counted_lastPeriod (v : ScanTiming) (ticks : Nat) :
    (v.counted (v.period? ticks)).lastPeriod = if v.missing = .stopped then v.lastPeriod else some ticks := by
  rw [v.period?_eq]
  by_cases h : v.missing = .stopped
  · rw [if_pos h, if_pos h]; rfl
  · rw [if_neg h, if_neg h]; rfl

theorem nextFacet_some {facets f : Nat} (h : f < facets) : nextFacet facets (some f) = some ((f + 1) % facets) := by
  have hnext : (if f + 1 < facets then f + 1 else 0) = (f + 1) % facets := by
    split
    next hlt => exact (Nat.mod_eq_of_lt hlt).symm
    next hge =>
      obtain rfl : facets = f + 1 := by omega
      exact (Nat.mod_self _).symm
  exact congrArg some hnext

theorem State.lock_stu (s : State) :
    s.lock.stu = { s.stu with scanner := .locked, spinUp := .stopped, badRun := 0 } := by
  unfold State.lock
  dsimp only
  split <;> rfl

/-- R133: at lock the channels that are OFF begin WARMING unless the part is halted. -/
theorem State.lock_lcu (s : State) : s.lock.lcu = if s.gc.halted then s.lcu else s.lcu.map LaserUnit.warmIfOff := by
  unfold State.lock
  cases hhalt : s.gc.halted <;> simp [hhalt, State.mapLasers, State.raise]

/-- R115: the mark that gives lock. -/
theorem State.judgeMark_locks {s : State} (h : s.stu.scanner = .acquiring) {q : Nat}
    (hgood : goodPeriod s.stu.settings q = true) (hfacet : s.stu.facet ≠ none) (hacq : 64 ≤ s.stu.acq + 1) :
    s.judgeMark (some q) = (s.withStu { s.stu.counted (some q) with acq := s.stu.acq + 1 }).lock := by
  have hknown : s.stu.facet.isSome = true := Option.isSome_iff_ne_none.mpr hfacet
  unfold State.judgeMark
  rw [h]
  dsimp only
  unfold State.judgeAcquiring
  dsimp only
  rw [if_neg (by simp [State.countMark, hgood]), if_pos hknown]
  exact if_pos hacq

/-- R115: a good mark that does not yet give lock. -/
theorem State.judgeMark_counts {s : State} (h : s.stu.scanner = .acquiring) {q : Nat}
    (hgood : goodPeriod s.stu.settings q = true) (hfacet : s.stu.facet ≠ none) (hacq : ¬ 64 ≤ s.stu.acq + 1) :
    s.judgeMark (some q) = s.withStu { s.stu.counted (some q) with acq := s.stu.acq + 1 } := by
  have hknown : s.stu.facet.isSome = true := Option.isSome_iff_ne_none.mpr hfacet
  unfold State.judgeMark
  rw [h]
  dsimp only
  unfold State.judgeAcquiring
  dsimp only
  rw [if_neg (by simp [State.countMark, hgood]), if_pos hknown]
  exact if_neg hacq

theorem State.judgeMark_acquiring {s : State} (h : s.stu.scanner = .acquiring) (p : Option Nat) :
    (s.judgeMark p).stu = s.stu.acquired p := by
  have hjudge : s.judgeMark p = (s.countMark p).judgeAcquiring p s.stu.facet.isSome := by
    unfold State.judgeMark
    rw [h]
  rw [hjudge]
  unfold State.judgeAcquiring ScanTiming.acquired
  cases p with
  | none => rfl
  | some q =>
    dsimp only
    by_cases hbad : goodPeriod s.stu.settings q = false
    · rw [if_pos (by simp [State.countMark, hbad]), if_pos hbad]
      rfl
    · have hgood := Bool.eq_true_of_not_eq_false hbad
      rw [if_neg hbad]
      by_cases hunknown : s.stu.facet.isSome = false
      · rw [if_neg (by simp [State.countMark, hgood]), if_pos hunknown, if_neg (by simp [hunknown])]
        rfl
      · have hknown := Option.isSome_iff_ne_none.mp (Bool.eq_true_of_not_eq_false hunknown)
        rw [if_neg hunknown]
        refine (congrArg State.stu hjudge.symm).trans ?_
        by_cases hlock : 64 ≤ s.stu.acq + 1
        · rw [State.judgeMark_locks h hgood hknown hlock, State.lock_stu, if_pos hlock]
          rfl
        · rw [State.judgeMark_counts h hgood hknown hlock, if_neg hlock]
          rfl

theorem State.judgeMark_loses {s : State} (h : s.stu.scanner = .locked) {p : Option Nat} (hlost : s.stu.losesLock p) :
    s.judgeMark p = (s.countMark p).loseLock := by
  obtain ⟨q, rfl, hbad, hrun⟩ := hlost
  unfold State.judgeMark
  rw [h]
  dsimp only
  unfold State.judgeLocked
  dsimp only
  rw [if_neg (by simp [State.countMark, hbad])]
  exact if_pos hrun

theorem State.loseLock_stu (s : State) : s.loseLock.stu = s.stu.lockLost := State.abort_stu _ .lockLost

theorem State.judgeMark_keeps {s : State} (h : s.stu.scanner = .locked) {p : Option Nat}
    (hkept : ¬ s.stu.losesLock p) : s.judgeMark p = s.withStu (s.stu.keptLock p) := by
  unfold State.judgeMark
  rw [h]
  dsimp only
  unfold State.judgeLocked ScanTiming.keptLock
  cases p with
  | none => rfl
  | some q =>
    dsimp only
    cases hgood : goodPeriod s.stu.settings q
    · have hrun : ¬ 3 ≤ s.stu.badRun + 1 := fun hrun => hkept ⟨q, rfl, hgood, hrun⟩
      rw [if_neg (by simp [State.countMark, hgood]), if_neg (show ¬ 3 ≤ (s.countMark (some q)).stu.badRun + 1 from hrun)]
      rfl
    · rw [if_pos (by simp [State.countMark, hgood])]
      rfl

/-! ### Samples -/

/-- The samples of some channels, in order, each with the start it makes due. -/
def State.takeSamples (m : MarkInput) (cs : List Channel) (s : State) : State :=
  cs.foldl (fun t c => State.markPart m t (.sample c)) s

/-- What follows the judgement of a mark: the start it makes due, the end of the last line, the other samples, the line
output and the end of the event. -/
def State.afterJudge (m : MarkInput) (after : List Channel) (before judged : State) : State :=
  let started := State.startIfDue before judged
  ((State.takeSamples m after (if started.lastLineOnFilm then started.markLine m else started)).markLine m).quiesce

/-- A mark is its samples before the judgement, the judgement, and what follows. -/
theorem State.takeMark_eq (s : State) (ticks : Nat) (samples : Rgb (BitVec 12)) (order : MarkOrder) :
    ∃ before after, channelsInOrder order.channels = before ++ after ∧
      s.takeMark ticks samples order =
        let m := s.markInput ticks samples
        let u := State.takeSamples m before s.newSweep
        State.afterJudge m after u (u.judgeMark m.period) := by
  refine ⟨_, _, (List.take_append_drop order.judgedAfter.val _).symm, ?_⟩
  unfold State.takeMark markParts State.afterJudge State.takeSamples
  dsimp only
  rw [List.foldl_append, List.foldl_append, ← List.map_take, ← List.map_drop, List.foldl_map, List.foldl_map]
  rfl

/-- What every fired sample with its start keeps, the samples keep. -/
theorem State.takeSamples_induct {P : State → Prop} {m : MarkInput} {cs : List Channel}
    (hstep : ∀ t, ∀ c ∈ cs, m.firing.get c = true → P t →
      P (State.startIfDue t (t.sampleChannel c (m.samples.get c)))) {s : State} (hs : P s) :
    P (State.takeSamples m cs s) := by
  induction cs generalizing s with
  | nil => exact hs
  | cons c cs ih =>
    refine ih (fun t d hd => hstep t d (List.mem_cons_of_mem c hd)) ?_
    unfold State.markPart
    dsimp only
    split
    next hfires => exact hstep s c (List.mem_cons_self ..) hfires hs
    · exact hs

theorem State.takeSamples_stu (m : MarkInput) (cs : List Channel) (s : State) :
    (State.takeSamples m cs s).stu = s.stu :=
  State.takeSamples_induct (P := fun t => t.stu = s.stu) (fun t c _ _ ht => by simpa using ht) rfl

theorem State.takeSamples_latchKept (m : MarkInput) (cs : List Channel) (s : State) :
    s.latchKept (State.takeSamples m cs s) :=
  State.takeSamples_induct (P := s.latchKept)
    (fun _ _ _ _ ht => (ht.trans (State.sampleChannel_latchKept _ _ _)).trans (State.startIfDue_latchKept _ _))
    s.latchKept_refl

/-- Without lock no exposure begins. -/
theorem State.startIfDue_ended {b s : State} (hx : s.exposure? = none) (hlock : s.stu.scanner ≠ .locked) :
    (State.startIfDue b s).exposure? = none := by
  have hunready : s.frameReady = false := by simp [State.frameReady_eq, State.isLocked, hlock]
  unfold State.startIfDue
  rw [hunready]
  split
  next hdue => cases hdue
  · split
    next hdue =>
      simp only [State.runoutReady, Bool.and_eq_true] at hdue
      exact State.runoutStart_exposure? hdue.1.1.1.1
    · exact hx

theorem State.sampleChannel_ended {s : State} (hx : s.exposure? = none) (c : Channel) (m : BitVec 12) :
    (s.sampleChannel c m).exposure? = none := by
  have hfault (t : State) : (t.faultChannel c).exposure? = none :=
    (State.exposure?_congr (State.raise_film _ .laser)).trans (State.abort_exposure? _ .laserFault)
  unfold State.sampleChannel
  split
  · dsimp only
    split
    · exact hx
    · exact hfault _
    · exact hx
  · exact hx

theorem State.markLine_ended {s : State} (hx : s.exposure? = none) (m : MarkInput) : s.markLine m = s := by
  unfold State.markLine State.lineOut
  rw [hx]
  split <;> rfl

theorem State.quiesce_ended {s : State} (hx : s.exposure? = none) : s.quiesce.exposure? = none := by
  have hended := s.quiesce_scanKept.exposing
  simpa [State.isExposing, hx] using hended

theorem State.takeSamples_ended {s : State} (hx : s.exposure? = none) (hlock : s.stu.scanner ≠ .locked) (m : MarkInput)
    (cs : List Channel) : (State.takeSamples m cs s).exposure? = none := by
  refine (State.takeSamples_induct (P := fun t => t.exposure? = none ∧ t.stu = s.stu) (fun t c _ _ ht => ⟨?_, ?_⟩)
    ⟨hx, rfl⟩).1
  · refine State.startIfDue_ended (State.sampleChannel_ended ht.1 c _) ?_
    rwa [State.sampleChannel_stu, ht.2]
  · rw [State.startIfDue_stu, State.sampleChannel_stu, ht.2]

/-! ### The halted flag -/

theorem State.abort_halted (s : State) (r : SpoilReason) : (s.abort r).gc.halted = s.gc.halted := by
  cases hx : s.exposure? with
  | none => rw [State.abort_none hx]
  | some x =>
    have hfilm : ∃ a : State, (s.abort r).film = (a.gateAfterAbort r).film ∧ a.gc.halted = s.gc.halted := by
      obtain ⟨c, p, m, hrecord⟩ := s.abort_record (exposureRecord x.ctx x.clips .spoiled r)
      refine ⟨s.dropDrives.withdrawFetch.appendRecord (exposureRecord x.ctx x.clips .spoiled r), ?_, by rw [hrecord]⟩
      simp only [State.abort, hx]
      split <;> split <;> simp
    obtain ⟨a, hfilm, hflag⟩ := hfilm
    have hgc : (s.abort r).gc = (a.gateAfterAbort r).gc := congrArg Prod.fst hfilm
    rw [hgc, ← hflag]
    cases r <;> rfl

theorem State.appendBlank_halted (e : Entry) (n q : Nat) (s : State) :
    (s.appendBlank e n q).gc.halted = s.gc.halted := by
  induction n generalizing s q with
  | zero => rfl
  | succ n ih =>
    rw [State.appendBlank, ih, State.recordWritten_gc]
    rfl

theorem State.startIfDue_halted (b s : State) : (State.startIfDue b s).gc.halted = s.gc.halted := by
  have hrunout : s.runoutStart.gc.halted = s.gc.halted := by
    unfold State.runoutStart
    split
    · split
      next e q _ _ _ n _ =>
        have hgc (t : State) (k : Nat) : (((t.headRunOut k).advanceFilm k).raise .advance).filmEnd.gc.halted =
            t.gc.halted := by
          have hend := congrArg Prod.fst ((((t.headRunOut k).advanceFilm k).raise .advance).filmEnd_film)
          have hhead : (t.headRunOut k).gc = t.gc := congrArg Prod.fst (t.headRunOut_film k)
          have hadvance : (((t.headRunOut k).advanceFilm k).raise .advance).gc.halted = (t.headRunOut k).gc.halted := rfl
          exact (congrArg GateController.halted hend).trans (hadvance.trans (congrArg GateController.halted hhead))
        exact (hgc _ _).trans (State.appendBlank_halted _ _ _ s)
      · rfl
      · rfl
    · rfl
  have hframe : s.frameStart.gc.halted = s.gc.halted := by
    have hreject := congrArg (fun f => f.1.halted) s.rejectStock_film
    unfold State.frameStart
    split
    · split
      · split
        · split
          · rfl
          · exact hreject
        · exact hreject
      · rfl
    · rfl
  unfold State.startIfDue
  split
  · exact hframe
  · split
    · exact hrunout
    · rfl

theorem State.sampleChannel_halted (s : State) (c : Channel) (m : BitVec 12) :
    (s.sampleChannel c m).gc.halted = s.gc.halted := by
  unfold State.sampleChannel
  split
  · dsimp only
    split
    · rfl
    · exact State.abort_halted _ .laserFault
    · rfl
  · rfl

theorem State.takeSamples_halted (m : MarkInput) (cs : List Channel) (s : State) :
    (State.takeSamples m cs s).gc.halted = s.gc.halted :=
  State.takeSamples_induct (P := fun t => t.gc.halted = s.gc.halted)
    (fun _ _ _ _ ht => (State.startIfDue_halted _ _).trans ((State.sampleChannel_halted _ _ _).trans ht)) rfl

/-! ### Channels that do not fire -/

theorem LaserUnit.swept_of_rest {u : LaserUnit} (h : u.sweep = .rest) : { u with sweep := .rest } = u := by
  rw [← h]

/-- A sample of another channel leaves a dark channel as it is. -/
theorem State.sampleChannel_other {s : State} {c d : Channel} (hne : c ≠ d) (hdark : (s.lcu.get c).sweep = .rest)
    (m : BitVec 12) : (s.sampleChannel d m).lcu.get c = s.lcu.get c := by
  have hother (f : LaserUnit → LaserUnit) : (s.mapLaser d f).lcu.get c = s.lcu.get c := by
    rw [State.mapLaser_get, if_neg hne]
  have hdrop (t : State) (ht : t.lcu.get c = s.lcu.get c) : t.dropDrives.lcu.get c = s.lcu.get c := by
    have hget : t.dropDrives.lcu.get c = { t.lcu.get c with sweep := .rest } := Rgb.get_map _ _ c
    rw [hget, ht, LaserUnit.swept_of_rest hdark]
  have habort (t : State) (ht : t.lcu.get c = s.lcu.get c) : (t.abort .laserFault).lcu.get c = s.lcu.get c := by
    cases hx : t.exposure? with
    | none => rwa [State.abort_none hx]
    | some x => rw [State.abort_lcu hx, hdrop t ht]
  have hfault (t : State) (ht : t.lcu.get c = s.lcu.get c) : (t.faultChannel d).lcu.get c = s.lcu.get c := by
    refine habort _ (hdrop _ ?_)
    rw [State.mapLaser_get, if_neg hne, ht]
  unfold State.sampleChannel
  split
  · dsimp only
    split
    · exact hother _
    · exact hfault _ (hother _)
    · rw [State.raise_lcu]
      exact hother _
  · rfl

theorem State.takeSamples_unfired {s : State} {c : Channel} {m : MarkInput} (hc : m.firing.get c = false)
    (hdark : (s.lcu.get c).sweep = .rest) (cs : List Channel) : (State.takeSamples m cs s).lcu.get c = s.lcu.get c := by
  refine State.takeSamples_induct (P := fun t => t.lcu.get c = s.lcu.get c) (fun t d _ hd ht => ?_) rfl
  have hne : c ≠ d := by
    rintro rfl
    simp [hc] at hd
  rw [State.startIfDue_lcu, State.sampleChannel_other hne (by rw [ht]; exact hdark), ht]

theorem State.newSweep_get (s : State) (c : Channel) : s.newSweep.lcu.get c = { s.lcu.get c with sweep := .rest } :=
  Rgb.get_map _ _ c

/-! ### What follows the judgement -/

theorem State.markLine_stu (s : State) (m : MarkInput) : (s.markLine m).stu = s.stu := by
  unfold State.markLine
  split
  · exact s.lineOut_stu _
  · rfl

theorem State.afterJudge_stu (m : MarkInput) (after : List Channel) (u j : State) :
    ∃ i, (State.afterJudge m after u j).stu = { j.stu with idle := i } := by
  obtain ⟨i, hi⟩ := State.quiesce_stu ((State.takeSamples m after (if (State.startIfDue u j).lastLineOnFilm
    then (State.startIfDue u j).markLine m else State.startIfDue u j)).markLine m)
  refine ⟨i, hi.trans ?_⟩
  rw [State.markLine_stu, State.takeSamples_stu]
  split
  · rw [State.markLine_stu, State.startIfDue_stu]
  · rw [State.startIfDue_stu]

theorem State.afterJudge_latchKept (m : MarkInput) (after : List Channel) (u j : State) :
    j.latchKept (State.afterJudge m after u j) := by
  unfold State.afterJudge
  dsimp only
  refine State.latchKept.trans ?_ (State.quiesce_latchKept _)
  refine State.latchKept.trans ?_ (State.markLine_latchKept _ m)
  refine State.latchKept.trans ?_ (State.takeSamples_latchKept m after _)
  split
  · exact (State.startIfDue_latchKept u j).trans (State.markLine_latchKept _ m)
  · exact State.startIfDue_latchKept u j

/-- Without lock no exposure begins in the rest of the mark. -/
theorem State.afterJudge_ended {m : MarkInput} {after : List Channel} {u j : State} (hx : j.exposure? = none)
    (hlock : j.stu.scanner ≠ .locked) : (State.afterJudge m after u j).exposure? = none := by
  have hstarted := State.startIfDue_ended (b := u) hx hlock
  unfold State.afterJudge
  dsimp only
  rw [State.markLine_ended hstarted, ite_self]
  have hsampled := State.takeSamples_ended hstarted (by rwa [State.startIfDue_stu]) m after
  rw [State.markLine_ended hsampled]
  exact State.quiesce_ended hsampled

theorem State.markLine_unlocked {m : MarkInput} (h : m.locked = false) (s : State) : s.markLine m = s := by
  simp [State.markLine, h]

/-- A mark that found the scanner without lock leaves a dark channel that does not fire. -/
theorem State.afterJudge_unfired {m : MarkInput} {c : Channel} (hlock : m.locked = false)
    (hc : m.firing.get c = false) {j : State} (hdark : (j.lcu.get c).sweep = .rest) (after : List Channel) (u : State) :
    (State.afterJudge m after u j).lcu.get c = j.lcu.get c := by
  unfold State.afterJudge
  dsimp only
  rw [State.quiesce_lcu, State.markLine_unlocked hlock, State.markLine_unlocked hlock, ite_self]
  rw [State.takeSamples_unfired hc (by rwa [State.startIfDue_lcu]), State.startIfDue_lcu]

/-! ### The command -/

/-- R112, R114: a mark of a motor that runs, at a possible period. -/
theorem startOfScanMark_running {s : State} {ticks : Nat} (hrun : s.pins.resetLow = false)
    (hmotor : s.stu.scanner = .spinningUp ∨ s.stu.scanner = .acquiring ∨ s.stu.scanner = .locked)
    (hticks : ∀ full, s.stu.missing = .running full → 1 ≤ ticks ∧ ticks ≤ full) (m : Rgb (BitVec 12)) (o : MarkOrder) :
    exec (.startOfScanMark ticks m o) s = .next (s.takeMark ticks m o) := by
  have hmotor' : s.motorEn = true := by
    rcases hmotor with h | h | h <;> simp [State.motorEn, hrun, h]
  have hpossible : s.markPossible ticks = true := by
    unfold State.markPossible
    split
    next full hfull => exact decide_eq_true (hticks full hfull)
    · rfl
  simp [exec, execStartOfScanMark, whenRunning, hrun, hmotor', hpossible]

end Sys2Proof.Machine
end

section
/-! ## The settling of O26: a mark in LOCKED -/

namespace Sys2Proof.Machine

theorem ScanTiming.goodPeriod_iff (g : ScannerSettings) (p : Nat) : goodPeriod g p = true ↔
    ((p : Int) - g.period).natAbs * 4096 ≤ g.period * g.tolerance := by
  simp [goodPeriod]

/-- R117: what a mark that loses lock leaves. -/
theorem State.afterJudge_lost {u : State} (h : u.stu.scanner = .locked) {m : MarkInput}
    (hlost : u.stu.losesLock m.period) (after : List Channel) : ∃ i,
    (State.afterJudge m after u (u.judgeMark m.period)).stu = { (u.stu.counted m.period).lockLost with idle := i } ∧
      (State.afterJudge m after u (u.judgeMark m.period)).hasLatched .scanner ∧
      (State.afterJudge m after u (u.judgeMark m.period)).exposure? = none := by
  have hjudged : u.judgeMark m.period = (u.countMark m.period).loseLock := State.judgeMark_loses h hlost
  obtain ⟨i, hstu⟩ := State.afterJudge_stu m after u (u.judgeMark m.period)
  have hscan : (u.judgeMark m.period).stu = (u.stu.counted m.period).lockLost := by
    rw [hjudged, State.loseLock_stu]
    rfl
  refine ⟨i, by rw [hstu, hscan], ?_, ?_⟩
  · refine (State.afterJudge_latchKept m after u _).hasLatched ?_
    rw [hjudged]
    exact State.loseLock_hasLatched _
  · refine State.afterJudge_ended ?_ (by rw [hscan]; exact nofun)
    rw [hjudged]
    exact State.abort_exposure? _ .lockLost

/-- R117: a mark that keeps lock, in the scan timing unit. -/
theorem State.afterJudge_kept {u : State} (h : u.stu.scanner = .locked) {m : MarkInput}
    (hkept : ¬ u.stu.losesLock m.period) (after : List Channel) : ∃ i,
    (State.afterJudge m after u (u.judgeMark m.period)).stu = { u.stu.keptLock m.period with idle := i } := by
  obtain ⟨i, hstu⟩ := State.afterJudge_stu m after u (u.judgeMark m.period)
  refine ⟨i, hstu.trans ?_⟩
  rw [State.judgeMark_keeps h hkept]
  rfl

theorem ScanTiming.counted_facet_none {v : ScanTiming} (h : v.facet = none) (p : Option Nat) :
    (v.counted p).facet = none := by
  unfold ScanTiming.counted
  rw [h]
  rfl

theorem ScanTiming.counted_facet_some {v : ScanTiming} {f : Nat} (h : v.facet = some f)
    (hlt : f < v.settings.facetCount) (p : Option Nat) :
    (v.counted p).facet = some ((f + 1) % v.settings.facetCount) := by
  unfold ScanTiming.counted
  rw [h]
  exact nextFacet_some hlt

/-- Settles O26: the mark loses lock or keeps it, and nothing after the judgement but the idle timer changes in the
scan timing unit. -/
theorem markInLocked : Obligations.MarkInLocked := by
  intro ticks m o s hrun hlocked hticks
  obtain ⟨before, after, -, hmark⟩ := s.takeMark_eq ticks m o
  refine ⟨_, startOfScanMark_running hrun (.inr (.inr hlocked)) hticks m o, ?_⟩
  rw [hmark]
  dsimp only
  have hstu : (State.takeSamples (s.markInput ticks m) before s.newSweep).stu = s.stu := State.takeSamples_stu _ _ _
  have hperiod : (s.markInput ticks m).period = s.stu.period? ticks := rfl
  generalize State.takeSamples (s.markInput ticks m) before s.newSweep = u at hstu ⊢
  generalize s.markInput ticks m = input at hperiod ⊢
  have hlocked' : u.stu.scanner = .locked := by rw [hstu, hlocked]
  have hgood := ScanTiming.goodPeriod_iff s.stu.settings
  have hlost : u.stu.losesLock input.period ↔ ∃ p, (if s.stu.missing = .stopped then none else some ticks) = some p ∧
      ¬ ((p : Int) - s.stu.settings.period).natAbs * 4096 ≤ s.stu.settings.period * s.stu.settings.tolerance ∧
      3 ≤ s.stu.badRun + 1 := by
    rw [ScanTiming.losesLock, hstu, hperiod, ScanTiming.period?_eq]
    simp only [← hgood, Bool.not_eq_true]
  have hlast := s.stu.counted_lastPeriod ticks
  rw [← ScanTiming.period?_eq, ← hperiod] at hlost ⊢
  rw [← hperiod] at hlast
  by_cases hloses : u.stu.losesLock input.period
  · obtain ⟨i, hleft, hlatched, hended⟩ := State.afterJudge_lost hlocked' hloses after
    rw [hleft, hstu]
    exact ⟨rfl, rfl, hlast, fun _ => ⟨rfl, rfl, rfl, rfl, rfl, hlatched, hended⟩,
      fun hkept => absurd (hlost.mp hloses) hkept⟩
  · obtain ⟨i, hleft⟩ := State.afterJudge_kept hlocked' hloses after
    obtain ⟨n, hcount⟩ := s.stu.keptLock_counted input.period
    have hfacet : (s.stu.keptLock input.period).facet = (s.stu.counted input.period).facet := by rw [hcount]
    refine ⟨by rw [hleft, hstu, hcount]; rfl, by rw [hleft, hstu, hcount]; rfl,
      by rw [hleft, hstu, hcount]; exact hlast, fun h => absurd (hlost.mpr h) hloses, fun _ => ?_⟩
    rw [hleft, hstu]
    refine ⟨by rw [hcount]; exact hlocked, by rw [hcount]; rfl, by rw [hcount]; rfl, fun hp => ?_, fun p hp hg => ?_,
      fun p hp hg => ?_, fun hf => ?_, fun f hf hlt => ?_⟩
    · rw [hp]
      rfl
    · rw [hp, ScanTiming.keptLock]
      exact if_pos ((hgood p).mpr hg)
    · rw [hp, ScanTiming.keptLock]
      exact if_neg (fun h => hg ((hgood p).mp h))
    · exact hfacet.trans (ScanTiming.counted_facet_none hf _)
    · exact hfacet.trans (ScanTiming.counted_facet_some hf hlt _)

end Sys2Proof.Machine
end

section
/-! ## The settling of O25: marks before lock -/

namespace Sys2Proof.Machine
/-! ### The first mark -/

theorem State.takeSamples_dark {m : MarkInput} (h : ∀ c, m.firing.get c = false) (cs : List Channel) (s : State) :
    State.takeSamples m cs s = s :=
  State.takeSamples_induct (P := (· = s)) (fun _ c _ hc _ => absurd ((h c).symm.trans hc) nofun) rfl

/-- R156, R159: what moves the scanner towards lock makes no start due. -/
theorem State.startIfDue_firstMark (s : State) : State.startIfDue s s.firstMark = s.firstMark := by
  have hframe : s.firstMark.frameReady = false := by
    simp [State.frameReady_eq, State.isLocked, State.firstMark, State.withStu]
  have hrunout : s.firstMark.runoutReady = s.runoutReady := rfl
  unfold State.startIfDue
  rw [hframe, hrunout]
  cases s.runoutReady <;> rfl

/-- R119: without lock the idle timer does not run. -/
theorem State.quiesce_stu_unlocked {s : State} (h : s.stu.scanner ≠ .locked) :
    s.quiesce.stu = { s.stu with idle := .stopped } := by
  have hstu : s.beginLine.offerStaging.requestMarking.grant.stu = s.stu := by simp
  have hlock : s.beginLine.offerStaging.requestMarking.grant.isLocked = false := by
    simp [State.isLocked, h]
  rw [State.quiesce, State.updateIdle, hlock]
  exact congrArg (fun v : ScanTiming => { v with idle := .stopped }) hstu

theorem State.quiesce_film_ended {s : State} (h : s.exposure? = none) : s.quiesce.film = s.film := by
  rw [State.quiesce_film, State.beginLine_of_begun fun x hx => absurd (h.symm.trans hx) nofun]

/-- R112: the first mark, the channels dark. -/
theorem State.afterJudge_first {m : MarkInput} (hdark : ∀ c, m.firing.get c = false) (hlock : m.locked = false)
    (after : List Channel) (s : State) : State.afterJudge m after s s.firstMark = s.firstMark.quiesce := by
  unfold State.afterJudge
  dsimp only
  rw [State.startIfDue_firstMark, State.takeSamples_dark hdark, State.markLine_unlocked hlock,
    State.markLine_unlocked hlock, ite_self]

/-- R112: the whole mark in SPINNING_UP. -/
theorem State.takeMark_first {s : State} (hscan : s.stu.scanner = .spinningUp) (hoff : s.channelsFollowScanner)
    (ticks : Nat) (m : Rgb (BitVec 12)) (o : MarkOrder) : s.takeMark ticks m o = s.newSweep.firstMark.quiesce := by
  obtain ⟨before, after, -, hmark⟩ := s.takeMark_eq ticks m o
  have hdark (c : Channel) : (s.markInput ticks m).firing.get c = false := by
    have hstate := hoff (by simp [State.turning, hscan]) c
    have hfires : (s.lcu.map LaserUnit.fires).get c = false := by simp [Rgb.get_map, LaserUnit.fires, hstate]
    exact hfires
  have hlock : (s.markInput ticks m).locked = false := by simp [State.markInput, State.isLocked, hscan]
  have hjudge (p : Option Nat) : s.newSweep.judgeMark p = s.newSweep.firstMark := by
    unfold State.judgeMark
    rw [show s.newSweep.stu.scanner = .spinningUp from hscan]
  rw [hmark]
  dsimp only
  rw [State.takeSamples_dark hdark, hjudge, State.afterJudge_first hdark hlock]

theorem marksBeforeLock_first {s : State} (hrun : s.pins.resetLow = false) (hscan : s.stu.scanner = .spinningUp)
    (hmissing : s.stu.missing = .stopped) (hoff : s.channelsFollowScanner) (hx : s.exposure? = none) (ticks : Nat)
    (m : Rgb (BitVec 12)) (o : MarkOrder) : ∃ t : State, exec (.startOfScanMark ticks m o) s = .next t ∧
      t.stu = { s.stu with scanner := .acquiring, missing := .running (2 * s.stu.settings.period), idle := .stopped } ∧
      t.gc = s.gc ∧ t.rm = s.rm ∧ t.pins = s.pins ∧ t.dbi = s.dbi ∧ t.optics = s.optics ∧ t.port = s.port ∧
      ∀ c, t.lcu.get c = { s.lcu.get c with sweep := ⟨none, []⟩ } := by
  have hticks : ∀ full, s.stu.missing = .running full → 1 ≤ ticks ∧ ticks ≤ full :=
    fun full h => absurd (hmissing.symm.trans h) nofun
  have hfilm : s.newSweep.firstMark.quiesce.film = s.film := State.quiesce_film_ended (s := s.newSweep.firstMark) hx
  have houter : s.newSweep.firstMark.quiesce.outer = s.outer := State.quiesce_outer _
  refine ⟨_, startOfScanMark_running hrun (.inl hscan) hticks m o, ?_⟩
  rw [State.takeMark_first hscan hoff]
  refine ⟨State.quiesce_stu_unlocked (s := s.newSweep.firstMark) nofun, congrArg Prod.fst hfilm,
    congrArg Prod.snd hfilm, State.quiesce_pins _, congrArg Prod.fst houter, congrArg (·.2.2.1) houter,
    congrArg (·.2.1) houter, fun c => ?_⟩
  rw [State.quiesce_lcu]
  exact s.newSweep_get c

/-! ### Marks in ACQUIRING -/

/-- R115: what the mark makes of the acquisition count and of lock. -/
theorem ScanTiming.acquired_acq (v : ScanTiming) (p : Option Nat) :
    (p = none → (v.acquired p).acq = v.acq) ∧
    (∀ q, p = some q → goodPeriod v.settings q = false → (v.acquired p).acq = 0) ∧
    (∀ q, p = some q → goodPeriod v.settings q = true → v.facet = none → (v.acquired p).acq = v.acq) ∧
    (∀ q, p = some q → goodPeriod v.settings q = true → v.facet ≠ none → (v.acquired p).acq = v.acq + 1) := by
  refine ⟨?_, ?_, ?_, ?_⟩
  · rintro rfl
    rfl
  · rintro q rfl hbad
    exact congrArg ScanTiming.acq (if_pos hbad)
  · rintro q rfl hgood hfacet
    simp [ScanTiming.acquired, hgood, hfacet, ScanTiming.counted]
  · rintro q rfl hgood hfacet
    have hknown : v.facet.isSome = true := Option.isSome_iff_ne_none.mpr hfacet
    simp only [ScanTiming.acquired, hgood, hknown, Bool.true_eq_false, if_false]
    split <;> rfl

/-- R115: short of 64 the scanner goes on acquiring. -/
theorem ScanTiming.acquired_short {v : ScanTiming} (hscan : v.scanner = .acquiring) {p : Option Nat}
    (h : (v.acquired p).acq < 64) : (v.acquired p).scanner = .acquiring ∧ (v.acquired p).spinUp = v.spinUp := by
  unfold ScanTiming.acquired at h ⊢
  split
  · exact ⟨hscan, rfl⟩
  · dsimp only at h
    split
    · exact ⟨hscan, rfl⟩
    next hgood =>
      rw [if_neg hgood] at h
      split
      · exact ⟨hscan, rfl⟩
      next hfacet =>
        rw [if_neg hfacet] at h
        split
        next hcount =>
          rw [if_pos hcount] at h
          exact absurd h (Nat.not_lt.mpr hcount)
        · exact ⟨hscan, rfl⟩

/-- R115: the 64th mark gives lock. -/
theorem ScanTiming.acquired_locks {v : ScanTiming} {q : Nat} (hgood : goodPeriod v.settings q = true)
    (hfacet : v.facet ≠ none) (hacq : 64 ≤ v.acq + 1) : (v.acquired (some q)).scanner = .locked ∧
      (v.acquired (some q)).spinUp = .stopped ∧ (v.acquired (some q)).badRun = 0 := by
  have hknown : v.facet.isSome = true := Option.isSome_iff_ne_none.mpr hfacet
  simp [ScanTiming.acquired, hgood, hknown, hacq]

theorem State.lock_get {s : State} (h : s.gc.halted = false) {v : ScanTiming} {c : Channel} :
    (s.withStu v).lock.lcu.get c = (s.lcu.get c).warmIfOff := by
  rw [State.lock_lcu, if_neg (show ¬ (s.withStu v).gc.halted = true by simp [State.withStu, h])]
  exact Rgb.get_map _ _ c

/-- R133: at the mark that gives lock a channel that was OFF begins WARMING. -/
theorem State.afterJudge_warms {s : State} {ticks : Nat} {m : Rgb (BitVec 12)} (hscan : s.stu.scanner = .acquiring)
    (hrun : s.gc.halted = false) {q : Nat} (hp : (s.markInput ticks m).period = some q)
    (hgood : goodPeriod s.stu.settings q = true) (hfacet : s.stu.facet ≠ none) (hacq : 64 ≤ s.stu.acq + 1)
    {c : Channel} (hoff : (s.lcu.get c).state = .off) (before after : List Channel) :
    let input := s.markInput ticks m
    let u := State.takeSamples input before s.newSweep
    (State.afterJudge input after u (u.judgeMark input.period)).lcu.get c =
      { (s.lcu.get c).warm with sweep := .rest } := by
  intro input u
  have hfires : input.firing.get c = false := by
    have h : (s.lcu.map LaserUnit.fires).get c = false := by simp [Rgb.get_map, LaserUnit.fires, hoff]
    exact h
  have hlock : input.locked = false := by simp [input, State.markInput, State.isLocked, hscan]
  have hstu : u.stu = s.stu := State.takeSamples_stu _ _ _
  have hhalted : u.gc.halted = false := (State.takeSamples_halted input before s.newSweep).trans hrun
  have hdark : u.lcu.get c = { s.lcu.get c with sweep := .rest } := by
    rw [← State.newSweep_get]
    exact State.takeSamples_unfired hfires (by rw [State.newSweep_get]) before
  have hjudged : (u.judgeMark input.period).lcu.get c = { (s.lcu.get c).warm with sweep := .rest } := by
    rw [show input.period = some q from hp, State.judgeMark_locks (by rw [hstu, hscan]) (by rw [hstu, hgood])
      (by rw [hstu]; exact hfacet) (by rw [hstu]; exact hacq)]
    have hwarm : LaserUnit.warmIfOff (u.lcu.get c) = { (s.lcu.get c).warm with sweep := .rest } := by
      rw [hdark]
      exact if_pos hoff
    exact (State.lock_get hhalted).trans hwarm
  rw [State.afterJudge_unfired hlock hfires (by rw [hjudged]), hjudged]

/-- R115: at the mark that gives lock SCANNER is raised. -/
theorem State.afterJudge_lockLatched {u : State} (hscan : u.stu.scanner = .acquiring) {m : MarkInput} {q : Nat}
    (hp : m.period = some q) (hgood : goodPeriod u.stu.settings q = true) (hfacet : u.stu.facet ≠ none)
    (hacq : 64 ≤ u.stu.acq + 1) (after : List Channel) :
    (State.afterJudge m after u (u.judgeMark m.period)).hasLatched .scanner := by
  refine (State.afterJudge_latchKept m after u _).hasLatched ?_
  rw [hp, State.judgeMark_locks hscan hgood hfacet hacq]
  exact State.lock_hasLatched _

/-- Settles O25: the first mark finds the outputs dark and the channels off, so it is the judgement alone; a mark in
ACQUIRING is its judgement in the scan timing unit, and the channels that are off take no sample before or after it. -/
theorem marksBeforeLock : Obligations.MarksBeforeLock := by
  refine ⟨fun ticks m o s hrun hscan hmissing hoff hx => marksBeforeLock_first hrun hscan hmissing hoff hx ticks m o,
    fun ticks m o s hrun hscan hticks => ?_⟩
  obtain ⟨before, after, -, hmark⟩ := s.takeMark_eq ticks m o
  refine ⟨_, startOfScanMark_running hrun (.inr (.inl hscan)) hticks m o, ?_⟩
  rw [hmark]
  have hperiod : (s.markInput ticks m).period = if s.stu.missing = .stopped then none else some ticks :=
    s.stu.period?_eq ticks
  have hwarms := fun q hp hgood hfacet hacq c hoff hhalt => State.afterJudge_warms (ticks := ticks) (m := m) hscan hhalt
    (q := q) hp hgood hfacet hacq (c := c) hoff before after
  have hlast := s.stu.counted_lastPeriod ticks
  rw [s.stu.period?_eq] at hlast
  have hstu : (State.takeSamples (s.markInput ticks m) before s.newSweep).stu = s.stu := State.takeSamples_stu _ _ _
  dsimp only at hwarms ⊢
  generalize State.takeSamples (s.markInput ticks m) before s.newSweep = u at hstu hwarms ⊢
  generalize s.markInput ticks m = input at hperiod hwarms ⊢
  rw [← hperiod] at hlast ⊢
  have hscan' : u.stu.scanner = .acquiring := by rw [hstu, hscan]
  have hlatched := fun q hp hgood hfacet hacq =>
    State.afterJudge_lockLatched hscan' (m := input) (q := q) hp hgood hfacet hacq after
  rw [hstu] at hlatched
  obtain ⟨idle, hleft⟩ := State.afterJudge_stu input after u (u.judgeMark input.period)
  rw [State.judgeMark_acquiring hscan', hstu] at hleft
  have hgood := ScanTiming.goodPeriod_iff s.stu.settings
  simp only [← hgood, hleft, Bool.not_eq_true]
  obtain ⟨hsettings, hfacet, hstored, hmissing⟩ := s.stu.acquired_counted input.period
  obtain ⟨hnone, hbad, hunknown, hcounts⟩ := s.stu.acquired_acq input.period
  refine ⟨hsettings, hmissing, hstored.trans hlast, fun h => hfacet.trans (ScanTiming.counted_facet_none h _),
    fun f h hlt => hfacet.trans (ScanTiming.counted_facet_some h hlt _), hnone, hbad, hunknown, hcounts,
    fun h => ScanTiming.acquired_short hscan h, fun p hp hg hf hacq => ?_⟩
  have hlocks := ScanTiming.acquired_locks hg hf hacq
  rw [← hp] at hlocks
  obtain ⟨hlocked, hspin, hrunlength⟩ := hlocks
  exact ⟨hlocked, hspin, hrunlength, hlatched p hp hg hf hacq, fun c hoff hhalt => hwarms p hp hg hf hacq c hoff hhalt⟩

end Sys2Proof.Machine
end

section
/-! ## Calm marks: three READY channels that stay within their fault bands, and lock kept (R117, R134, R138) -/

namespace Sys2Proof.Machine
/-! ### One sample -/

/-- The channel is READY, and the sample leaves its average within the fault band. -/
def LaserUnit.calmUnder (u : LaserUnit) (m : BitVec 12) : Prop :=
  u.state = .ready ∧ beyondFault u.settings (trackAverage u.average m.toNat u.settings.loopShift) = false

theorem LaserUnit.judgeReady_calm {u : LaserUnit} (h : beyondFault u.settings u.average = false) :
    u.judgeReady.1.sweep = u.sweep ∧ u.judgeReady.1.settings = u.settings ∧ u.judgeReady.2 ≠ .fault := by
  unfold LaserUnit.judgeReady
  rw [if_neg (by simp [h])]
  repeat' split
  all_goals exact ⟨rfl, rfl, nofun⟩

/-- R134, R138: what a calm sample leaves of the output, and that it is no fault. -/
theorem LaserUnit.judge_calm {u : LaserUnit} {m : BitVec 12} (h : u.calmUnder m) :
    (u.take m).judge.1.sweep = { u.sweep with pulse := some u.settings.refDrive } ∧
      (u.take m).judge.2 ≠ .fault := by
  have hjudge : (u.take m).judge = (u.take m).judgeReady := by
    unfold LaserUnit.judge
    rw [show (u.take m).state = .ready from h.1]
  obtain ⟨hsweep, -, hverdict⟩ := LaserUnit.judgeReady_calm (u := u.take m) h.2
  rw [hjudge]
  exact ⟨hsweep, hverdict⟩

theorem LaserUnit.calmUnder.fires {u : LaserUnit} {m : BitVec 12} (h : u.calmUnder m) : u.fires = true :=
  decide_eq_true (.inr h.1)

theorem State.sampleChannel_calm {s : State} {c : Channel} {m : BitVec 12} (h : (s.lcu.get c).calmUnder m) : ∃ a,
    s.sampleChannel c m = { s.mapLaser c (fun u => (u.take m).judge.1) with au := a } := by
  obtain ⟨-, hverdict⟩ := LaserUnit.judge_calm h
  unfold State.sampleChannel
  rw [if_pos h.fires]
  dsimp only
  split
  · exact ⟨s.au, rfl⟩
  next hfault => exact absurd hfault hverdict
  · exact ⟨_, rfl⟩

/-! ### All samples -/

theorem State.startIfDue_unready {b s : State} (h : s.gateReady = false) : State.startIfDue b s = s := by
  have hframe : s.frameReady = false := by simp [State.frameReady_eq, h]
  have hrunout : s.runoutReady = false := by simp [State.runoutReady, h]
  unfold State.startIfDue
  rw [hframe, hrunout]
  rfl

theorem State.gateReady_of_exposure {s : State} {x : Exposure} (h : s.exposure? = some x) : s.gateReady = false := by
  simp [State.gateReady, State.exposure?_eq_some.mp h]

/-- Samples of distinct channels, where no start can come due. -/
theorem State.takeSamples_calm {m : MarkInput} {cs : List Channel} (hdistinct : cs.Nodup) {s : State}
    (hfire : ∀ c ∈ cs, m.firing.get c = true) (hcalm : ∀ c ∈ cs, (s.lcu.get c).calmUnder (m.samples.get c))
    (hgate : s.gateReady = false) : ∃ v a, State.takeSamples m cs s = { s with lcu := v, au := a } ∧
      ∀ c, v.get c = if c ∈ cs then ((s.lcu.get c).take (m.samples.get c)).judge.1 else s.lcu.get c := by
  induction cs generalizing s with
  | nil => exact ⟨s.lcu, s.au, rfl, fun c => (if_neg (by simp)).symm⟩
  | cons c cs ih =>
    obtain ⟨hnew, hrest⟩ := List.nodup_cons.mp hdistinct
    obtain ⟨a, hsample⟩ := State.sampleChannel_calm (hcalm c (List.mem_cons_self ..))
    have hpart : State.markPart m s (.sample c) = s.sampleChannel c (m.samples.get c) := by
      unfold State.markPart
      dsimp only
      rw [if_pos (hfire c (List.mem_cons_self ..)), State.startIfDue_unready (by rw [hsample]; exact hgate)]
    have hother (d : Channel) (hd : d ≠ c) : (s.sampleChannel c (m.samples.get c)).lcu.get d = s.lcu.get d := by
      rw [hsample]
      exact (s.mapLaser_get c d fun u => (u.take (m.samples.get c)).judge.1).trans (if_neg hd)
    have hself : (s.sampleChannel c (m.samples.get c)).lcu.get c =
        ((s.lcu.get c).take (m.samples.get c)).judge.1 := by
      rw [hsample]
      exact (s.mapLaser_get c c fun u => (u.take (m.samples.get c)).judge.1).trans (if_pos rfl)
    have hne (d : Channel) (hd : d ∈ cs) : d ≠ c := fun h => hnew (h ▸ hd)
    obtain ⟨v, b, hsamples, hget⟩ := ih (s := s.sampleChannel c (m.samples.get c)) hrest
      (fun d hd => hfire d (List.mem_cons_of_mem c hd))
      (fun d hd => by rw [hother d (hne d hd)]; exact hcalm d (List.mem_cons_of_mem c hd))
      (by rw [hsample]; exact hgate)
    refine ⟨v, b, ?_, fun d => ?_⟩
    · refine (congrArg (State.takeSamples m cs) hpart).trans (hsamples.trans ?_)
      rw [hsample]
      rfl
    · rw [hget d]
      by_cases hd : d = c
      · subst hd
        rw [if_neg hnew, hself, if_pos (List.mem_cons_self ..)]
      · rw [hother d hd]
        simp [hd]

/-! ### The mark -/

theorem channelsInOrder_nodup (o : ChannelOrder) : (channelsInOrder o).Nodup := by cases o <;> decide

theorem mem_channelsInOrder (o : ChannelOrder) (c : Channel) : c ∈ channelsInOrder o := by
  cases o <;> cases c <;> decide

/-- A mark in LOCKED keeps lock unless it ends the third bad period in a row. -/
theorem ScanTiming.keepsLock {v : ScanTiming} {ticks : Nat}
    (h : ∀ full, v.missing = .running full → goodPeriod v.settings ticks = true ∨ v.badRun + 1 < 3) :
    ¬ v.losesLock (v.period? ticks) := by
  rintro ⟨q, hq, hbad, hrun⟩
  unfold ScanTiming.period? at hq
  cases hm : v.missing with
  | stopped => simp [hm] at hq
  | running full =>
    obtain rfl : ticks = q := by simpa [hm] using hq
    exact (h full hm).elim (fun hgood => absurd (hbad.symm.trans hgood) nofun) (fun hfew => by omega)

/-- The unit after a mark that keeps lock, of which the frame needs the scanner alone. -/
theorem ScanTiming.keptLock_scanner (v : ScanTiming) (p : Option Nat) : (v.keptLock p).scanner = v.scanner := by
  obtain ⟨n, h⟩ := v.keptLock_counted p
  rw [h]
  rfl

theorem State.newSweep_calm {s : State} {c : Channel} {m : BitVec 12} (h : (s.lcu.get c).calmUnder m) :
    (s.newSweep.lcu.get c).calmUnder m := by
  rw [State.newSweep_get]
  exact h

/-- The part at a mark that keeps lock, after the judgement and the samples taken. -/
def State.swept (s : State) (ticks : Nat) (v : Rgb LaserUnit) (a : Vector AttentionLine 4) : State :=
  { s with lcu := v, au := a, stu := s.stu.keptLock (s.stu.period? ticks) }

/-- Every output carries its reference pulse and nothing of a line. -/
def pulsesOnly (s : State) (v : Rgb LaserUnit) : Prop :=
  ∀ c, (v.get c).sweep = ⟨some (s.lcu.get c).settings.refDrive, []⟩

theorem State.swept_exposure? (s : State) (ticks : Nat) (v : Rgb LaserUnit) (a : Vector AttentionLine 4) :
    (s.swept ticks v a).exposure? = s.exposure? := rfl

theorem State.swept_lastLineOnFilm (s : State) (ticks : Nat) (v : Rgb LaserUnit) (a : Vector AttentionLine 4) :
    (s.swept ticks v a).lastLineOnFilm = s.lastLineOnFilm := rfl

section CalmMark
variable {s : State} {ticks : Nat} {m : Rgb (BitVec 12)} (o : MarkOrder) {x : Exposure}

/-- A calm mark up to what it does for the frame: some samples, then the judgement. -/
theorem State.takeMark_calm (hlocked : s.stu.scanner = .locked) (hkept : ¬ s.stu.losesLock (s.stu.period? ticks))
    (hx : s.exposure? = some x) (hcalm : ∀ c, (s.lcu.get c).calmUnder (m.get c)) : ∃ after v a,
      after.Nodup ∧
      (∀ c, c ∈ after → v.get c = s.newSweep.lcu.get c) ∧
      (∀ c, c ∉ after → v.get c = ((s.newSweep.lcu.get c).take (m.get c)).judge.1) ∧
      s.takeMark ticks m o =
        let j := s.swept ticks v a
        let input := s.markInput ticks m
        ((State.takeSamples input after (if j.lastLineOnFilm then j.markLine input else j)).markLine input).quiesce := by
  obtain ⟨before, after, hsplit, hmark⟩ := s.takeMark_eq ticks m o
  have hdistinct : (before ++ after).Nodup := hsplit ▸ channelsInOrder_nodup o.channels
  have hall (c : Channel) : c ∈ before ++ after := hsplit ▸ mem_channelsInOrder o.channels c
  obtain ⟨hbefore, hafter, hapart⟩ := List.nodup_append.mp hdistinct
  have hfire (c : Channel) : (s.markInput ticks m).firing.get c = true :=
    (Rgb.get_map _ _ c).trans (hcalm c).fires
  obtain ⟨v, a, hsamples, hget⟩ := State.takeSamples_calm (m := s.markInput ticks m) hbefore (s := s.newSweep)
    (fun c _ => hfire c) (fun c _ => State.newSweep_calm (hcalm c)) (State.gateReady_of_exposure (s := s) hx)
  refine ⟨after, v, a, hafter, fun c hc => ?_, fun c hc => ?_, ?_⟩
  · rw [hget c, if_neg fun hb => hapart c hb c hc rfl]
  · rw [hget c, if_pos ((List.mem_append.mp (hall c)).resolve_right hc)]
    rfl
  · have hjudged : ({ s.newSweep with lcu := v, au := a } : State).judgeMark (s.stu.period? ticks) = s.swept ticks v a :=
      State.judgeMark_keeps (s := { s.newSweep with lcu := v, au := a }) hlocked hkept
    have hstart (b : State) : State.startIfDue b (s.swept ticks v a) = s.swept ticks v a :=
      State.startIfDue_unready (State.gateReady_of_exposure (s := s) hx)
    rw [hmark]
    dsimp only
    rw [hsamples, State.afterJudge, show (s.markInput ticks m).period = s.stu.period? ticks from rfl, hjudged, hstart]

theorem State.markLine_locked {t : State} (hlocked : s.stu.scanner = .locked) (ht : t.stu.scanner = .locked) :
    t.markLine (s.markInput ticks m) = t.lineOut s.stu.facet := by
  simp [State.markLine, State.markInput, State.isLocked, hlocked, ht]

/-- A calm mark that does not end the frame: all samples, the line output, and the end of the event. -/
theorem State.takeMark_calm_line (hlocked : s.stu.scanner = .locked)
    (hkept : ¬ s.stu.losesLock (s.stu.period? ticks)) (hx : s.exposure? = some x)
    (hcalm : ∀ c, (s.lcu.get c).calmUnder (m.get c)) (hlast : s.lastLineOnFilm = false) : ∃ v a,
      pulsesOnly s v ∧ s.takeMark ticks m o = ((s.swept ticks v a).lineOut s.stu.facet).quiesce := by
  obtain ⟨after, v, a, hdistinct, hfresh, htaken, hmark⟩ := State.takeMark_calm o hlocked hkept hx hcalm
  have hscanner : (s.swept ticks v a).stu.scanner = .locked := (s.stu.keptLock_scanner _).trans hlocked
  obtain ⟨w, b, hsamples, hget⟩ := State.takeSamples_calm (m := s.markInput ticks m) hdistinct (s := s.swept ticks v a)
    (fun c _ => (Rgb.get_map _ _ c).trans (hcalm c).fires)
    (fun c hc => by
      have hv : (s.swept ticks v a).lcu.get c = s.newSweep.lcu.get c := hfresh c hc
      rw [hv]
      exact State.newSweep_calm (hcalm c))
    (State.gateReady_of_exposure (s := s) hx)
  refine ⟨w, b, fun c => ?_, ?_⟩
  · have hw : w.get c = ((s.newSweep.lcu.get c).take (m.get c)).judge.1 := by
      rw [hget c]
      by_cases hc : c ∈ after
      · rw [if_pos hc, show (s.swept ticks v a).lcu.get c = v.get c from rfl, hfresh c hc]
        rfl
      · rw [if_neg hc]
        exact htaken c hc
    rw [hw, (LaserUnit.judge_calm (State.newSweep_calm (hcalm c))).1, State.newSweep_get]
    rfl
  · rw [hmark]
    dsimp only
    rw [State.swept_lastLineOnFilm, hlast, if_neg Bool.false_ne_true, hsamples]
    rw [show ({ s.swept ticks v a with lcu := w, au := b } : State) = s.swept ticks w b from rfl]
    rw [State.markLine_locked (t := s.swept ticks w b) hlocked hscanner]

end CalmMark

end Sys2Proof.Machine
end

section
/-! ## Lines at the marks: taken, waiting and blanked (R123 to R126, R68, R70) -/

namespace Sys2Proof.Machine
/-! ### What the end of an event makes of the line in production -/

/-- After the lines are begun, the end of an event leaves the line fetch. -/
theorem State.quiesce_fetch (s : State) : s.quiesce.sr.fetch = s.beginLine.sr.fetch := by
  obtain ⟨c, p, m, hgrant⟩ := State.channelOnly_trans s.beginLine.offerStaging.requestMarking_channelOnly
    s.beginLine.offerStaging.requestMarking.grant_channelOnly
  obtain ⟨i, hidle⟩ := s.beginLine.offerStaging.requestMarking.grant.updateIdle_shape
  rw [State.quiesce, hidle, hgrant]
  exact s.beginLine.offerStaging_fetch

/-- R68: a line not due does not begin. -/
theorem State.quiesce_notDue {s : State} {x : Exposure} (hx : s.exposure? = some x) (hdue : s.lineDue x = false) :
    s.quiesce.exposure? = some x ∧ s.quiesce.sr.fetch = s.sr.fetch := by
  have hbegun : s.beginLine = s := State.beginLine_of_begun fun y hy => by
    obtain rfl : x = y := Option.some.inj (hx.symm.trans hy)
    exact hdue
  exact ⟨(State.exposure?_congr (State.quiesce_of_begun hbegun).1).trans hx, (State.quiesce_of_begun hbegun).2⟩

theorem State.exposingEntry?_of_exposure {s : State} {x : Exposure} (hx : s.exposure? = some x) :
    s.exposingEntry? = s.head? := by
  simp [State.exposingEntry?, State.isExposing, hx]

theorem State.frameHeight_of_head {s : State} {x : Exposure} {e : Entry} {i : ImagePart} (hx : s.exposure? = some x)
    (he : s.head? = some e) (hi : e.image? = some i) : s.frameHeight = i.height := by
  simp [State.frameHeight, State.exposingEntry?_of_exposure hx, he, hi]

/-- R68: a line due begins: a STORED entry's with its fetch, a FLAT one's at once in its computation. -/
theorem State.quiesce_due {s : State} {x : Exposure} {e : Entry} {i : ImagePart} (hx : s.exposure? = some x)
    (he : s.head? = some e) (hi : e.image? = some i) (hdue : s.lineDue x = true) : ∃ phase,
      s.quiesce.exposure? = some (x.begin phase) ∧
      (e.isStored = true → phase = .fetching ∧ ∃ f, s.quiesce.sr.fetch = some f ∧ f.y = x.nextLine) ∧
      ∀ values, e.body = .flat i values → phase = .computing (flatSource values) := by
  have hentry := (State.exposingEntry?_of_exposure hx).trans he
  have hexposure {phase : LinePhase} (hfilm : s.beginLine.film = (s.mapExposure (·.begin phase)).film) :
      s.quiesce.exposure? = some (x.begin phase) := by
    rw [State.exposure?_congr (s.quiesce_film.trans hfilm)]
    exact State.mapExposure_exposure? hx _
  cases hbody : e.body with
  | stored j p =>
    have hline : s.beginLine = (s.mapExposure (·.begin .fetching)).requestLine (newFetch e j p x.nextLine) := by
      unfold State.beginLine
      simp only [hx, hentry, hdue, if_true, hbody]
    refine ⟨.fetching, hexposure (by rw [hline]; exact State.requestLine_film _ _), fun _ => ⟨rfl, ?_⟩, nofun⟩
    rw [s.quiesce_fetch, hline]
    exact ⟨_, rfl, rfl⟩
  | flat j v =>
    have hline : s.beginLine = s.mapExposure (·.begin (.computing (flatSource v))) := by
      unfold State.beginLine
      simp only [hx, hentry, hdue, if_true, hbody]
    refine ⟨_, hexposure (by rw [hline]), fun hstored => ?_, fun values hvalues => ?_⟩
    · simp [Entry.isStored, Entry.stored?, hbody] at hstored
    · cases hvalues
      rfl
  | runout n => simp [Entry.image?, hbody] at hi

/-- R68: whether or not a line begins, the rest of the exposure stands. -/
theorem State.quiesce_exposureKept {s : State} {x : Exposure} (hx : s.exposure? = some x) : ∃ x',
    s.quiesce.exposure? = some x' ∧ x'.ctx = x.ctx ∧ x'.steps = x.steps ∧ x'.out = x.out ∧ x'.nextOut = x.nextOut ∧
      x'.fifo = x.fifo ∧ x'.clips = x.clips := by
  rcases State.quiesce_exposure? hx with h | ⟨phase, h⟩
  · exact ⟨x, h, rfl, rfl, rfl, rfl, rfl, rfl⟩
  · exact ⟨x.begin phase, h, rfl, rfl, rfl, rfl, rfl, rfl⟩

/-! ### A line taken from the FIFO -/

theorem State.takeLine_exposure? {s : State} {x : Exposure} (hx : s.exposure? = some x) (r : LineRecord) :
    (s.takeLine r).exposure? = some { x with
      fifo := x.fifo.tail, clips := addClips x.clips r.clips, out := .onFilm r.y .exposed, nextOut := r.y + 1 } :=
  State.mapExposure_exposure? hx _

theorem State.takeLine_sweep (s : State) (r : LineRecord) (c : Channel) : ((s.takeLine r).lcu.get c).sweep =
    { (s.lcu.get c).sweep with image := r.codes.map (Rgb.get · c) } := by
  simp only [State.takeLine, State.withLcu, Rgb.get_tabulate, State.mapExposure_lcu]

theorem addClips_get (frame line : Rgb Nat) (c : Channel) :
    (addClips frame line).get c = min (frame.get c + line.get c) 65535 := by
  cases c <;> rfl

/-- R125: a line record on its way to the film, at the end of the mark. -/
theorem State.takeLine_quiesced {s u : State} {x : Exposure} {r : LineRecord} (hx : u.exposure? = some x)
    (hpulse : pulsesOnly s u.lcu) : ∃ x', (u.takeLine r).quiesce.exposure? = some x' ∧ x'.ctx = x.ctx ∧
      x'.steps = x.steps ∧ x'.out = .onFilm r.y .exposed ∧ x'.nextOut = r.y + 1 ∧ x'.fifo = x.fifo.tail ∧
      (∀ c, x'.clips.get c = min (x.clips.get c + r.clips.get c) 65535) ∧
      ∀ c, ((u.takeLine r).quiesce.lcu.get c).sweep =
        ⟨some (s.lcu.get c).settings.refDrive, r.codes.map (Rgb.get · c)⟩ := by
  obtain ⟨x', hx', hctx, hsteps, hout, hnext, hfifo, hclips⟩ :=
    State.quiesce_exposureKept (State.takeLine_exposure? hx r)
  refine ⟨x', hx', hctx, hsteps, hout, hnext, hfifo, fun c => ?_, fun c => ?_⟩
  · rw [hclips]
    exact addClips_get _ _ c
  · rw [State.quiesce_lcu, State.takeLine_sweep, hpulse c]

/-! ### What a mark does for the frame, case by case -/

section LineOut
variable {s : State} {x : Exposure} {facet : Option Nat} (hx : s.exposure? = some x)
include hx

theorem State.lineOut_takesFirst (hout : x.out = .waiting) {r : LineRecord} (hr : x.fifo.head? = some r)
    (hfacet : facet = some 0) (hy : r.y = 0) : s.lineOut facet = s.takeLine r := by
  unfold State.lineOut
  simp only [hx, hout, hr]
  exact if_pos ⟨hfacet, hy⟩

theorem State.lineOut_waits (hout : x.out = .waiting)
    (h : facet ≠ some 0 ∨ ∀ r, x.fifo.head? = some r → r.y ≠ 0) : s.lineOut facet = s := by
  unfold State.lineOut
  simp only [hx, hout]
  split
  next r hr => exact if_neg fun ⟨hfacet, hy⟩ => h.elim (· hfacet) (fun h => h r hr hy)
  · rfl

theorem State.lineOut_next {y : Nat} {kind : LineKind} (hout : x.out = .onFilm y kind) (hy : y + 1 ≠ s.frameHeight) :
    s.lineOut facet = (s.endLine kind).putLine x := by
  unfold State.lineOut
  simp only [hx, hout]
  exact if_neg hy

theorem State.lineOut_last {y : Nat} {kind : LineKind} (hout : x.out = .onFilm y kind) (hy : y + 1 = s.frameHeight) :
    s.lineOut facet = (s.endLine kind).frameEnd := by
  unfold State.lineOut
  simp only [hx, hout]
  exact if_pos hy

theorem State.lastLineOnFilm_onFilm {y : Nat} {kind : LineKind} (hout : x.out = .onFilm y kind) :
    s.lastLineOnFilm = decide (y + 1 = s.frameHeight) := by
  unfold State.lastLineOnFilm
  simp only [hx, hout]

theorem State.lastLineOnFilm_waiting (hout : x.out = .waiting) : s.lastLineOnFilm = false := by
  unfold State.lastLineOnFilm
  simp only [hx, hout]

end LineOut

theorem State.putLine_takes (s : State) {x : Exposure} {r : LineRecord} (hr : x.fifo.head? = some r)
    (hy : r.y = x.nextOut) : s.putLine x = s.takeLine r := by
  unfold State.putLine
  simp only [hr]
  exact if_pos hy

theorem State.putLine_blanks (s : State) {x : Exposure} (h : ∀ r, x.fifo.head? = some r → r.y ≠ x.nextOut) :
    s.putLine x = s.blankLine x.nextOut := by
  unfold State.putLine
  split
  next r hr => exact if_neg (h r hr)
  · rfl

/-! ### A blanked line -/

/-- R126, R70: the exposure after line y is put out BLANKED and dropped from production. -/
def Exposure.blanked (x : Exposure) (y : Nat) : Exposure :=
  { x with
    out := .onFilm y .blanked, nextOut := y + 1, nextLine := max x.nextLine (y + 1)
    line := x.line.filter fun l => decide (l.y ≠ y) }

theorem State.blankLine_exposure? {s : State} {x : Exposure} (hx : s.exposure? = some x) (y : Nat) :
    (s.blankLine y).exposure? = some (x.blanked y) := by
  have hout := State.mapExposure_exposure? hx fun x => { x with out := .onFilm y .blanked, nextOut := y + 1 }
  unfold State.blankLine State.dropLine
  simp only [hout]
  cases hl : x.line with
  | none =>
    refine (State.mapExposure_exposure? hout _).trans (congrArg some ?_)
    simp [Exposure.blanked, hl]
  | some l =>
    by_cases hy : l.y = y
    · have hmapped := State.mapExposure_exposure? hout fun x => { x with nextLine := max x.nextLine (y + 1), line := none }
      have hblanked : x.blanked y = { x with
          out := .onFilm y .blanked, nextOut := y + 1, nextLine := max x.nextLine (y + 1), line := none } := by
        simp [Exposure.blanked, hl, Option.filter, hy]
      rw [hblanked]
      simp only [hy, if_true]
      split
      · exact (State.exposure?_congr (State.withdrawFetch_film _)).trans hmapped
      · exact hmapped
    · simp only [hy, if_false]
      refine (State.mapExposure_exposure? hout _).trans (congrArg some ?_)
      simp [Exposure.blanked, hl, Option.filter, hy]

/-- R70: a line in production that is not dropped keeps its fetch. -/
theorem State.blankLine_fetch_other {s : State} {x : Exposure} (hx : s.exposure? = some x) {y : Nat}
    (hl : ∀ l, x.line = some l → l.y ≠ y) : (s.blankLine y).sr.fetch = s.sr.fetch := by
  have hout := State.mapExposure_exposure? hx fun x => { x with out := .onFilm y .blanked, nextOut := y + 1 }
  unfold State.blankLine State.dropLine
  simp only [hout]
  cases hline : x.line with
  | none => simp only [State.mapExposure_sr]
  | some l => simp only [hl l hline, if_false, State.mapExposure_sr]

/-- R63, R70: a line dropped while it is fetched has its fetch withdrawn. -/
theorem State.blankLine_fetch_dropped {s : State} {x : Exposure} (hx : s.exposure? = some x) {l : LineProduction}
    (hl : x.line = some l) (hphase : l.phase = .fetching) : (s.blankLine l.y).sr.fetch = none := by
  have hout := State.mapExposure_exposure? hx fun x => { x with out := .onFilm l.y .blanked, nextOut := l.y + 1 }
  unfold State.blankLine State.dropLine
  simp only [hout, hl, if_true, hphase]
  obtain ⟨c, p, m, hshape⟩ := State.withdrawFetch_shape (State.mapExposure (s.mapExposure fun x =>
    { x with out := .onFilm l.y .blanked, nextOut := l.y + 1 }) fun x =>
    { x with nextLine := max x.nextLine (l.y + 1), line := none })
  rw [hshape]

theorem State.mapExposure_fq (s : State) (f : Exposure → Exposure) : (s.mapExposure f).fq = s.fq := by
  obtain ⟨g, h⟩ := s.mapExposure_shape f
  rw [h]

theorem State.withdrawFetch_fq (s : State) : s.withdrawFetch.fq = s.fq := by
  obtain ⟨c, p, m, h⟩ := s.withdrawFetch_shape
  rw [h]

theorem State.blankLine_fq (s : State) (y : Nat) : (s.blankLine y).fq = s.fq := by
  unfold State.blankLine State.dropLine
  split
  · exact State.mapExposure_fq _ _
  · dsimp only
    repeat' split
    all_goals simp only [State.withdrawFetch_fq, State.mapExposure_fq]

theorem State.endLine_fq (s : State) (kind : LineKind) : (s.endLine kind).fq = s.fq := s.mapExposure_fq _

theorem State.endLine_sr (s : State) (kind : LineKind) : (s.endLine kind).sr = s.sr := s.mapExposure_sr _

theorem State.endLine_pins (s : State) (kind : LineKind) :
    (s.endLine kind).pins = { s.pins with lstep := s.pins.lstep + 1 } := rfl

/-! ### The part after a blanked line -/

section Blanked
variable {w : State} {x : Exposure} {e : Entry} {i : ImagePart} (hx : w.exposure? = some x) (he : w.head? = some e)
  (hi : e.image? = some i)
include hx he hi

/-- R68: which line is due once line y has been put out BLANKED. -/
theorem State.blankLine_lineDue (y : Nat) : (w.blankLine y).lineDue (x.blanked y) =
    ((x.line.filter fun l => decide (l.y ≠ y)).isNone && decide (max x.nextLine (y + 1) < i.height) &&
      decide (x.fifo.length < 4)) := by
  have hhead : (w.blankLine y).head? = some e := by
    unfold State.head?
    rw [State.blankLine_fq]
    exact he
  unfold State.lineDue
  rw [State.frameHeight_of_head (State.blankLine_exposure? hx y) hhead hi]
  rfl

/-- R70: another line in production goes on. -/
theorem State.blankLine_goesOn {y : Nat} {l : LineProduction} (hl : x.line = some l) (hy : l.y ≠ y) :
    (w.blankLine y).quiesce.exposure? = some (x.blanked y) ∧ (x.blanked y).line = some l ∧
      (w.blankLine y).quiesce.sr.fetch = w.sr.fetch := by
  have hkept : (x.line.filter fun l => decide (l.y ≠ y)) = some l := by simp [hl, Option.filter, hy]
  obtain ⟨hexposure, hfetch⟩ := State.quiesce_notDue (State.blankLine_exposure? hx y)
    (by rw [State.blankLine_lineDue hx he hi, hkept]; rfl)
  refine ⟨hexposure, hkept, hfetch.trans (State.blankLine_fetch_other hx fun l' hl' => ?_)⟩
  obtain rfl : l = l' := Option.some.inj (hl.symm.trans hl')
  exact hy

/-- R68: with no other line in production, the next one begins when it can. -/
theorem State.blankLine_begins {y : Nat} (hfree : x.line = none ∨ ∃ l, x.line = some l ∧ l.y = y)
    (hlow : max x.nextLine (y + 1) < i.height) (hroom : x.fifo.length < 4) : ∃ phase,
      (w.blankLine y).quiesce.exposure? = some ((x.blanked y).begin phase) ∧
      (e.isStored = true → phase = .fetching ∧
        ∃ f, (w.blankLine y).quiesce.sr.fetch = some f ∧ f.y = max x.nextLine (y + 1)) ∧
      ∀ values, e.body = .flat i values → phase = .computing (flatSource values) := by
  have hnone : (x.line.filter fun l => decide (l.y ≠ y)) = none := by
    rcases hfree with h | ⟨l, h, hy⟩ <;> simp [Option.filter, *]
  have hhead : (w.blankLine y).head? = some e := by
    unfold State.head?
    rw [State.blankLine_fq]
    exact he
  exact State.quiesce_due (State.blankLine_exposure? hx y) hhead hi
    (by rw [State.blankLine_lineDue hx he hi, hnone]; simp [hlow, hroom])

/-- R68: otherwise no line is in production. -/
theorem State.blankLine_rests {y : Nat} (hfree : x.line = none ∨ ∃ l, x.line = some l ∧ l.y = y)
    (hrest : i.height ≤ max x.nextLine (y + 1) ∨ 4 ≤ x.fifo.length) :
      (w.blankLine y).quiesce.exposure? = some (x.blanked y) ∧ (x.blanked y).line = none ∧
      ∀ l, x.line = some l → l.phase = .fetching → (w.blankLine y).quiesce.sr.fetch = none := by
  have hnone : (x.line.filter fun l => decide (l.y ≠ y)) = none := by
    rcases hfree with h | ⟨l, h, hy⟩ <;> simp [Option.filter, *]
  have hdue : (w.blankLine y).lineDue (x.blanked y) = false := by
    rw [State.blankLine_lineDue hx he hi]
    rcases hrest with h | h
    · simp [Nat.not_lt.mpr h]
    · simp [Nat.not_lt.mpr h]
  obtain ⟨hexposure, hfetch⟩ := State.quiesce_notDue (State.blankLine_exposure? hx y) hdue
  refine ⟨hexposure, hnone, fun l hl hphase => hfetch.trans ?_⟩
  rcases hfree with h | ⟨l', h, rfl⟩
  · exact absurd (h.symm.trans hl) nofun
  · obtain rfl : l' = l := Option.some.inj (h.symm.trans hl)
    exact State.blankLine_fetch_dropped hx h hphase

end Blanked

end Sys2Proof.Machine
end

section
/-! ## The settling of O42 -/

namespace Sys2Proof.Machine

/-- The line output's predicate of O42, a line taken from the FIFO. -/
def Exposure.takesLine (s : State) (x : Exposure) (r : LineRecord) (t : State) (x' : Exposure) : Prop :=
  x'.out = .onFilm r.y .exposed ∧ x'.nextOut = r.y + 1 ∧ x'.fifo = x.fifo.tail ∧
  (∀ c, x'.clips.get c = min (x.clips.get c + r.clips.get c) 65535) ∧
  ∀ c, (t.lcu.get c).sweep = ⟨some (s.lcu.get c).settings.refDrive, r.codes.map (Rgb.get · c)⟩

section Waiting
variable {s u : State} {x : Exposure} {facet : Option Nat} (hx : u.exposure? = some x) (hpulse : pulsesOnly s u.lcu)
  (hout : x.out = .waiting)
include hx hpulse hout

/-- R124: what a mark does for a waiting output. -/
theorem State.lineOut_waiting_quiesced : ∃ x', (u.lineOut facet).quiesce.exposure? = some x' ∧ x'.steps = x.steps ∧
    (u.lineOut facet).quiesce.pins = u.pins ∧ x'.ctx = x.ctx ∧
    (∀ r, x.fifo.head? = some r → facet = some 0 → r.y = 0 → x.takesLine s r (u.lineOut facet).quiesce x') ∧
    (facet ≠ some 0 ∨ (∀ r, x.fifo.head? = some r → r.y ≠ 0) →
      x'.out = .waiting ∧ x'.fifo = x.fifo ∧ x'.clips = x.clips ∧
        ∀ c, ((u.lineOut facet).quiesce.lcu.get c).sweep = ⟨some (s.lcu.get c).settings.refDrive, []⟩) := by
  by_cases h : ∃ r, x.fifo.head? = some r ∧ facet = some 0 ∧ r.y = 0
  · obtain ⟨r, hr, hfacet, hy⟩ := h
    rw [State.lineOut_takesFirst hx hout hr hfacet hy]
    obtain ⟨x', hx', hctx, hsteps, htaken⟩ := State.takeLine_quiesced (r := r) hx hpulse
    refine ⟨x', hx', hsteps, by simp, hctx, fun r' hr' _ _ => ?_, fun hwait => ?_⟩
    · obtain rfl : r = r' := Option.some.inj (hr.symm.trans hr')
      exact htaken
    · exact absurd hy (hwait.elim (absurd hfacet) fun h => h r hr)
  · have hwait : facet ≠ some 0 ∨ ∀ r, x.fifo.head? = some r → r.y ≠ 0 := by
      by_contra hnot
      push Not at hnot
      obtain ⟨hfacet, r, hr, hy⟩ := hnot
      exact h ⟨r, hr, hfacet, hy⟩
    rw [State.lineOut_waits hx hout hwait]
    obtain ⟨x', hx', hctx, hsteps, hkept, -, hfifo, hclips⟩ := State.quiesce_exposureKept hx
    refine ⟨x', hx', hsteps, by simp, hctx, fun r hr hfacet hy => absurd ⟨r, hr, hfacet, hy⟩ h, fun _ =>
      ⟨hkept.trans hout, hfifo, hclips, fun c => ?_⟩⟩
    rw [State.quiesce_lcu]
    exact hpulse c

end Waiting

/-- R126, R68, R70: the part after the mark has put out line y BLANKED, as O42 says it. -/
theorem State.blankLine_quiesced {s w : State} {x : Exposure} {e : Entry} {i : ImagePart} (hx : w.exposure? = some x)
    (he : w.head? = some e) (hi : e.image? = some i) (hpulse : pulsesOnly s w.lcu) (y : Nat) :
    let t := (w.blankLine y).quiesce
    let from_ := max x.nextLine (y + 1)
    ∃ x', t.exposure? = some x' ∧ x'.ctx = x.ctx ∧ x'.steps = x.steps ∧ x'.out = .onFilm y .blanked ∧
      x'.nextOut = y + 1 ∧ x'.fifo = x.fifo ∧ x'.clips = x.clips ∧
      (∀ c, (t.lcu.get c).sweep = ⟨some (s.lcu.get c).settings.refDrive, []⟩) ∧
      (∀ l, x.line = some l → l.y ≠ y → x'.line = some l ∧ x'.nextLine = from_ ∧ t.sr.fetch = w.sr.fetch) ∧
      (x.line = none ∨ (∃ l, x.line = some l ∧ l.y = y) →
        (from_ < i.height ∧ x.fifo.length < 4 →
          x'.nextLine = from_ + 1 ∧ ∃ l, x'.line = some l ∧ l.y = from_ ∧ l.clips = ⟨0, 0, 0⟩ ∧
            (e.isStored = true → l.phase = .fetching ∧ ∃ f, t.sr.fetch = some f ∧ f.y = from_) ∧
            ∀ values, e.body = .flat i values → l.phase = .computing (flatSource values)) ∧
        (i.height ≤ from_ ∨ 4 ≤ x.fifo.length → x'.nextLine = from_ ∧ x'.line = none ∧
          ∀ l, x.line = some l → l.phase = .fetching → t.sr.fetch = none)) := by
  intro t from_
  obtain ⟨x', hx', hctx, hsteps, hout, hnext, hfifo, hclips⟩ :=
    State.quiesce_exposureKept (State.blankLine_exposure? hx y)
  refine ⟨x', hx', hctx, hsteps, hout, hnext, hfifo, hclips, fun c => ?_, fun l hl hy => ?_, fun hfree =>
    ⟨fun ⟨hlow, hroom⟩ => ?_, fun hrest => ?_⟩⟩
  · rw [State.quiesce_lcu, State.blankLine_lcu]
    exact hpulse c
  · obtain ⟨hstands, hline, hfetch⟩ := State.blankLine_goesOn hx he hi hl hy
    obtain rfl := Option.some.inj (hx'.symm.trans hstands)
    exact ⟨hline, rfl, hfetch⟩
  · obtain ⟨phase, hbegun, hstored, hflat⟩ := State.blankLine_begins hx he hi hfree hlow hroom
    obtain rfl := Option.some.inj (hx'.symm.trans hbegun)
    exact ⟨rfl, _, rfl, rfl, rfl, hstored, hflat⟩
  · obtain ⟨hstands, hline, hfetch⟩ := State.blankLine_rests hx he hi hfree hrest
    obtain rfl := Option.some.inj (hx'.symm.trans hstands)
    exact ⟨rfl, hline, hfetch⟩

/-- Settles O42: a calm mark is its samples, the line output and the end of the event, by the cases of the output. -/
theorem linesFollowMarks : Obligations.LinesFollowMarks := by
  intro ticks m o x e i s hrun hlocked hticks hx he hi hcalm takes bare
  have hkept : ¬ s.stu.losesLock (s.stu.period? ticks) := ScanTiming.keepsLock fun full hfull => (hticks full hfull).2.2
  have hexec : exec (.startOfScanMark ticks m o) s = .next (s.takeMark ticks m o) :=
    startOfScanMark_running hrun (.inr (.inr hlocked))
      (fun full hfull => ⟨(hticks full hfull).1, (hticks full hfull).2.1⟩) m o
  have hheight : s.frameHeight = i.height := State.frameHeight_of_head hx he hi
  refine ⟨fun hout => ?_, fun y kind hout hy => ?_⟩
  · obtain ⟨v, a, hpulse, hmark⟩ := State.takeMark_calm_line o hlocked hkept hx hcalm
      (State.lastLineOnFilm_waiting hx hout)
    rw [hexec, hmark]
    obtain ⟨x', hdone⟩ := State.lineOut_waiting_quiesced (s := s) (u := s.swept ticks v a) (facet := s.stu.facet)
      hx hpulse hout
    exact ⟨_, x', rfl, hdone⟩
  · have hnotLast : y + 1 ≠ s.frameHeight := by rwa [hheight]
    obtain ⟨v, a, hpulse, hmark⟩ := State.takeMark_calm_line o hlocked hkept hx hcalm
      ((State.lastLineOnFilm_onFilm hx hout).trans (decide_eq_false hnotLast))
    rw [hexec, hmark, State.lineOut_next (s := s.swept ticks v a) hx hout hnotLast]
    have hended : ((s.swept ticks v a).endLine kind).exposure? = _ :=
      State.endLine_exposure? (s := s.swept ticks v a) hx kind
    have hpulse' : pulsesOnly s ((s.swept ticks v a).endLine kind).lcu := by
      rw [State.endLine_lcu]
      exact hpulse
    by_cases hready : ∃ r, x.fifo.head? = some r ∧ r.y = x.nextOut
    · obtain ⟨r, hr, hnext⟩ := hready
      rw [State.putLine_takes _ hr hnext]
      obtain ⟨x', hx', hctx', hsteps, htaken⟩ := State.takeLine_quiesced (r := r) hended hpulse'
      refine ⟨_, x', rfl, hx', hsteps, ?_, hctx'.trans (by cases kind <;> rfl), fun r' hr' _ => ?_, fun habsent => ?_⟩
      · rw [State.quiesce_pins, State.takeLine_pins, State.endLine_pins]
        rfl
      · obtain rfl : r = r' := Option.some.inj (hr.symm.trans hr')
        exact htaken
      · exact absurd hnext (habsent r hr)
    · have habsent : ∀ r, x.fifo.head? = some r → r.y ≠ x.nextOut := fun r hr hnext => hready ⟨r, hr, hnext⟩
      have hhead : ((s.swept ticks v a).endLine kind).head? = some e := by
        unfold State.head?
        rw [State.endLine_fq]
        exact he
      rw [State.putLine_blanks _ habsent]
      obtain ⟨x', hx', hctx', hsteps, hout', hnext, hfifo, hclips, hsweeps, hother, hfree⟩ :=
        State.blankLine_quiesced (s := s) hended hhead hi hpulse' x.nextOut
      rw [State.endLine_sr] at hother
      refine ⟨_, x', rfl, hx', hsteps, ?_, hctx'.trans (by cases kind <;> rfl), fun r hr hnext => absurd hnext (habsent r hr),
        fun _ => ⟨hout', hnext, hfifo, hclips, hsweeps, hother, hfree⟩⟩
      rw [State.quiesce_pins, State.blankLine_pins, State.endLine_pins]
      rfl

end Sys2Proof.Machine
end

section
/-! ## The end of a frame (R160): the record, the gate, and what the queue makes of it (R22, R23, R161) -/

namespace Sys2Proof.Machine
/-! ### The record and the gate -/

/-- R160: the frame is recorded and the film moved on; the queue is not told yet. -/
def State.frameRecorded (s : State) (x : Exposure) : State :=
  (s.withdrawFetch.appendRecord
    (exposureRecord x.ctx x.clips (frameOutcome x.ctx).1 (frameOutcome x.ctx).2)).advanceFilm 1

/-- R160: the queue is told of the frame's end. -/
def State.frameReported (s : State) (x : Exposure) : State :=
  if x.ctx.linesBlanked = 0 then (s.frameRecorded x).headExposed else (s.frameRecorded x).headSpoiled

theorem State.frameEnd_eq {s : State} {x : Exposure} (hx : s.exposure? = some x) :
    s.frameEnd = ((s.frameReported x).raiseAll (frameEndEvents x.ctx)).filmEnd := by
  unfold State.frameEnd
  simp only [hx]
  rfl

theorem State.frameRecorded_shape (s : State) (x : Exposure) : ∃ c p m, s.frameRecorded x = { s with
    sr := { s.sr with fetch := none, channel := c, wbPos := p }, fmc := { s.fmc with mem := m }
    rm := { s.rm with count := s.rm.count + 1 }
    gc := { s.gc with
      expected := s.gc.expected + 1, gate := if s.lastFrame then .filmOut else .advancing, advance := 1 } } := by
  obtain ⟨c, p, m, hwithdrawn⟩ := s.withdrawFetch_shape
  obtain ⟨m', happended⟩ := s.withdrawFetch.appendRecord_shape
    (exposureRecord x.ctx x.clips (frameOutcome x.ctx).1 (frameOutcome x.ctx).2)
  rw [hwithdrawn] at happended
  have hlast : ({ s with
      sr := { s.sr with fetch := none, channel := c, wbPos := p }, fmc := { s.fmc with mem := m' }
      rm := { s.rm with count := s.rm.count + 1 }
      gc := { s.gc with expected := s.gc.expected + 1 } } : State).filmExhausted = s.lastFrame := by
    unfold State.filmExhausted State.lastFrame State.loadedTag?
    cases s.gc.magazine <;> rfl
  refine ⟨c, p, m', ?_⟩
  rw [State.frameRecorded, hwithdrawn, happended, State.advanceFilm, hlast]
  rfl

theorem State.frameRecorded_fq (s : State) (x : Exposure) : (s.frameRecorded x).fq = s.fq := by
  obtain ⟨c, p, m, h⟩ := s.frameRecorded_shape x
  rw [h]

theorem State.slotHolds_of_mapKept {s t : State} (h : s.mapKept t) {n : Nat} {r : MapRecord} (hs : s.slotHolds n r) :
    t.slotHolds n r := fun b hb => by
  rw [h.2.2 _ (by simp only [slotOffset, Config.mapBase]; omega)]
  exact hs b hb

/-- R176: the frame's record reads back. -/
theorem State.frameRecorded_slot {s : State} {x : Exposure} (hmem : s.memoryCanonical) (hcount : s.rm.count < 32768) :
    (s.frameRecorded x).slotHolds s.rm.count
      (exposureRecord x.ctx x.clips (frameOutcome x.ctx).1 (frameOutcome x.ctx).2) := by
  have hkept : s.mapKept s.withdrawFetch := State.withdrawFetch_mapKept s.mapKept_refl
  have hrm : s.withdrawFetch.rm = s.rm := by
    obtain ⟨c, p, m, h⟩ := s.withdrawFetch_shape
    rw [h]
  have happended := State.slotHolds_append s.withdrawFetch
    (exposureRecord x.ctx x.clips (frameOutcome x.ctx).1 (frameOutcome x.ctx).2) (hkept.2.1 hmem)
  rw [hrm] at happended
  exact State.slotHolds_of_mapKept (State.advanceFilm_mapKept (State.mapKept_refl _) 1) (happended hcount)

/-! ### What follows in the queue -/

theorem State.raiseAll_mapKept {s t : State} (h : s.mapKept t) (es : List Event) : s.mapKept (t.raiseAll es) := by
  obtain ⟨au, hshape⟩ := t.raiseAll_shape es
  rw [hshape]
  exact State.mapKept_of_fmc h rfl rfl

theorem State.frameReported_film (s : State) (x : Exposure) : (s.frameReported x).film = (s.frameRecorded x).film := by
  unfold State.frameReported
  split
  · exact State.headExposed_film _
  · exact State.headSpoiled_film _

theorem State.frameEnd_film {s : State} {x : Exposure} (hx : s.exposure? = some x) :
    s.frameEnd.film = (s.frameRecorded x).film := by
  rw [State.frameEnd_eq hx, State.filmEnd_film, State.raiseAll_film, State.frameReported_film]

theorem State.frameEnd_recordedMapKept {s : State} {x : Exposure} (hx : s.exposure? = some x) :
    (s.frameRecorded x).mapKept s.frameEnd := by
  rw [State.frameEnd_eq hx]
  refine State.filmEnd_mapKept (State.raiseAll_mapKept ?_ _)
  unfold State.frameReported
  split
  · exact State.headExposed_mapKept (State.mapKept_refl _)
  · exact State.headSpoiled_mapKept (State.mapKept_refl _)

/-- R160: the frame's events are raised. -/
theorem State.frameEnd_hasLatched {s : State} {x : Exposure} (hx : s.exposure? = some x) {e : Event}
    (he : e ∈ frameEndEvents x.ctx) : s.frameEnd.hasLatched e := by
  rw [State.frameEnd_eq hx]
  exact (State.filmEnd_latchKept _).hasLatched (State.raiseAll_hasLatched _ he)

theorem State.frameEnd_reportedLatchKept {s : State} {x : Exposure} (hx : s.exposure? = some x) :
    (s.frameReported x).latchKept s.frameEnd := by
  rw [State.frameEnd_eq hx]
  exact (State.raiseAll_latchKept _ _).trans (State.filmEnd_latchKept _)

/-- R161: the frame uses up the film, as the gate found it. -/
theorem State.frameReported_filmExhausted (s : State) (x : Exposure) (es : List Event) :
    ((s.frameReported x).raiseAll es).filmExhausted = s.lastFrame := by
  have hfilm := ((s.frameReported x).raiseAll_film es).trans (s.frameReported_film x)
  obtain ⟨c, p, m, hshape⟩ := s.frameRecorded_shape x
  rw [hshape] at hfilm
  have hgc := congrArg Prod.fst hfilm
  have hrm := congrArg Prod.snd hfilm
  dsimp only [State.film] at hgc hrm
  unfold State.filmExhausted State.lastFrame State.loadedTag?
  rw [hgc, hrm]
  cases s.gc.magazine <;> rfl

/-- R161: the list stands at the film end, and the held reasons gain FILM_END when an entry is left at it. -/
theorem State.frameEnd_fq {s : State} {x : Exposure} (hx : s.exposure? = some x) :
    s.frameEnd.fq.entries = (s.frameReported x).fq.entries ∧
    s.frameEnd.fq.held = (if s.lastFrame && !(s.frameReported x).fq.entries.isEmpty
      then (s.frameReported x).fq.held.add .filmEnd else (s.frameReported x).fq.held) := by
  obtain ⟨au, hraised⟩ := (s.frameReported x).raiseAll_shape (frameEndEvents x.ctx)
  have hfq : ((s.frameReported x).raiseAll (frameEndEvents x.ctx)).fq = (s.frameReported x).fq := by rw [hraised]
  obtain ⟨au', hend, -⟩ := ((s.frameReported x).raiseAll (frameEndEvents x.ctx)).filmEnd_spec
  rw [State.frameEnd_eq hx, hend, State.frameReported_filmExhausted, hfq]
  exact ⟨rfl, rfl⟩

/-- R161: FILM_END is raised when an entry is left at the film's end. -/
theorem State.frameEnd_filmEndLatched {s : State} {x : Exposure} (hx : s.exposure? = some x)
    (hlast : s.lastFrame = true) (hleft : s.frameEnd.fq.entries ≠ []) : s.frameEnd.hasLatched .filmEnd := by
  have hentries := (State.frameEnd_fq hx).1
  rw [State.frameEnd_eq hx]
  have hfq : ((s.frameReported x).raiseAll (frameEndEvents x.ctx)).fq = (s.frameReported x).fq := by
    obtain ⟨au, hraised⟩ := (s.frameReported x).raiseAll_shape (frameEndEvents x.ctx)
    rw [hraised]
  have hdue : (((s.frameReported x).raiseAll (frameEndEvents x.ctx)).filmExhausted &&
      !((s.frameReported x).raiseAll (frameEndEvents x.ctx)).fq.entries.isEmpty) = true := by
    rw [State.frameReported_filmExhausted, hlast, hfq, ← hentries]
    simpa using hleft
  unfold State.filmEnd
  rw [if_pos hdue]
  exact State.raiseAll_hasLatched _ (es := [.filmEnd]) (List.mem_singleton_self _)

/-! ### The queue after an exposed frame (R22) -/

/-- R22: a repeat of the entry counted. -/
def Entry.exposed (e : Entry) : Entry :=
  (e.withState .staged).mapImage fun i => { i with remaining := i.remaining - 1, exposed := i.exposed + 1 }

theorem Entry.exposed_key (e : Entry) : e.exposed.key = e.key := by
  rcases e with ⟨n, k, st, ⟨i, p⟩ | ⟨i, v⟩ | m⟩ <;> rfl

theorem Entry.exposed_state (e : Entry) : e.exposed.state = .staged := by
  rcases e with ⟨n, k, st, ⟨i, p⟩ | ⟨i, v⟩ | m⟩ <;> rfl

theorem Entry.exposed_stored? (e : Entry) : e.exposed.stored? = e.stored? := by
  rcases e with ⟨n, k, st, ⟨i, p⟩ | ⟨i, v⟩ | m⟩ <;> rfl

theorem Entry.exposed_image? {e : Entry} {i : ImagePart} (h : e.image? = some i) :
    e.exposed.image? = some { i with remaining := i.remaining - 1, exposed := i.exposed + 1 } := by
  rcases e with ⟨n, k, st, ⟨j, p⟩ | ⟨j, v⟩ | m⟩
  · obtain rfl : j = i := Option.some.inj h
    rfl
  · obtain rfl : j = i := Option.some.inj h
    rfl
  · cases h

theorem Entry.exposed_rejected? (e : Entry) : e.exposed.rejected? = none := by
  unfold Entry.rejected?
  rw [e.exposed_state]

theorem Entry.exposed_leaving (e : Entry) : e.exposed.leaving = e.leaving := by
  unfold Entry.leaving
  rw [e.exposed_stored?]

/-- R2: a STORED entry that has been exposed is STAGED still as it begins to leave, and carries the completion. -/
theorem Entry.exposed_leave {e : Entry} (h : e.isStored = true) (c : Completion) :
    (e.exposed.leave c).state = .staged ∧ (e.exposed.leave c).stored?.bind StoredPart.completion = some c := by
  rcases e with ⟨n, k, st, ⟨i, p⟩ | ⟨i, v⟩ | m⟩
  · exact ⟨rfl, rfl⟩
  · cases h
  · cases h

section Head
variable {s : State} {e : Entry} {es : List Entry} {i : ImagePart} (hes : s.fq.entries = e :: es)
  (hi : e.image? = some i)
include hes hi

/-- R22: repeats remain. -/
theorem State.headExposed_repeat (h : 1 < i.remaining) : s.headExposed = s.withEntries (e.exposed :: es) := by
  have hhead : s.head? = some e := by simp [State.head?, hes]
  unfold State.headExposed
  simp only [hhead, hi, h, if_true, hes]
  rfl

/-- R22: a STORED entry retires. -/
theorem State.headExposed_stored (h : ¬ 1 < i.remaining) (hstored : e.isStored = true) :
    s.headExposed = (s.withEntries (e.exposed :: es)).beginLeaving e.key .exposed := by
  have hhead : s.head? = some e := by simp [State.head?, hes]
  unfold State.headExposed
  simp only [hhead, hi, h, if_false, hes, hstored, if_true]
  rfl

/-- R22: a FLAT entry retires. -/
theorem State.headExposed_flat (h : ¬ 1 < i.remaining) (hflat : e.isStored = false) :
    s.headExposed = (((s.withEntries (e.exposed :: es)).removeAt 0).settleHead).raise .entryRetired := by
  have hhead : s.head? = some e := by simp [State.head?, hes]
  have hposition : positionOf (e.exposed :: es) e.key = some 0 := if_pos e.exposed_key
  unfold State.headExposed
  simp only [hhead, hi, h, if_false, hes, hflat, Bool.false_eq_true]
  unfold State.removeEntry
  have hentries : (s.withEntries (changeAt (e :: es) 0 fun e => (e.withState .staged).mapImage fun i =>
    { i with remaining := i.remaining - 1, exposed := i.exposed + 1 })).fq.entries = e.exposed :: es := rfl
  rw [hentries, hposition]
  rfl

/-- R22: the head of a list after its frame has been exposed, where it stays on the list. -/
theorem State.headExposed_stays (h : 1 < i.remaining ∨ e.isStored = true) : ∃ e', s.headExposed.head? = some e' ∧
    s.headExposed.fq.held = s.fq.held ∧ e'.key = e.key ∧ e'.state = .staged ∧
    e'.image? = some { i with remaining := i.remaining - 1, exposed := i.exposed + 1 } ∧
    (1 < i.remaining → e'.leaving = e.leaving) ∧
    (i.remaining ≤ 1 → e'.stored?.bind StoredPart.completion = some .exposed) := by
  by_cases hrepeat : 1 < i.remaining
  · rw [State.headExposed_repeat hes hi hrepeat]
    exact ⟨e.exposed, rfl, rfl, e.exposed_key, e.exposed_state, Entry.exposed_image? hi, fun _ => e.exposed_leaving,
      fun hend => absurd hrepeat (Nat.not_lt.mpr hend)⟩
  · have hstored := h.resolve_left hrepeat
    obtain ⟨ch, w, m, hleave⟩ := (s.withEntries (e.exposed :: es)).beginLeaving_shape e.key .exposed
    have hchanged : changeEntry (e.exposed :: es) e.key (Entry.leave .exposed) = e.exposed.leave .exposed :: es :=
      if_pos e.exposed_key
    have hentries : (s.withEntries (e.exposed :: es)).fq.entries = e.exposed :: es := rfl
    obtain ⟨hstate, hcompletion⟩ := Entry.exposed_leave hstored .exposed
    rw [State.headExposed_stored hes hi hrepeat hstored, hleave, hentries, hchanged]
    exact ⟨e.exposed.leave .exposed, rfl, rfl, (e.exposed.leave_key _).trans e.exposed_key, hstate,
      (e.exposed.leave_image? _).trans (Entry.exposed_image? hi), fun hmore => absurd hmore hrepeat, fun _ => hcompletion⟩

/-- R22: a FLAT entry's last frame takes it off the list. -/
theorem State.headExposed_goes (hflats : s.flatsNotRejected) (hkeys : (s.fq.entries.map Entry.key).Nodup)
    (h : i.remaining ≤ 1) (hflat : e.isStored = false) : (∀ e' ∈ s.headExposed.fq.entries, e'.key ≠ e.key) ∧
      s.headExposed.fq.held = s.fq.held ∧ s.headExposed.hasLatched .entryRetired := by
  have hflats' : (s.withEntries (e.exposed :: es)).flatsNotRejected := by
    intro y hy hyflat
    rcases List.mem_cons.mp hy with rfl | hy
    · exact e.exposed_rejected?
    · exact hflats y (by rw [hes]; exact List.mem_cons_of_mem e hy) hyflat
  have hfirst : (s.withEntries (e.exposed :: es)).fq.entries[0]? = some e.exposed := rfl
  obtain ⟨a, b, au, hremoved, -⟩ := State.removeAt_shape hfirst
  obtain ⟨fs, sr, m, hsettled, hcores, -, -⟩ := State.settleHead_shape (State.removeAt_flatsNotRejected hflats' hfirst)
  have hfskeys : fs.map Entry.key = es.map Entry.key := by
    have hkept : fs.map Entry.core = es.map Entry.core := by
      rw [hcores, hremoved]
      exact (removedAt_map (e.exposed :: es) 0 Entry.core Entry.entered_core).trans rfl
    have hprojected := congrArg (List.map EntryCore.key) hkept
    rw [List.map_map, List.map_map] at hprojected
    exact hprojected
  have hentries : s.headExposed.fq.entries = fs := by
    rw [State.headExposed_flat hes hi (Nat.not_lt.mpr h) hflat, hsettled]
    rfl
  refine ⟨fun y hy hkey => ?_, ?_, ?_⟩
  · rw [hentries] at hy
    rw [hes, List.map_cons, List.nodup_cons] at hkeys
    exact hkeys.1 (by rw [← hfskeys, ← hkey]; exact List.mem_map_of_mem hy)
  · rw [State.headExposed_flat hes hi (Nat.not_lt.mpr h) hflat, hsettled, hremoved]
    rfl
  · rw [State.headExposed_flat hes hi (Nat.not_lt.mpr h) hflat]
    exact State.raiseAll_hasLatched _ (es := [.entryRetired]) (List.mem_singleton_self _)

end Head

end Sys2Proof.Machine
end

section
/-! ## The settling of O43 -/

namespace Sys2Proof.Machine
/-! ### The mark that ends the frame -/

theorem State.frameEnd_gc {s : State} {x : Exposure} (hx : s.exposure? = some x) : s.frameEnd.gc = { s.gc with
    expected := s.gc.expected + 1, gate := if s.lastFrame then .filmOut else .advancing, advance := 1 } := by
  obtain ⟨c, p, m, h⟩ := s.frameRecorded_shape x
  have hfilm := State.frameEnd_film hx
  rw [State.film, State.film, Prod.mk.injEq] at hfilm
  rw [hfilm.1, h]

theorem State.frameEnd_rm {s : State} {x : Exposure} (hx : s.exposure? = some x) :
    s.frameEnd.rm = { s.rm with count := s.rm.count + 1 } := by
  obtain ⟨c, p, m, h⟩ := s.frameRecorded_shape x
  have hfilm := State.frameEnd_film hx
  rw [State.film, State.film, Prod.mk.injEq] at hfilm
  rw [hfilm.2, h]

theorem State.frameEnd_gateReady {s : State} {x : Exposure} (hx : s.exposure? = some x) :
    s.frameEnd.gateReady = false := by
  have hgate : s.frameEnd.gc.gate = if s.lastFrame then .filmOut else .advancing := by rw [State.frameEnd_gc hx]
  unfold State.gateReady
  rw [hgate]
  cases s.lastFrame
  · rfl
  · rfl

/-- A calm mark that ends the frame: some samples, the frame's end, the other samples, and the end of the event. -/
theorem State.takeMark_calm_frameEnd {s : State} {ticks : Nat} {m : Rgb (BitVec 12)} (o : MarkOrder) {x : Exposure}
    (hlocked : s.stu.scanner = .locked) (hkept : ¬ s.stu.losesLock (s.stu.period? ticks)) (hx : s.exposure? = some x)
    (hcalm : ∀ c, (s.lcu.get c).calmUnder (m.get c)) {y : Nat} {kind : LineKind} (hout : x.out = .onFilm y kind)
    (hlast : y + 1 = s.frameHeight) : ∃ v a w b,
      let ended := ((s.swept ticks v a).endLine kind).frameEnd
      ended.latchKept { ended with lcu := w, au := b } ∧
      s.takeMark ticks m o = ({ ended with lcu := w, au := b } : State).quiesce := by
  obtain ⟨after, v, a, hdistinct, hfresh, -, hmark⟩ := State.takeMark_calm o hlocked hkept hx hcalm
  have hscanner : (s.swept ticks v a).stu.scanner = .locked := (s.stu.keptLock_scanner _).trans hlocked
  have hendsFrame : (s.swept ticks v a).lastLineOnFilm = true :=
    (State.lastLineOnFilm_onFilm hx hout).trans (decide_eq_true hlast)
  have hended : ((s.swept ticks v a).endLine kind).exposure? = _ :=
    State.endLine_exposure? (s := s.swept ticks v a) hx kind
  obtain ⟨w, b, hsamples, -⟩ := State.takeSamples_calm (m := s.markInput ticks m) hdistinct
    (s := ((s.swept ticks v a).endLine kind).frameEnd)
    (fun c _ => (Rgb.get_map _ _ c).trans (hcalm c).fires)
    (fun c hc => by
      have hv : (s.swept ticks v a).lcu.get c = s.newSweep.lcu.get c := hfresh c hc
      rw [State.frameEnd_lcu, State.endLine_lcu, hv]
      exact State.newSweep_calm (hcalm c))
    (State.frameEnd_gateReady hended)
  refine ⟨v, a, w, b, ?_, ?_⟩
  · rw [← hsamples]
    exact State.takeSamples_latchKept _ _ _
  · rw [hmark]
    dsimp only
    rw [hendsFrame, if_pos rfl, State.markLine_locked hlocked hscanner,
      State.lineOut_last (s := s.swept ticks v a) hx hout hlast, hsamples,
      State.markLine_ended (s := { ((s.swept ticks v a).endLine kind).frameEnd with lcu := w, au := b })
        (State.frameEnd_exposure? _)]

/-- What the end of an event leaves of a frame's end. -/
theorem State.quiesce_ended_kept {s : State} (hx : s.exposure? = none) (htables : s.tablesInRange) :
    s.quiesce.gc = s.gc ∧ s.quiesce.rm = s.rm ∧ s.quiesce.fq = s.fq := by
  have hfilm := State.quiesce_film_ended hx
  obtain ⟨g, st, f, p, c, m, a, b, i, hquiet, -⟩ := s.quiesce_shape htables
  exact ⟨congrArg Prod.fst hfilm, congrArg Prod.snd hfilm, by rw [hquiet]⟩

/-! ### What the frame's end says of the queue -/

section FrameEnd
variable {z : State} {y : Exposure} {e : Entry} {es : List Entry} {i : ImagePart} (hy : z.exposure? = some y)
  (hes : z.fq.entries = e :: es)
include hy

/-- R161: FILM_END alone may join the reasons that the frame's report leaves. -/
theorem State.frameEnd_spoiledHeld : z.frameEnd.fq.held.spoiled = (z.frameReported y).fq.held.spoiled := by
  rw [(State.frameEnd_fq hy).2]
  split <;> rfl

theorem State.frameEnd_filmEndHeld_of_left (hlast : z.lastFrame = true) (hleft : z.frameEnd.fq.entries ≠ []) :
    z.frameEnd.fq.held.filmEnd = true := by
  rw [(State.frameEnd_fq hy).1] at hleft
  rw [(State.frameEnd_fq hy).2, if_pos (by simpa [hlast] using hleft)]
  rfl

theorem State.frameEnd_filmEndHeld_of_not (h : z.lastFrame = false ∨ z.frameEnd.fq.entries = []) :
    z.frameEnd.fq.held.filmEnd = (z.frameReported y).fq.held.filmEnd := by
  rw [(State.frameEnd_fq hy).1] at h
  rw [(State.frameEnd_fq hy).2, if_neg]
  rcases h with h | h <;> simp [h]

/-- R23: a spoiled frame returns the head and holds the queue. -/
theorem State.frameEnd_spoiled (hspoiled : y.ctx.linesBlanked ≠ 0) :
    z.frameEnd.hasLatched .frameSpoiled ∧ z.frameEnd.fq.held.spoiled = true ∧
      z.frameEnd.fq.entries = changeAt z.fq.entries 0 (·.withState .staged) ∧
      (z.frameReported y).fq.held.filmEnd = z.fq.held.filmEnd := by
  obtain ⟨au, hreported, -⟩ := (z.frameRecorded y).headSpoiled_spec
  rw [State.frameRecorded_fq] at hreported
  have hfq : (z.frameReported y).fq =
      { z.fq with entries := changeAt z.fq.entries 0 (·.withState .staged), held := z.fq.held.add .spoiled } := by
    rw [State.frameReported, if_neg hspoiled, hreported]
  refine ⟨State.frameEnd_hasLatched hy (by simp [frameEndEvents, hspoiled]), ?_, ?_, by rw [hfq]; rfl⟩
  · rw [State.frameEnd_spoiledHeld hy, hfq]
    rfl
  · rw [(State.frameEnd_fq hy).1, hfq]

include hes in
/-- R22: an exposed frame counts a repeat of the head, or retires it. -/
theorem State.frameEnd_exposed (hi : e.image? = some i) (hflats : z.flatsNotRejected)
    (hkeys : (z.fq.entries.map Entry.key).Nodup) (hexposed : y.ctx.linesBlanked = 0) :
    (z.frameReported y).fq.held = z.fq.held ∧
    (1 < i.remaining ∨ e.isStored = true → ∃ e', z.frameEnd.head? = some e' ∧ e'.key = e.key ∧ e'.state = .staged ∧
      e'.image? = some { i with remaining := i.remaining - 1, exposed := i.exposed + 1 } ∧
      (1 < i.remaining → e'.leaving = e.leaving) ∧
      (i.remaining ≤ 1 → e'.stored?.bind StoredPart.completion = some .exposed)) ∧
    (i.remaining ≤ 1 → e.isStored = false → (∀ e' ∈ z.frameEnd.fq.entries, e'.key ≠ e.key) ∧
      z.frameEnd.hasLatched .entryRetired) := by
  have hreported : z.frameReported y = (z.frameRecorded y).headExposed := if_pos hexposed
  have hentries := (State.frameEnd_fq hy).1
  have hlatches := State.frameEnd_reportedLatchKept hy
  rw [hreported] at hentries hlatches ⊢
  have hfq := z.frameRecorded_fq y
  have hes' : (z.frameRecorded y).fq.entries = e :: es := by rw [hfq, hes]
  have hflats' : (z.frameRecorded y).flatsNotRejected := by
    unfold State.flatsNotRejected
    rw [hfq]
    exact hflats
  have hkeys' : ((z.frameRecorded y).fq.entries.map Entry.key).Nodup := by rwa [hfq]
  refine ⟨?_, fun hstays => ?_, fun hrest hflat => ?_⟩
  · by_cases hstays : 1 < i.remaining ∨ e.isStored = true
    · obtain ⟨-, -, hheld, -⟩ := State.headExposed_stays hes' hi hstays
      rw [hheld, hfq]
    · obtain ⟨hfew, hflat⟩ := not_or.mp hstays
      obtain ⟨-, hheld, -⟩ := State.headExposed_goes hes' hi hflats' hkeys' (Nat.not_lt.mp hfew)
        (Bool.eq_false_of_not_eq_true hflat)
      rw [hheld, hfq]
  · obtain ⟨e', hhead, -, hleft⟩ := State.headExposed_stays hes' hi hstays
    refine ⟨e', ?_, hleft⟩
    unfold State.head?
    rw [hentries]
    exact hhead
  · obtain ⟨hgone, -, hretired⟩ := State.headExposed_goes hes' hi hflats' hkeys' hrest hflat
    rw [hentries]
    exact ⟨hgone, hlatches.hasLatched hretired⟩

end FrameEnd

theorem State.endLine_shape (s : State) (kind : LineKind) : ∃ g, s.endLine kind = { s with
    gc := { s.gc with gate := g }, pins := { s.pins with lstep := s.pins.lstep + 1 } } := by
  obtain ⟨g, h⟩ := s.mapExposure_shape fun x => { x with steps := x.steps + 1, ctx := x.ctx.countLine kind }
  exact ⟨g, congrArg (State.withPins · { s.pins with lstep := s.pins.lstep + 1 }) h⟩

theorem frameOutcome_eq (c : ExposureContext) : frameOutcome c =
    (if c.linesBlanked = 0 then .exposed else .spoiled, if c.linesBlanked = 0 then .none else .underrun) := by
  unfold frameOutcome
  split <;> rfl

/-- The part at the end of the mark that ends the frame: the frame's end, the last samples, and the quiet end. -/
structure State.FrameClosed (z t : State) : Prop where
  film : t.gc = z.frameEnd.gc ∧ t.rm = z.frameEnd.rm
  queue : t.fq = z.frameEnd.fq
  pins : t.pins = z.pins
  latches : z.frameEnd.latchKept t
  memory : z.frameEnd.mapKept t

theorem State.frameClosed_of {z : State} {w : Rgb LaserUnit} {b : Vector AttentionLine 4} (htables : z.tablesInRange)
    (hlatches : z.frameEnd.latchKept { z.frameEnd with lcu := w, au := b }) :
    z.FrameClosed ({ z.frameEnd with lcu := w, au := b } : State).quiesce := by
  have htables' : ({ z.frameEnd with lcu := w, au := b } : State).tablesInRange := z.frameEnd_follows.tablesInRange htables
  obtain ⟨hgc, hrm, hfq⟩ := State.quiesce_ended_kept
    (s := { z.frameEnd with lcu := w, au := b }) z.frameEnd_exposure? htables'
  refine ⟨⟨hgc, hrm⟩, hfq, ?_, hlatches.trans (State.quiesce_latchKept _),
    State.quiesce_mapKept (State.mapKept_of_fmc z.frameEnd.mapKept_refl rfl rfl)⟩
  rw [State.quiesce_pins]
  exact z.frameEnd_pins

/-- Settles O43: the mark ends the frame at its judgement, and the samples after it and the end of the event leave what
the frame's end has made of the gate, the record and the queue. -/
theorem lastLineEndsFrame : Obligations.LastLineEndsFrame := by
  intro ticks m o x e i kind s hrun hlocked hticks hx he hi _ hcalm hout hheight htables hbounded hflats ctx
  have hkept : ¬ s.stu.losesLock (s.stu.period? ticks) := ScanTiming.keepsLock fun full hfull => (hticks full hfull).2.2
  have hexec : exec (.startOfScanMark ticks m o) s = .next (s.takeMark ticks m o) :=
    startOfScanMark_running hrun (.inr (.inr hlocked))
      (fun full hfull => ⟨(hticks full hfull).1, (hticks full hfull).2.1⟩) m o
  have hlast : i.height - 1 + 1 = s.frameHeight := by
    rw [State.frameHeight_of_head hx he hi]
    omega
  obtain ⟨v, a, w, b, hlatches, hmark⟩ := State.takeMark_calm_frameEnd o hlocked hkept hx hcalm hout hlast
  have hctx : x.ctx.countLine kind = ctx := by cases kind <;> rfl
  have hy : ((s.swept ticks v a).endLine kind).exposure? = some { x with steps := x.steps + 1, ctx := ctx } := by
    rw [← hctx]
    exact State.endLine_exposure? (s := s.swept ticks v a) hx kind
  obtain ⟨es, hes⟩ : ∃ es, s.fq.entries = e :: es := List.head?_eq_some_iff.mp he
  obtain ⟨g, hshape⟩ := (s.swept ticks v a).endLine_shape kind
  generalize (s.swept ticks v a).endLine kind = z at hlatches hmark hy hshape
  have hfq : z.fq = s.fq := by rw [hshape]; rfl
  have hrm : z.rm = s.rm := by rw [hshape]; rfl
  have hpins : z.pins = { s.pins with lstep := s.pins.lstep + 1 } := by rw [hshape]; rfl
  have hexpected : z.gc.expected = s.gc.expected := by rw [hshape]; rfl
  have hlastFrame : z.lastFrame = s.lastFrame := by rw [hshape]; rfl
  have hmem : z.fmc = s.fmc := by rw [hshape]; rfl
  have htables' : z.tablesInRange := by
    unfold State.tablesInRange
    rwa [hfq]
  have hflats' : z.flatsNotRejected := by
    unfold State.flatsNotRejected
    rwa [hfq]
  have hclosed := State.frameClosed_of htables' hlatches
  rw [hexec, hmark]
  refine ⟨_, rfl, ?_⟩
  generalize ({ z.frameEnd with lcu := w, au := b } : State).quiesce = t at hclosed
  obtain ⟨⟨hgc, htrm⟩, hqueue, htpins, hlatched, hmemory⟩ := hclosed
  rw [State.frameEnd_gc hy, hlastFrame, hexpected] at hgc
  have hevents := fun ev hev => hlatched.hasLatched (State.frameEnd_hasLatched hy (e := ev) hev)
  have hended : t.exposure? = none := by
    unfold State.exposure?
    rw [hgc]
    cases s.lastFrame
    · rfl
    · rfl
  have hspoiled := State.frameEnd_spoiled hy
  have hexposed := State.frameEnd_exposed hy (hfq ▸ hes) hi hflats' (hfq ▸ hbounded.2)
  have hspoiledHeld := State.frameEnd_spoiledHeld hy
  have hreportedHeld : (z.frameReported { x with steps := x.steps + 1, ctx := ctx }).fq.held.filmEnd =
      s.fq.held.filmEnd := by
    by_cases hblanked : ctx.linesBlanked = 0
    · rw [(hexposed hblanked).1, hfq]
    · rw [(hspoiled hblanked).2.2.2, hfq]
  refine ⟨hended, htpins.trans hpins, ?_, by rw [hgc], by rw [hgc], by rw [hgc], hevents _ ?_, hevents _ ?_,
    fun hcanonical hcount => ?_, fun hblanked => ?_, fun hclear => ?_, fun hfilm hleft => ?_, fun hstands => ?_⟩
  · rw [htrm, State.frameEnd_rm hy, hrm]
  · unfold frameEndEvents
    split <;> simp
  · unfold frameEndEvents
    split <;> simp
  · have hslot := State.frameRecorded_slot (s := z) (x := { x with steps := x.steps + 1, ctx := ctx })
      (by rw [State.memoryCanonical, hmem]; exact hcanonical) (by rw [hrm]; exact hcount)
    rw [hrm, frameOutcome_eq] at hslot
    exact State.slotHolds_of_mapKept (State.mapKept_trans (State.frameEnd_recordedMapKept hy) hmemory) hslot
  · obtain ⟨hevent, hheld, hentries, -⟩ := hspoiled hblanked
    rw [hqueue]
    exact ⟨hlatched.hasLatched hevent, hheld, by rw [hentries, hfq]⟩
  · obtain ⟨hheld, hstays, hgoes⟩ := hexposed hclear
    rw [State.head?, hqueue]
    refine ⟨by rw [hspoiledHeld, hheld, hfq], hstays, fun hrest hflat => ?_⟩
    obtain ⟨hgone, hretired⟩ := hgoes hrest hflat
    exact ⟨hgone, hlatched.hasLatched hretired⟩
  · rw [hqueue] at hleft ⊢
    rw [← hlastFrame] at hfilm
    exact ⟨State.frameEnd_filmEndHeld_of_left hy hfilm hleft,
      hlatched.hasLatched (State.frameEnd_filmEndLatched hy hfilm hleft)⟩
  · rw [hqueue] at hstands ⊢
    rw [← hlastFrame] at hstands
    exact (State.frameEnd_filmEndHeld_of_not hy hstands).trans hreportedHeld

end Sys2Proof.Machine
end

section
/-! ## A channel unit and its sample (R134 to R139) -/

namespace Sys2Proof.Machine
/-! ### The unit without its output -/

/-- The channel unit with nothing on its output. -/
def LaserUnit.unlit (u : LaserUnit) : LaserUnit := { u with sweep := .rest }

/-- All but what the output carries is as in another unit. -/
theorem LaserUnit.eq_of_unlit {u v : LaserUnit} (h : v.unlit = u.unlit) : v = { u with sweep := v.sweep } := by
  have hsweep := congrArg (fun w : LaserUnit => { w with sweep := v.sweep }) h
  exact hsweep

theorem LaserUnit.state_of_unlit {u v : LaserUnit} (h : v.unlit = u.unlit) : v.state = u.state := by
  rw [LaserUnit.eq_of_unlit h]

theorem LaserUnit.fires_iff (u : LaserUnit) : u.fires = true ↔ u.state = .warming ∨ u.state = .ready :=
  decide_eq_true_iff

theorem LaserUnit.fires_of_unlit {u v : LaserUnit} (h : v.unlit = u.unlit) : v.fires = u.fires := by
  unfold LaserUnit.fires
  rw [LaserUnit.state_of_unlit h]

theorem LaserUnit.state_ne_off_of_fires {u : LaserUnit} (h : u.fires = true) : u.state ≠ .off := by
  rcases u.fires_iff.mp h with h | h <;> rw [h] <;> exact nofun

/-- A channel that is not OFF fires unless it is in FAULT. -/
theorem LaserUnit.state_fault_of_not_fires {u : LaserUnit} (hoff : u.state ≠ .off) (h : ¬ u.fires = true) :
    u.state = .fault := by
  rw [u.fires_iff] at h
  cases hstate : u.state with
  | off => exact absurd hstate hoff
  | warming => exact absurd (.inl hstate) h
  | ready => exact absurd (.inr hstate) h
  | fault => rfl

theorem LaserUnit.warmIfOff_of_ne_off {u : LaserUnit} (h : u.state ≠ .off) : u.warmIfOff = u := if_neg h

theorem LaserUnit.warmIfOff_idem (u : LaserUnit) : u.warmIfOff.warmIfOff = u.warmIfOff := by
  refine LaserUnit.warmIfOff_of_ne_off ?_
  unfold LaserUnit.warmIfOff
  split
  · exact nofun
  next h => exact h

theorem LaserUnit.warmIfOff_unlit (u : LaserUnit) : u.warmIfOff.unlit = u.unlit.warmIfOff := by
  unfold LaserUnit.warmIfOff
  rw [show u.unlit.state = u.state from rfl]
  split <;> rfl

/-- R133: entry to WARMING changes neither the output nor the settings, nor any other channel than one that is OFF. -/
theorem LaserUnit.warmIfOff_kept (u : LaserUnit) : u.warmIfOff.sweep = u.sweep ∧ u.warmIfOff.settings = u.settings ∧
    u.warmIfOff.lastSample = u.lastSample := by
  unfold LaserUnit.warmIfOff
  split <;> exact ⟨rfl, rfl, rfl⟩

/-! ### The sample of a unit -/

/-- R134 to R139: a firing channel after its sample, in FAULT with its drift flag clear when the sample says so. -/
def LaserUnit.sampled (u : LaserUnit) (m : BitVec 12) : LaserUnit :=
  let r := (u.take m).judge
  if r.2 = .fault then { r.1 with state := .fault, drift := false } else r.1

theorem LaserUnit.sampled_of_judge {u : LaserUnit} {m : BitVec 12} (h : (u.take m).judge.2 ≠ .fault) :
    u.sampled m = (u.take m).judge.1 := if_neg h

/-- R137: the inside-band count of a WARMING channel after a sample. -/
def LaserUnit.bandAfter (u : LaserUnit) (m : BitVec 12) : Nat :=
  if insideWarn u.settings (u.take m).average then u.band + 1 else 0

theorem LaserUnit.judge_warming {u : LaserUnit} (h : u.state = .warming) (m : BitVec 12) : (u.take m).judge =
    if u.settings.warmCount ≤ u.bandAfter m then
      ({ u.take m with band := u.bandAfter m, state := .ready, drift := false }, .keep)
    else if 4 * u.settings.warmCount ≤ (u.take m).samples then ({ u.take m with band := u.bandAfter m }, .fault)
    else ({ u.take m with band := u.bandAfter m }, .keep) := by
  unfold LaserUnit.judge
  rw [show (u.take m).state = .warming from h]
  rfl

theorem LaserUnit.judge_ready {u : LaserUnit} (h : u.state = .ready) (m : BitVec 12) :
    (u.take m).judge = (u.take m).judgeReady := by
  unfold LaserUnit.judge
  rw [show (u.take m).state = .ready from h]

/-- R137: a WARMING channel after a sample. -/
theorem LaserUnit.sampled_warming {u : LaserUnit} (h : u.state = .warming) (m : BitVec 12) : u.sampled m =
    if u.settings.warmCount ≤ u.bandAfter m then
      { u.take m with band := u.bandAfter m, state := .ready, drift := false }
    else if 4 * u.settings.warmCount ≤ (u.take m).samples then
      { u.take m with band := u.bandAfter m, state := .fault, drift := false }
    else { u.take m with band := u.bandAfter m } := by
  unfold LaserUnit.sampled
  rw [LaserUnit.judge_warming h]
  split
  · rfl
  · split <;> rfl

/-- R138: a READY channel after a sample: in FAULT, or with its drift flag in step with the warn band. -/
theorem LaserUnit.sampled_ready {u : LaserUnit} (h : u.state = .ready) (m : BitVec 12) : u.sampled m =
    if beyondFault u.settings (u.take m).average then { u.take m with state := .fault, drift := false }
    else { u.take m with drift := !insideWarn u.settings (u.take m).average } := by
  have hdrift : (u.take m).drift = u.drift := rfl
  have hsettings : (u.take m).settings = u.settings := rfl
  unfold LaserUnit.sampled
  rw [LaserUnit.judge_ready h]
  unfold LaserUnit.judgeReady
  rw [hsettings, hdrift]
  by_cases hbeyond : beyondFault u.settings (u.take m).average = true
  · rw [if_pos hbeyond, if_pos hbeyond]
    rfl
  · rw [if_neg hbeyond, if_neg hbeyond]
    have hkept : u.take m = { u.take m with drift := u.drift } := rfl
    cases hd : u.drift <;> cases hin : insideWarn u.settings (u.take m).average <;> rw [hd] at hkept
    · rfl
    · exact hkept
    · exact hkept
    · rfl

/-- A sample takes its channel to READY, WARMING or FAULT, whatever it decides. -/
theorem LaserUnit.sampled_ne_off {u : LaserUnit} (h : u.fires = true) (m : BitVec 12) : (u.sampled m).state ≠ .off := by
  rcases u.fires_iff.mp h with h | h
  · rw [LaserUnit.sampled_warming h]
    repeat' split
    · exact nofun
    · exact nofun
    · exact fun hoff => nomatch h.symm.trans hoff
  · rw [LaserUnit.sampled_ready h]
    split
    · exact nofun
    · exact fun hoff => nomatch h.symm.trans hoff

/-- R134, R135: what every sample leaves in its unit. -/
theorem LaserUnit.sampled_taken {u : LaserUnit} (h : u.fires = true) (m : BitVec 12) :
    (u.sampled m).average = trackAverage u.average m.toNat u.settings.loopShift ∧
      (u.sampled m).lastSample = some m.toNat ∧ (u.sampled m).samples = min (u.samples + 1) 65535 ∧
      (u.sampled m).settings = u.settings ∧ (u.sampled m).sweep.pulse = some u.settings.refDrive := by
  rcases u.fires_iff.mp h with h | h
  · rw [LaserUnit.sampled_warming h]
    repeat' split
    all_goals exact ⟨rfl, rfl, rfl, rfl, rfl⟩
  · rw [LaserUnit.sampled_ready h]
    split <;> exact ⟨rfl, rfl, rfl, rfl, rfl⟩

/-- What a sample makes of a unit does not depend on its output. -/
theorem LaserUnit.sampled_unlit {u v : LaserUnit} (h : v.unlit = u.unlit) (hfires : u.fires = true) (m : BitVec 12) :
    (v.sampled m).unlit = (u.sampled m).unlit := by
  rw [LaserUnit.eq_of_unlit h]
  rcases u.fires_iff.mp hfires with hstate | hstate
  · rw [LaserUnit.sampled_warming hstate, LaserUnit.sampled_warming (u := { u with sweep := v.sweep }) hstate]
    simp only [apply_ite LaserUnit.unlit]
    rfl
  · rw [LaserUnit.sampled_ready hstate, LaserUnit.sampled_ready (u := { u with sweep := v.sweep }) hstate]
    simp only [apply_ite LaserUnit.unlit]
    rfl

/-- R137, R138: the sample puts its channel in FAULT by its verdict. -/
theorem LaserUnit.judge_fault {u : LaserUnit} (hfires : u.fires = true) {m : BitVec 12}
    (h : (u.sampled m).state = .fault) : (u.take m).judge.2 = .fault := by
  by_contra hverdict
  have hjudged : (u.take m).judge.1.state = .fault := by rwa [LaserUnit.sampled_of_judge hverdict] at h
  rcases u.fires_iff.mp hfires with hstate | hstate
  · rw [LaserUnit.judge_warming hstate] at hjudged hverdict
    by_cases hwarm : u.settings.warmCount ≤ u.bandAfter m
    · rw [if_pos hwarm] at hjudged
      cases hjudged
    · rw [if_neg hwarm] at hjudged hverdict
      by_cases hlong : 4 * u.settings.warmCount ≤ (u.take m).samples
      · rw [if_pos hlong] at hverdict
        exact hverdict rfl
      · rw [if_neg hlong] at hjudged
        exact nomatch hstate.symm.trans hjudged
  · exact nomatch (LaserUnit.judge_state_of_ready (u := u.take m) hstate).symm.trans hjudged

/-- R138: a READY channel's drift flag changes by a verdict. -/
theorem LaserUnit.judge_drift {u : LaserUnit} (hready : u.state = .ready) {m : BitVec 12}
    (h : (u.sampled m).drift ≠ u.drift) : (u.take m).judge.2 ≠ .keep := by
  intro hkeep
  have hjudged : (u.take m).judgeReady.1.drift ≠ u.drift := by
    rwa [LaserUnit.sampled_of_judge (by rw [hkeep]; exact nofun), LaserUnit.judge_ready hready] at h
  rw [LaserUnit.judge_ready hready] at hkeep
  unfold LaserUnit.judgeReady at hkeep hjudged
  split at hkeep
  · cases hkeep
  next hwithin =>
    rw [if_neg hwithin] at hjudged
    split at hkeep
    · cases hkeep
    next hstays =>
      rw [if_neg hstays] at hjudged
      split at hkeep
      · cases hkeep
      next hback =>
        rw [if_neg hback] at hjudged
        exact hjudged rfl

end Sys2Proof.Machine
end

section
/-! ## What each part of a mark leaves of a channel (R115, R117, R125, R134, R139) -/

namespace Sys2Proof.Machine
/-! ### Outputs that drop -/

/-- The unit is as it was, or its output has dropped. -/
def LaserUnit.keptOrDark (u v : LaserUnit) : Prop := v = u ∨ v = u.unlit

theorem LaserUnit.keptOrDark.trans {u v w : LaserUnit} (h : u.keptOrDark v) (k : v.keptOrDark w) :
    u.keptOrDark w := by
  rcases h with rfl | rfl
  · exact k
  · exact .inr (k.elim id id)

theorem LaserUnit.keptOrDark.unlit {u v : LaserUnit} (h : u.keptOrDark v) : v.unlit = u.unlit := by
  rcases h with rfl | rfl <;> rfl

theorem LaserUnit.keptOrDark.pulse {u v : LaserUnit} (h : u.keptOrDark v) (hu : u.sweep.pulse = none) :
    v.sweep.pulse = none := by
  rcases h with rfl | rfl
  · exact hu
  · rfl

theorem State.dropDrives_get (s : State) (c : Channel) : s.dropDrives.lcu.get c = (s.lcu.get c).unlit :=
  Rgb.get_map _ _ c

/-- R162: of a channel an abort drops the output alone. -/
theorem State.abort_get (s : State) (r : SpoilReason) (c : Channel) :
    (s.lcu.get c).keptOrDark ((s.abort r).lcu.get c) := by
  cases hx : s.exposure? with
  | none =>
    rw [State.abort_none hx]
    exact .inl rfl
  | some x =>
    rw [State.abort_lcu hx, State.dropDrives_get]
    exact .inr rfl

/-- R139: a channel enters FAULT with every output dropped. -/
theorem State.faultChannel_get (s : State) (c d : Channel) : LaserUnit.keptOrDark
    (if c = d then { s.lcu.get d with state := .fault, drift := false } else s.lcu.get c)
    ((s.faultChannel d).lcu.get c) := by
  have habort := State.abort_get (s.mapLaser d fun u => { u with state := .fault, drift := false }).dropDrives
    .laserFault c
  rw [State.dropDrives_get, State.mapLaser_get] at habort
  exact LaserUnit.keptOrDark.trans (.inr rfl) habort

theorem State.faultChannel_exposure? (s : State) (c : Channel) : (s.faultChannel c).exposure? = none :=
  (State.exposure?_congr (State.raise_film _ .laser)).trans (State.abort_exposure? _ .laserFault)

/-! ### A sample -/

/-- The part with a channel's sample taken and judged, before the verdict is carried out. -/
def State.sampleJudged (s : State) (c : Channel) (m : BitVec 12) : State :=
  s.mapLaser c fun u => (u.take m).judge.1

theorem State.sampleJudged_get (s : State) (c d : Channel) (m : BitVec 12) : (s.sampleJudged d m).lcu.get c =
    if c = d then ((s.lcu.get d).take m).judge.1 else s.lcu.get c :=
  s.mapLaser_get d c _

/-- R134 to R139: a firing channel's sample is judged, and puts the channel in FAULT or at most raises LASER. -/
theorem State.sampleChannel_cases {s : State} {c : Channel} (hfires : (s.lcu.get c).fires = true) (m : BitVec 12) :
    (((s.lcu.get c).take m).judge.2 = .fault ∧ s.sampleChannel c m = (s.sampleJudged c m).faultChannel c) ∨
    (((s.lcu.get c).take m).judge.2 ≠ .fault ∧ (s.sampleChannel c m).lcu = (s.sampleJudged c m).lcu ∧
      (((s.lcu.get c).take m).judge.2 ≠ .keep → (s.sampleChannel c m).hasLatched .laser)) := by
  unfold State.sampleChannel
  rw [if_pos hfires]
  dsimp only
  split
  next hverdict => exact .inr ⟨by rw [hverdict]; exact nofun, rfl, fun h => absurd hverdict h⟩
  next hverdict => exact .inl ⟨hverdict, rfl⟩
  next hverdict => exact .inr ⟨by rw [hverdict]; exact nofun, State.raise_lcu _ _, fun _ => State.raise_hasLatched _ _⟩

theorem State.sampleChannel_get_self {s : State} {c : Channel} (hfires : (s.lcu.get c).fires = true) (m : BitVec 12) :
    ((s.sampleChannel c m).lcu.get c).unlit = ((s.lcu.get c).sampled m).unlit := by
  rcases State.sampleChannel_cases hfires m with ⟨hverdict, hsample⟩ | ⟨hverdict, hsample, -⟩
  · have hfault := (s.sampleJudged c m).faultChannel_get c c
    rw [if_pos rfl, State.sampleJudged_get, if_pos rfl] at hfault
    rw [hsample, hfault.unlit, LaserUnit.sampled, if_pos hverdict]
  · rw [hsample, State.sampleJudged_get, if_pos rfl, LaserUnit.sampled_of_judge hverdict]

theorem State.sampleChannel_get_other {c d : Channel} (hne : c ≠ d) (s : State) (m : BitVec 12) :
    (s.lcu.get c).keptOrDark ((s.sampleChannel d m).lcu.get c) := by
  by_cases hfires : (s.lcu.get d).fires = true
  · rcases State.sampleChannel_cases hfires m with ⟨-, hsample⟩ | ⟨-, hsample, -⟩
    · have hfault := (s.sampleJudged d m).faultChannel_get c d
      rw [if_neg hne, State.sampleJudged_get, if_neg hne] at hfault
      rwa [hsample]
    · rw [hsample, State.sampleJudged_get, if_neg hne]
      exact .inl rfl
  · rw [State.sampleChannel, if_neg hfires]
    exact .inl rfl

/-- R137, R138: a verdict other than to go on raises LASER. -/
theorem State.sampleChannel_latched {s : State} {c : Channel} {m : BitVec 12} (hfires : (s.lcu.get c).fires = true)
    (hverdict : ((s.lcu.get c).take m).judge.2 ≠ .keep) : (s.sampleChannel c m).hasLatched .laser := by
  rcases State.sampleChannel_cases hfires m with ⟨-, hsample⟩ | ⟨-, -, hlatched⟩
  · rw [hsample]
    exact State.raise_hasLatched _ _
  · exact hlatched hverdict

/-- R139: a channel that its sample puts in FAULT leaves no exposure. -/
theorem State.sampleChannel_faulted {s : State} {c : Channel} {m : BitVec 12} (hfires : (s.lcu.get c).fires = true)
    (hfault : ((s.lcu.get c).sampled m).state = .fault) :
    (s.sampleChannel c m).exposure? = none ∧ (s.sampleChannel c m).hasLatched .laser := by
  have hverdict := LaserUnit.judge_fault hfires hfault
  refine ⟨?_, State.sampleChannel_latched hfires (by rw [hverdict]; exact nofun)⟩
  rcases State.sampleChannel_cases hfires m with ⟨-, hsample⟩ | ⟨hno, -, -⟩
  · rw [hsample]
    exact State.faultChannel_exposure? _ c
  · exact absurd hverdict hno

/-! ### The judgement for lock -/

/-- R112 to R117: the judgement of a mark changes the scan timing unit, and with it gives lock or loses it. -/
theorem State.judgeMark_cases (s : State) (p : Option Nat) : ∃ v : ScanTiming,
    s.judgeMark p = s.withStu v ∨
    (s.stu.scanner = .acquiring ∧ s.judgeMark p = (s.withStu v).lock) ∨
    (s.stu.scanner = .locked ∧ s.stu.losesLock p ∧ s.judgeMark p = (s.withStu v).loseLock) := by
  cases hscan : s.stu.scanner with
  | stopped => exact ⟨s.stu, .inl (by rw [State.judgeMark, hscan]; rfl)⟩
  | fault => exact ⟨s.stu, .inl (by rw [State.judgeMark, hscan]; rfl)⟩
  | spinningUp => exact ⟨_, .inl (by rw [State.judgeMark, hscan]; rfl)⟩
  | locked =>
    by_cases hlost : s.stu.losesLock p
    · exact ⟨_, .inr (.inr ⟨rfl, hlost, State.judgeMark_loses hscan hlost⟩)⟩
    · exact ⟨_, .inl (State.judgeMark_keeps hscan hlost)⟩
  | acquiring =>
    have hjudge : s.judgeMark p = (s.countMark p).judgeAcquiring p s.stu.facet.isSome := by
      rw [State.judgeMark, hscan]
    rw [hjudge]
    unfold State.judgeAcquiring
    dsimp only
    repeat' split
    · exact ⟨_, .inl rfl⟩
    · exact ⟨_, .inl rfl⟩
    · exact ⟨_, .inr (.inl ⟨rfl, rfl⟩)⟩
    · exact ⟨_, .inl rfl⟩
    · exact ⟨_, .inl rfl⟩

/-- R133: at lock a channel is as it was, or begins WARMING. -/
theorem State.lock_unit (s : State) (c : Channel) :
    s.lock.lcu.get c = s.lcu.get c ∨ s.lock.lcu.get c = (s.lcu.get c).warmIfOff := by
  rw [State.lock_lcu]
  split
  · exact .inl rfl
  · exact .inr (Rgb.get_map _ _ c)

theorem State.lock_latchKept (s : State) : s.latchKept s.lock := by
  have hraised (v : ScanTiming) : s.latchKept ((s.withStu v).raise .scanner) :=
    State.raise_latchKept (s.withStu v) .scanner
  unfold State.lock
  dsimp only
  split
  · exact hraised _
  · exact State.latchKept.trans (hraised _) (State.latchKept_of_au rfl)

/-- R117, R133: the judgement drops a channel's output or begins its warming, and changes nothing else in it. -/
theorem State.judgeMark_get (s : State) (p : Option Nat) (c : Channel) :
    (s.lcu.get c).keptOrDark ((s.judgeMark p).lcu.get c) ∨ (s.judgeMark p).lcu.get c = (s.lcu.get c).warmIfOff := by
  obtain ⟨v, hjudge | ⟨-, hjudge⟩ | ⟨-, -, hjudge⟩⟩ := s.judgeMark_cases p <;> rw [hjudge]
  · exact .inl (.inl rfl)
  · exact ((s.withStu v).lock_unit c).imp .inl id
  · exact .inl (State.abort_get _ .lockLost c)

theorem State.judgeMark_latchKept (s : State) (p : Option Nat) : s.latchKept (s.judgeMark p) := by
  have hset (v : ScanTiming) : s.latchKept (s.withStu v) := State.latchKept_of_au rfl
  obtain ⟨v, hjudge | ⟨-, hjudge⟩ | ⟨-, -, hjudge⟩⟩ := s.judgeMark_cases p <;> rw [hjudge]
  · exact hset v
  · exact (hset v).trans (State.lock_latchKept _)
  · exact (hset v).trans (State.loseLock_latchKept _)

theorem State.judgeMark_ended {s : State} (hx : s.exposure? = none) (p : Option Nat) :
    (s.judgeMark p).exposure? = none := by
  obtain ⟨v, hjudge | ⟨-, hjudge⟩ | ⟨-, -, hjudge⟩⟩ := s.judgeMark_cases p <;> rw [hjudge]
  · exact hx
  · exact (State.exposure?_congr (State.lock_film _)).trans hx
  · exact State.abort_exposure? _ .lockLost

/-! ### Lines and starts -/

/-- R125: a line taken puts its codes on the outputs and leaves the rest of the channels. -/
theorem State.takeLine_get (s : State) (r : LineRecord) (c : Channel) : ∃ image,
    (s.takeLine r).lcu.get c = { s.lcu.get c with sweep := { (s.lcu.get c).sweep with image := image } } := by
  refine ⟨r.codes.map (Rgb.get · c), ?_⟩
  unfold State.takeLine
  rw [State.withLcu_lcu, State.mapExposure_lcu]
  cases c <;> rfl

theorem State.putLine_get (s : State) (x : Exposure) (c : Channel) : ∃ image,
    (s.putLine x).lcu.get c = { s.lcu.get c with sweep := { (s.lcu.get c).sweep with image := image } } := by
  have hblank : (s.blankLine x.nextOut).lcu.get c = s.lcu.get c := by rw [State.blankLine_lcu]
  unfold State.putLine
  split
  · split
    · exact s.takeLine_get _ c
    · exact ⟨_, hblank⟩
  · exact ⟨_, hblank⟩

/-- R123 to R128: what a mark does for the frame touches the image codes of a channel alone. -/
theorem State.lineOut_get (s : State) (facet : Option Nat) (c : Channel) : ∃ image,
    (s.lineOut facet).lcu.get c = { s.lcu.get c with sweep := { (s.lcu.get c).sweep with image := image } } := by
  unfold State.lineOut
  split
  · exact ⟨_, rfl⟩
  next x _ =>
    split
    · split
      · split
        · exact s.takeLine_get _ c
        · exact ⟨_, rfl⟩
      · exact ⟨_, rfl⟩
    next kind _ =>
      dsimp only
      split
      · exact ⟨_, by rw [State.frameEnd_lcu, State.endLine_lcu]⟩
      · have hput := State.putLine_get (s.endLine kind) x c
        rwa [State.endLine_lcu] at hput

theorem State.markLine_get (s : State) (m : MarkInput) (c : Channel) : ∃ image,
    (s.markLine m).lcu.get c = { s.lcu.get c with sweep := { (s.lcu.get c).sweep with image := image } } := by
  unfold State.markLine
  split
  · exact s.lineOut_get _ c
  · exact ⟨_, rfl⟩

/-- R156: with a channel in FAULT no frame starts. -/
theorem State.startIfDue_ended_of_fault {b s : State} {c : Channel} (hfault : (s.lcu.get c).state = .fault)
    (hx : s.exposure? = none) : (State.startIfDue b s).exposure? = none := by
  have hlasers : s.lasersReady = false := by
    by_contra hready
    exact nomatch (s.lasersReady_iff.mp (Bool.eq_true_of_not_eq_false hready) c).symm.trans hfault
  have hunready : s.frameReady = false := by simp [State.frameReady_eq, hlasers]
  unfold State.startIfDue
  rw [hunready, Bool.false_and, if_neg nofun]
  split
  next hdue =>
    simp only [State.runoutReady, Bool.and_eq_true] at hdue
    obtain ⟨⟨⟨⟨hgate, -⟩, -⟩, -⟩, -⟩ := hdue
    exact State.runoutStart_exposure? hgate
  · exact hx

end Sys2Proof.Machine
end

section
/-! ## What a mark leaves of a channel beside its own sample (R134, R139, R143) -/

namespace Sys2Proof.Machine
/-! ### What is kept -/

/-- From one state to another a channel changed at most in what its output carries, what was latched is latched still,
and where the channel is in FAULT no exposure has begun. -/
structure State.channelKept (c : Channel) (s t : State) : Prop where
  unit : (t.lcu.get c).unlit = (s.lcu.get c).unlit
  latch : s.latchKept t
  ended : (s.lcu.get c).state = .fault → s.exposure? = none → t.exposure? = none

theorem State.channelKept_refl (c : Channel) (s : State) : State.channelKept c s s := ⟨rfl, s.latchKept_refl, fun _ => id⟩

theorem State.channelKept.state {c : Channel} {s t : State} (h : State.channelKept c s t) :
    (t.lcu.get c).state = (s.lcu.get c).state := LaserUnit.state_of_unlit h.unit

theorem State.channelKept.trans {c : Channel} {s t u : State} (h : State.channelKept c s t)
    (k : State.channelKept c t u) : State.channelKept c s u :=
  ⟨k.unit.trans h.unit, h.latch.trans k.latch, fun hfault hx => k.ended (h.state.trans hfault) (h.ended hfault hx)⟩

theorem State.startIfDue_channelKept (c : Channel) (b s : State) : State.channelKept c s (State.startIfDue b s) :=
  ⟨by rw [State.startIfDue_lcu], State.startIfDue_latchKept b s, State.startIfDue_ended_of_fault⟩

theorem State.sampleChannel_channelKept {c d : Channel} (hne : c ≠ d) (s : State) (m : BitVec 12) :
    State.channelKept c s (s.sampleChannel d m) :=
  ⟨(State.sampleChannel_get_other hne s m).unlit, s.sampleChannel_latchKept d m,
    fun _ hx => State.sampleChannel_ended hx d m⟩

theorem State.judgeMark_channelKept {c : Channel} {s : State} (hoff : (s.lcu.get c).state ≠ .off) (p : Option Nat) :
    State.channelKept c s (s.judgeMark p) := by
  refine ⟨?_, s.judgeMark_latchKept p, fun _ hx => State.judgeMark_ended hx p⟩
  rcases s.judgeMark_get p c with hkept | hwarm
  · exact hkept.unlit
  · rw [hwarm, LaserUnit.warmIfOff_of_ne_off hoff]

theorem State.markLine_channelKept (c : Channel) (s : State) (m : MarkInput) : State.channelKept c s (s.markLine m) := by
  refine ⟨?_, s.markLine_latchKept m, fun _ hx => by rw [State.markLine_ended hx, hx]⟩
  obtain ⟨image, hline⟩ := s.markLine_get m c
  rw [hline]
  rfl

theorem State.quiesce_channelKept (c : Channel) (s : State) : State.channelKept c s s.quiesce :=
  ⟨by rw [State.quiesce_lcu], s.quiesce_latchKept, fun _ => State.quiesce_ended⟩

theorem State.newSweep_channelKept (c : Channel) (s : State) : State.channelKept c s s.newSweep :=
  ⟨by rw [State.newSweep_get]; rfl, State.latchKept_of_au rfl, fun _ => id⟩

/-! ### The parts of a mark -/

/-- R139, R143: any part of a mark but a channel's own sample keeps that channel, unless it was OFF. -/
theorem State.markPart_channelKept {c : Channel} {p : MarkPart} (hp : p ≠ .sample c) (m : MarkInput) {s : State}
    (hoff : (s.lcu.get c).state ≠ .off) : State.channelKept c s (State.markPart m s p) := by
  unfold State.markPart
  cases p with
  | sample d =>
    have hne : c ≠ d := fun h => hp (h ▸ rfl)
    dsimp only
    split
    · exact (State.sampleChannel_channelKept hne s _).trans (State.startIfDue_channelKept c s _)
    · exact State.channelKept_refl c s
  | judge =>
    have hstarted := (State.judgeMark_channelKept hoff m.period).trans (State.startIfDue_channelKept c s _)
    unfold State.markJudge
    dsimp only
    split
    · exact hstarted.trans (State.markLine_channelKept c _ m)
    · exact hstarted

theorem State.markParts_channelKept {c : Channel} {ps : List MarkPart} (hps : .sample c ∉ ps) (m : MarkInput)
    {s : State} (hoff : (s.lcu.get c).state ≠ .off) : State.channelKept c s (ps.foldl (State.markPart m) s) := by
  induction ps generalizing s with
  | nil => exact State.channelKept_refl c s
  | cons p ps ih =>
    rw [List.mem_cons, not_or] at hps
    obtain ⟨hp, hps⟩ := hps
    have hfirst := State.markPart_channelKept (Ne.symm hp) m hoff
    exact hfirst.trans (ih hps (by rw [hfirst.state]; exact hoff))

/-- The parts of a mark are the judgement and the three samples. -/
theorem markParts_perm (o : MarkOrder) :
    (markParts o).Perm (.judge :: (channelsInOrder o.channels).map MarkPart.sample) := by
  unfold markParts
  dsimp only
  rw [List.append_assoc, List.singleton_append]
  exact List.perm_middle.trans (by rw [List.take_append_drop])

/-- Each channel has one sample in a mark. -/
theorem markParts_split (o : MarkOrder) (c : Channel) : ∃ before after,
    markParts o = before ++ .sample c :: after ∧ .sample c ∉ before ∧ .sample c ∉ after := by
  have hmem : .sample c ∈ markParts o :=
    (markParts_perm o).mem_iff.mpr
      (List.mem_cons_of_mem _ (List.mem_map_of_mem (mem_channelsInOrder o.channels c)))
  have hnodup : (markParts o).Nodup := by
    refine (markParts_perm o).nodup_iff.mpr (List.nodup_cons.mpr ⟨by simp, ?_⟩)
    exact (channelsInOrder_nodup o.channels).map fun _ _ h => MarkPart.sample.inj h
  obtain ⟨before, after, hsplit⟩ := List.append_of_mem hmem
  rw [hsplit, List.nodup_middle, List.nodup_cons, List.mem_append, not_or] at hnodup
  exact ⟨before, after, hsplit, hnodup.1.1, hnodup.1.2⟩

/-- R134: a firing channel is sampled once at a mark, as the mark finds it, and the rest of the mark keeps it. -/
theorem State.takeMark_sampled {s : State} {c : Channel} (hfires : (s.lcu.get c).fires = true) (ticks : Nat)
    (m : Rgb (BitVec 12)) (o : MarkOrder) : ∃ t : State, (t.lcu.get c).unlit = (s.lcu.get c).unlit ∧
      State.channelKept c (t.sampleChannel c (m.get c)) (s.takeMark ticks m o) := by
  obtain ⟨before, after, hsplit, hbefore, hafter⟩ := markParts_split o c
  have hsweep := State.newSweep_channelKept c s
  have hfound := hsweep.trans (State.markParts_channelKept hbefore (s.markInput ticks m)
    (by rw [hsweep.state]; exact LaserUnit.state_ne_off_of_fires hfires))
  refine ⟨_, hfound.unit, ?_⟩
  have hfires' := (LaserUnit.fires_of_unlit hfound.unit).trans hfires
  have hinput : (s.markInput ticks m).firing.get c = true := (Rgb.get_map _ _ c).trans hfires
  unfold State.takeMark
  dsimp only
  rw [hsplit, List.foldl_append, List.foldl_cons]
  generalize before.foldl (State.markPart (s.markInput ticks m)) s.newSweep = t at hfires' ⊢
  have hpart : State.markPart (s.markInput ticks m) t (.sample c) =
      State.startIfDue t (t.sampleChannel c (m.get c)) := by
    unfold State.markPart
    exact if_pos hinput
  rw [hpart]
  have hstarted := State.startIfDue_channelKept c t (t.sampleChannel c (m.get c))
  have hoff : ((State.startIfDue t (t.sampleChannel c (m.get c))).lcu.get c).state ≠ .off := by
    rw [hstarted.state, LaserUnit.state_of_unlit (State.sampleChannel_get_self hfires' _)]
    exact LaserUnit.sampled_ne_off hfires' _
  exact ((hstarted.trans (State.markParts_channelKept hafter _ hoff)).trans (State.markLine_channelKept c _ _)).trans
    (State.quiesce_channelKept c _)

/-! ### Channels that do not fire -/

/-- R133, R134: a channel without a pulse, as it was or as a lock leaves it. -/
def LaserUnit.passedOver (u v : LaserUnit) : Prop :=
  v.sweep.pulse = none ∧ (v.unlit = u.unlit ∨ v.unlit = u.warmIfOff.unlit)

theorem LaserUnit.passedOver.keptOrDark {u v w : LaserUnit} (h : u.passedOver v) (k : v.keptOrDark w) :
    u.passedOver w := ⟨k.pulse h.1, by rw [k.unlit]; exact h.2⟩

theorem LaserUnit.passedOver.warmIfOff {u v : LaserUnit} (h : u.passedOver v) : u.passedOver v.warmIfOff := by
  refine ⟨by rw [v.warmIfOff_kept.1]; exact h.1, .inr ?_⟩
  rw [LaserUnit.warmIfOff_unlit]
  rcases h.2 with hsame | hwarm
  · rw [hsame, LaserUnit.warmIfOff_unlit]
  · rw [hwarm, ← LaserUnit.warmIfOff_unlit, LaserUnit.warmIfOff_idem]

theorem LaserUnit.passedOver.imaged {u v : LaserUnit} (h : u.passedOver v) (image : List Nat) :
    u.passedOver { v with sweep := { v.sweep with image := image } } := h

theorem State.markLine_passedOver {u : LaserUnit} {c : Channel} {s : State} (h : u.passedOver (s.lcu.get c))
    (m : MarkInput) : u.passedOver ((s.markLine m).lcu.get c) := by
  obtain ⟨image, hline⟩ := s.markLine_get m c
  rw [hline]
  exact h.imaged image

theorem State.markPart_passedOver {u : LaserUnit} {c : Channel} {m : MarkInput} (hc : m.firing.get c = false)
    {s : State} (h : u.passedOver (s.lcu.get c)) (p : MarkPart) : u.passedOver ((State.markPart m s p).lcu.get c) := by
  unfold State.markPart
  cases p with
  | sample d =>
    dsimp only
    split
    next hfires =>
      have hne : c ≠ d := by
        rintro rfl
        exact nomatch hc.symm.trans hfires
      rw [State.startIfDue_lcu]
      exact h.keptOrDark (State.sampleChannel_get_other hne s _)
    · exact h
  | judge =>
    have hjudged : u.passedOver ((State.startIfDue s (s.judgeMark m.period)).lcu.get c) := by
      rw [State.startIfDue_lcu]
      rcases s.judgeMark_get m.period c with hkept | hwarm
      · exact h.keptOrDark hkept
      · rw [hwarm]
        exact h.warmIfOff
    unfold State.markJudge
    dsimp only
    split
    · exact State.markLine_passedOver hjudged m
    · exact hjudged

/-- R134: a channel that does not fire takes no sample at a mark. -/
theorem State.takeMark_passedOver {s : State} {c : Channel} (hc : (s.lcu.get c).fires = false) (ticks : Nat)
    (m : Rgb (BitVec 12)) (o : MarkOrder) : (s.lcu.get c).passedOver ((s.takeMark ticks m o).lcu.get c) := by
  have hinput : (s.markInput ticks m).firing.get c = false := (Rgb.get_map _ _ c).trans hc
  have hparts (ps : List MarkPart) (t : State) (ht : (s.lcu.get c).passedOver (t.lcu.get c)) :
      (s.lcu.get c).passedOver ((ps.foldl (State.markPart (s.markInput ticks m)) t).lcu.get c) := by
    induction ps generalizing t with
    | nil => exact ht
    | cons p ps ih => exact ih _ (State.markPart_passedOver hinput ht p)
  have hsweep : (s.lcu.get c).passedOver (s.newSweep.lcu.get c) := by
    rw [State.newSweep_get]
    exact ⟨rfl, .inl rfl⟩
  unfold State.takeMark
  dsimp only
  rw [State.quiesce_lcu]
  exact State.markLine_passedOver (hparts _ _ hsweep) _

end Sys2Proof.Machine
end

section
/-! ## The reference pulse until the mark is over (R134, R139, R144) -/

namespace Sys2Proof.Machine

/-- The channel's output carries its reference pulse, or a channel that fired at the mark has entered FAULT. -/
def State.pulsing (m : MarkInput) (c : Channel) (s : State) : Prop :=
  (s.lcu.get c).sweep.pulse = some (s.lcu.get c).settings.refDrive ∨
    ∃ d, m.firing.get d = true ∧ (s.lcu.get d).state = .fault

/-- No output has lost its pulse, no setting has changed, and no channel has left FAULT. -/
def State.pulsesKept (s t : State) : Prop := ∀ c, (t.lcu.get c).sweep.pulse = (s.lcu.get c).sweep.pulse ∧
  (t.lcu.get c).settings = (s.lcu.get c).settings ∧ ((s.lcu.get c).state = .fault → (t.lcu.get c).state = .fault)

theorem State.pulsing.kept {m : MarkInput} {c : Channel} {s t : State} (h : s.pulsing m c) (k : s.pulsesKept t) :
    t.pulsing m c := by
  rcases h with hpulse | ⟨d, hfired, hfault⟩
  · obtain ⟨hsame, hsettings, -⟩ := k c
    exact .inl (by rw [hsame, hsettings, hpulse])
  · exact .inr ⟨d, hfired, (k d).2.2 hfault⟩

theorem State.pulsesKept_of_lcu {s t : State} (h : t.lcu = s.lcu) : s.pulsesKept t :=
  fun _ => by rw [h]; exact ⟨rfl, rfl, id⟩

theorem State.markLine_pulsesKept (s : State) (m : MarkInput) : s.pulsesKept (s.markLine m) := by
  intro c
  obtain ⟨image, hline⟩ := s.markLine_get m c
  rw [hline]
  exact ⟨rfl, rfl, id⟩

/-- R117, R133: a judgement that does not lose lock leaves the pulses. -/
theorem State.judgeMark_pulsesKept {s : State} {p : Option Nat} (hkept : s.stu.scanner = .locked → ¬ s.stu.losesLock p) :
    s.pulsesKept (s.judgeMark p) := by
  intro c
  obtain ⟨v, hjudge | ⟨-, hjudge⟩ | ⟨hscan, hlost, -⟩⟩ := s.judgeMark_cases p
  · rw [hjudge]
    exact ⟨rfl, rfl, id⟩
  · rw [hjudge]
    rcases (s.withStu v).lock_unit c with hsame | hwarm
    · rw [hsame]
      exact ⟨rfl, rfl, id⟩
    · obtain ⟨hsweep, hsettings, -⟩ := (s.lcu.get c).warmIfOff_kept
      rw [hwarm]
      refine ⟨congrArg Sweep.pulse hsweep, hsettings, fun hfault => ?_⟩
      have hon : ((s.withStu v).lcu.get c).state ≠ .off := fun hoff => nomatch hoff.symm.trans hfault
      rw [LaserUnit.warmIfOff_of_ne_off hon]
      exact hfault
  · exact absurd hlost (hkept hscan)

/-- R134: a sample fires its own channel's pulse, and drops the others' only where it puts its channel in FAULT. -/
theorem State.sampleChannel_pulsing {m : MarkInput} {c d : Channel} {s : State} (hfired : m.firing.get d = true)
    (hoff : (s.lcu.get d).state ≠ .off) (h : c = d ∨ s.pulsing m c) (x : BitVec 12) :
    (s.sampleChannel d x).pulsing m c := by
  by_cases hfires : (s.lcu.get d).fires = true
  · obtain ⟨-, -, -, hsettings, hpulse⟩ := LaserUnit.sampled_taken hfires x
    rcases State.sampleChannel_cases hfires x with ⟨hverdict, hsample⟩ | ⟨hverdict, hsample, -⟩
    · refine .inr ⟨d, hfired, ?_⟩
      have hfault := (s.sampleJudged d x).faultChannel_get d d
      rw [hsample, LaserUnit.state_of_unlit hfault.unlit, if_pos rfl]
    · have hget (e : Channel) : (s.sampleChannel d x).lcu.get e =
          if e = d then (s.lcu.get d).sampled x else s.lcu.get e := by
        rw [hsample, State.sampleJudged_get, LaserUnit.sampled_of_judge hverdict]
      rcases h with rfl | hpulse' | ⟨e, hfired', hfault⟩
      · exact .inl (by rw [hget, if_pos rfl, hpulse, hsettings])
      · refine .inl ?_
        rw [hget]
        split
        · rw [hpulse, hsettings]
        · exact hpulse'
      · refine .inr ⟨e, hfired', ?_⟩
        have hne : e ≠ d := by
          rintro rfl
          rw [LaserUnit.fires_iff, hfault] at hfires
          exact hfires.elim nofun nofun
        rw [hget, if_neg hne, hfault]
  · refine .inr ⟨d, hfired, ?_⟩
    rw [State.sampleChannel, if_neg hfires]
    exact LaserUnit.state_fault_of_not_fires hoff hfires

/-! ### All the samples of a mark -/

/-- A channel that fired at the mark is not OFF. -/
def State.firedOn (m : MarkInput) (s : State) : Prop := ∀ d, m.firing.get d = true → (s.lcu.get d).state ≠ .off

theorem State.firedOn.kept {m : MarkInput} {s t : State} (h : s.firedOn m) (k : ∀ d, (s.lcu.get d).state ≠ .off →
    (t.lcu.get d).state = (s.lcu.get d).state) : t.firedOn m := fun d hd => by
  rw [k d (h d hd)]
  exact h d hd

theorem State.firedOn.sampleChannel {m : MarkInput} {s : State} (h : s.firedOn m) (d : Channel) (x : BitVec 12) :
    (s.sampleChannel d x).firedOn m := by
  intro e hfired
  by_cases hne : e = d
  · subst hne
    by_cases hfires : (s.lcu.get e).fires = true
    · rw [LaserUnit.state_of_unlit (State.sampleChannel_get_self hfires x)]
      exact LaserUnit.sampled_ne_off hfires x
    · rw [State.sampleChannel, if_neg hfires]
      exact h e hfired
  · rw [(State.sampleChannel_channelKept hne s x).state]
    exact h e hfired

theorem State.takeSamples_firedOn {m : MarkInput} {s : State} (h : s.firedOn m) (cs : List Channel) :
    (State.takeSamples m cs s).firedOn m :=
  State.takeSamples_induct (P := State.firedOn m)
    (fun t d _ _ ht => (ht.sampleChannel d _).kept fun e _ => (State.startIfDue_channelKept e t _).state) h

theorem State.takeSamples_cons_fired {m : MarkInput} {d : Channel} (hfired : m.firing.get d = true) (cs : List Channel)
    (s : State) : State.takeSamples m (d :: cs) s =
      State.takeSamples m cs (State.startIfDue s (s.sampleChannel d (m.samples.get d))) :=
  congrArg (State.takeSamples m cs) (if_pos hfired)

theorem State.takeSamples_cons_passed {m : MarkInput} {d : Channel} (hfired : ¬ m.firing.get d = true)
    (cs : List Channel) (s : State) : State.takeSamples m (d :: cs) s = State.takeSamples m cs s :=
  congrArg (State.takeSamples m cs) (if_neg hfired)

/-- R134: after samples that a channel's is among, or that found its pulse, its pulse stands. -/
theorem State.takeSamples_pulsing {m : MarkInput} {c : Channel} (hc : m.firing.get c = true) {cs : List Channel}
    {s : State} (hon : s.firedOn m) (h : c ∈ cs ∨ s.pulsing m c) : (State.takeSamples m cs s).pulsing m c := by
  induction cs generalizing s with
  | nil => exact h.resolve_left List.not_mem_nil
  | cons d cs ih =>
    by_cases hfired : m.firing.get d = true
    · have hnow (hd : c = d ∨ s.pulsing m c) :
          (State.startIfDue s (s.sampleChannel d (m.samples.get d))).pulsing m c :=
        (State.sampleChannel_pulsing hfired (hon d hfired) hd _).kept
          (State.pulsesKept_of_lcu (State.startIfDue_lcu _ _))
      rw [State.takeSamples_cons_fired hfired]
      refine ih ((hon.sampleChannel d _).kept fun e _ => (State.startIfDue_channelKept e s _).state) ?_
      rcases h with hmem | hpulse
      · exact (List.mem_cons.mp hmem).symm.imp_right fun hself => hnow (.inl hself)
      · exact .inr (hnow (.inr hpulse))
    · have hne : c ≠ d := fun heq => hfired (heq ▸ hc)
      rw [State.takeSamples_cons_passed hfired]
      exact ih hon (h.imp_left fun hmem => (List.mem_cons.mp hmem).resolve_left hne)

/-- R134, R144: where lock is not lost, a firing channel carries its reference pulse until the mark is over, or a
channel has entered FAULT. -/
theorem State.takeMark_pulsing {s : State} {c : Channel} (hfires : (s.lcu.get c).fires = true) {ticks : Nat}
    (hkept : s.stu.scanner = .locked → ¬ s.stu.losesLock (s.stu.period? ticks)) (m : Rgb (BitVec 12)) (o : MarkOrder) :
    (s.takeMark ticks m o).pulsing (s.markInput ticks m) c := by
  obtain ⟨before, after, hsplit, hmark⟩ := s.takeMark_eq ticks m o
  have hfired (d : Channel) : (s.markInput ticks m).firing.get d = (s.lcu.get d).fires := Rgb.get_map _ _ d
  have hon : s.newSweep.firedOn (s.markInput ticks m) := fun d hd => by
    rw [(State.newSweep_channelKept d s).state]
    exact LaserUnit.state_ne_off_of_fires ((hfired d).symm.trans hd)
  have hc := (hfired c).trans hfires
  have hperiod : (s.markInput ticks m).period = s.stu.period? ticks := rfl
  have hfound := State.takeSamples_firedOn hon before
  have hstu : (State.takeSamples (s.markInput ticks m) before s.newSweep).stu = s.stu := State.takeSamples_stu _ _ _
  have hsampled : c ∈ after ∨ (State.takeSamples (s.markInput ticks m) before s.newSweep).pulsing
      (s.markInput ticks m) c := by
    have hmem : c ∈ before ++ after := hsplit ▸ mem_channelsInOrder o.channels c
    exact (List.mem_append.mp hmem).symm.imp_right fun hb => State.takeSamples_pulsing hc hon (.inl hb)
  rw [hmark]
  dsimp only
  generalize State.takeSamples (s.markInput ticks m) before s.newSweep = u at hfound hstu hsampled ⊢
  generalize s.markInput ticks m = input at hc hperiod hfound hsampled ⊢
  rw [← hperiod, ← hstu] at hkept
  have hjudged := State.judgeMark_pulsesKept hkept
  have hstarted := State.pulsesKept_of_lcu (State.startIfDue_lcu u (u.judgeMark input.period))
  have hjudgedOn : (State.startIfDue u (u.judgeMark input.period)).firedOn input := hfound.kept fun d hd =>
    ((State.judgeMark_channelKept hd input.period).trans (State.startIfDue_channelKept d u _)).state
  unfold State.afterJudge
  dsimp only
  generalize State.startIfDue u (u.judgeMark input.period) = j at hstarted hjudgedOn ⊢
  have hlineOn : (if j.lastLineOnFilm then j.markLine input else j).firedOn input := by
    split
    · exact hjudgedOn.kept fun d _ => (State.markLine_channelKept d j input).state
    · exact hjudgedOn
  refine ((State.takeSamples_pulsing hc hlineOn (hsampled.imp_right fun hpulse => ?_)).kept
    (State.markLine_pulsesKept _ input)).kept (State.pulsesKept_of_lcu (State.quiesce_lcu _))
  have hpulse' := (hpulse.kept hjudged).kept hstarted
  split
  · exact hpulse'.kept (State.markLine_pulsesKept j input)
  · exact hpulse'

/-- R117: a mark that loses lock leaves the scanner ACQUIRING. -/
theorem State.takeMark_lost {s : State} (hscan : s.stu.scanner = .locked) {ticks : Nat}
    (hlost : s.stu.losesLock (s.stu.period? ticks)) (m : Rgb (BitVec 12)) (o : MarkOrder) :
    (s.takeMark ticks m o).stu.scanner = .acquiring := by
  obtain ⟨before, after, -, hmark⟩ := s.takeMark_eq ticks m o
  have hstu : (State.takeSamples (s.markInput ticks m) before s.newSweep).stu = s.stu := State.takeSamples_stu _ _ _
  obtain ⟨i, hleft, -⟩ := State.afterJudge_lost (m := s.markInput ticks m) (by rw [hstu]; exact hscan)
    (by rw [hstu]; exact hlost) after
  rw [hmark, hleft]
  rfl

end Sys2Proof.Machine
end

section
/-! ## The settling of O27: a sample fires the pulse, moves the average and is judged -/

namespace Sys2Proof.Machine
/-! ### Averages and bands (R135, R136) -/

/-- R135: the tracked average moves by the floor of a part of its distance from the sample, and is never negative. -/
theorem trackAverage_cast (average sample shift : Nat) : (trackAverage average sample shift : Int) =
    average + Int.fdiv (16 * sample - average) (2 ^ shift) := by
  have hpos : (0 : Int) < ((2 ^ shift : Nat) : Int) := by exact_mod_cast Nat.two_pow_pos shift
  have hfloor : -(average : Int) ≤ (16 * (sample : Int) - average) / ((2 ^ shift : Nat) : Int) := by
    refine Int.le_ediv_of_mul_le hpos ?_
    have hscaled : (average : Int) * 1 ≤ average * ((2 ^ shift : Nat) : Int) :=
      Int.mul_le_mul_of_nonneg_left hpos (Int.natCast_nonneg _)
    rw [Int.neg_mul]
    omega
  have hdivisor : (2 ^ shift : Int) = ((2 ^ shift : Nat) : Int) := by push_cast; rfl
  rw [trackAverage, Int.toNat_of_nonneg (by omega), hdivisor, Int.fdiv_eq_ediv_of_nonneg _ hpos.le]

theorem insideWarn_iff (g : LaserSettings) (average : Nat) : insideWarn g average = true ↔
    ((average : Int) - 16 * g.target).natAbs * 256 ≤ (16 * (g.target : Int)).natAbs * g.warnBand := by
  have htarget : (16 * (g.target : Int)).natAbs = 16 * g.target := by omega
  rw [insideWarn, decide_eq_true_iff, htarget, deviation]

theorem beyondFault_iff (g : LaserSettings) (average : Nat) : beyondFault g average = true ↔
    (16 * (g.target : Int)).natAbs * g.faultBand < ((average : Int) - 16 * g.target).natAbs * 256 := by
  have htarget : (16 * (g.target : Int)).natAbs = 16 * g.target := by omega
  rw [beyondFault, decide_eq_true_iff, htarget, deviation]

/-! ### What a sample decides -/

/-- R137: the four ends of a WARMING channel's sample. -/
theorem LaserUnit.sampled_warming_ends {u : LaserUnit} (h : u.state = .warming) (m : BitVec 12) :
    (u.sampled m).band = u.bandAfter m ∧
    (u.settings.warmCount ≤ u.bandAfter m → (u.sampled m).state = .ready ∧ (u.sampled m).drift = false) ∧
    (u.bandAfter m < u.settings.warmCount → 4 * u.settings.warmCount ≤ min (u.samples + 1) 65535 →
      (u.sampled m).state = .fault ∧ (u.sampled m).drift = false) ∧
    (u.bandAfter m < u.settings.warmCount → min (u.samples + 1) 65535 < 4 * u.settings.warmCount →
      (u.sampled m).state = .warming) := by
  rw [LaserUnit.sampled_warming h]
  refine ⟨?_, fun hwarm => ?_, fun hshort hlong => ?_, fun hshort hfew => ?_⟩
  · split
    · rfl
    · split <;> rfl
  · rw [if_pos hwarm]
    exact ⟨rfl, rfl⟩
  · rw [if_neg (Nat.not_le.mpr hshort), if_pos (show 4 * _ ≤ (u.take m).samples from hlong)]
    exact ⟨rfl, rfl⟩
  · rw [if_neg (Nat.not_le.mpr hshort), if_neg (Nat.not_le.mpr (show (u.take m).samples < 4 * _ from hfew))]
    exact h

/-- R138: the two ends of a READY channel's sample. -/
theorem LaserUnit.sampled_ready_ends {u : LaserUnit} (h : u.state = .ready) (m : BitVec 12) :
    (u.sampled m).band = u.band ∧
    (beyondFault u.settings (u.sampled m).average = true →
      (u.sampled m).state = .fault ∧ (u.sampled m).drift = false) ∧
    (¬ beyondFault u.settings (u.sampled m).average = true →
      (u.sampled m).state = .ready ∧ (u.sampled m).drift = !insideWarn u.settings (u.sampled m).average) := by
  have haverage : (u.sampled m).average = (u.take m).average :=
    (LaserUnit.sampled_taken (u.fires_iff.mpr (.inr h)) m).1
  rw [haverage, LaserUnit.sampled_ready h]
  refine ⟨?_, fun hbeyond => ?_, fun hwithin => ?_⟩
  · split <;> rfl
  · rw [if_pos hbeyond]
    exact ⟨rfl, rfl⟩
  · rw [if_neg hwithin]
    exact ⟨h, rfl⟩

/-! ### The mark -/

/-- R134 to R139: what a mark makes of a channel that fires, and of the exposure and LASER with it. -/
theorem State.takeMark_fired {s : State} {c : Channel} (hfires : (s.lcu.get c).fires = true) (ticks : Nat)
    (m : Rgb (BitVec 12)) (o : MarkOrder) :
    ((s.takeMark ticks m o).lcu.get c).unlit = ((s.lcu.get c).sampled (m.get c)).unlit ∧
    (((s.lcu.get c).sampled (m.get c)).state = .fault →
      (s.takeMark ticks m o).hasLatched .laser ∧ (s.takeMark ticks m o).exposure? = none) ∧
    ((s.lcu.get c).state = .ready → ((s.lcu.get c).sampled (m.get c)).drift ≠ (s.lcu.get c).drift →
      (s.takeMark ticks m o).hasLatched .laser) := by
  obtain ⟨t, hfound, hkept⟩ := State.takeMark_sampled hfires ticks m o
  have hfires' := (LaserUnit.fires_of_unlit hfound).trans hfires
  have hsampled := LaserUnit.sampled_unlit hfound hfires (m.get c)
  have hself := State.sampleChannel_get_self hfires' (m.get c)
  refine ⟨(hkept.unit.trans hself).trans hsampled, fun hfault => ?_, fun hready hdrift => ?_⟩
  · have hfault' := (LaserUnit.state_of_unlit hsampled).trans hfault
    obtain ⟨hended, hlatched⟩ := State.sampleChannel_faulted hfires' hfault'
    exact ⟨hkept.latch.hasLatched hlatched, hkept.ended ((LaserUnit.state_of_unlit hself).trans hfault') hended⟩
  · have hdrift' : ((t.lcu.get c).sampled (m.get c)).drift ≠ (t.lcu.get c).drift := by
      rw [LaserUnit.eq_of_unlit hsampled, LaserUnit.eq_of_unlit hfound]
      exact hdrift
    have hready' := (LaserUnit.state_of_unlit hfound).trans hready
    exact hkept.latch.hasLatched (State.sampleChannel_latched hfires' (LaserUnit.judge_drift hready' hdrift'))

/-- R134, R144: at a mark that drops no output a firing channel's pulse stands until the mark is over. -/
theorem State.takeMark_pulse {s : State} {c : Channel} (hfires : (s.lcu.get c).fires = true) {ticks : Nat}
    {m : Rgb (BitVec 12)} {o : MarkOrder} (hfaults : ∀ d, ((s.takeMark ticks m o).lcu.get d).state = .fault →
      (s.lcu.get d).state = .fault)
    (hlock : s.stu.scanner = .acquiring ∨ (s.takeMark ticks m o).stu.scanner = .locked) :
    ((s.takeMark ticks m o).lcu.get c).sweep.pulse = some (s.lcu.get c).settings.refDrive := by
  have hkept : s.stu.scanner = .locked → ¬ s.stu.losesLock (s.stu.period? ticks) := fun hscan hlost =>
    hlock.elim (fun h => nomatch hscan.symm.trans h)
      fun h => nomatch (State.takeMark_lost hscan hlost m o).symm.trans h
  have hsettings : ((s.takeMark ticks m o).lcu.get c).settings = (s.lcu.get c).settings := by
    obtain ⟨hunit, -, -⟩ := State.takeMark_fired hfires ticks m o
    obtain ⟨-, -, -, hsettings, -⟩ := LaserUnit.sampled_taken hfires (m.get c)
    rw [LaserUnit.eq_of_unlit hunit]
    exact hsettings
  rcases State.takeMark_pulsing hfires hkept m o with hpulse | ⟨d, hfired, hfault⟩
  · rw [hpulse, hsettings]
  · have hfires' : (s.lcu.get d).fires = true := (Rgb.get_map LaserUnit.fires s.lcu d).symm.trans hfired
    rw [LaserUnit.fires_iff, hfaults d hfault] at hfires'
    exact hfires'.elim nofun nofun

/-- R134: what a mark leaves of a channel in OFF or FAULT. -/
theorem LaserUnit.passedOver.ends {u v : LaserUnit} (h : u.passedOver v) : v.settings = u.settings ∧
    (v.lastSample = u.lastSample ∧ v.sweep.pulse = none) ∧ (u.state = .fault → v = { u with sweep := v.sweep }) ∧
    (u.state = .off → v.state ≠ .warming → v = { u with sweep := v.sweep }) := by
  obtain ⟨hpulse, hsame | hwarm⟩ := h
  · have hv := LaserUnit.eq_of_unlit hsame
    exact ⟨by rw [hv], ⟨by rw [hv], hpulse⟩, fun _ => hv, fun _ _ => hv⟩
  · have hv := LaserUnit.eq_of_unlit hwarm
    obtain ⟨-, hsettings, hlast⟩ := u.warmIfOff_kept
    refine ⟨by rw [hv]; exact hsettings, ⟨by rw [hv]; exact hlast, hpulse⟩, fun hfault => ?_, fun hoff hcold => ?_⟩
    · rwa [LaserUnit.warmIfOff_of_ne_off (by rw [hfault]; exact nofun)] at hv
    · refine absurd ?_ hcold
      rw [hv, LaserUnit.warmIfOff, if_pos hoff]
      rfl

/-- Settles O27: a channel that fires is sampled once, as the mark finds it, and neither the judgement for lock nor the
other channels change more of it than its output; a channel in OFF or FAULT is passed over. -/
theorem sampleTracksPower : Obligations.SampleTracksPower := by
  intro ticks m o s c hrun hturn hticks
  have hmotor := s.turning_iff.mp hturn
  refine ⟨_, startOfScanMark_running hrun (.inr hmotor) hticks m o, ?_⟩
  intro u v target inside beyond
  by_cases hfires : u.fires = true
  · obtain ⟨haverage, hlast, hsamples, hsettings, -⟩ := LaserUnit.sampled_taken hfires (m.get c)
    obtain ⟨hunit, hfaulted, hdrifted⟩ := State.takeMark_fired hfires ticks m o
    have hv : v = { u.sampled (m.get c) with sweep := v.sweep } := LaserUnit.eq_of_unlit hunit
    have hvaverage : v.average = (u.sampled (m.get c)).average := by rw [hv]
    have hinside : inside ↔ insideWarn u.settings (u.sampled (m.get c)).average = true := by
      rw [insideWarn_iff, ← hvaverage]
    have hbeyond : beyond ↔ beyondFault u.settings (u.sampled (m.get c)).average = true := by
      rw [beyondFault_iff, ← hvaverage]
    have hvsamples : v.samples = min (u.samples + 1) 65535 := by rw [hv]; exact hsamples
    have hvstate : v.state = (u.sampled (m.get c)).state := by rw [hv]
    have hvdrift : v.drift = (u.sampled (m.get c)).drift := by rw [hv]
    have hvband : v.band = (u.sampled (m.get c)).band := by rw [hv]
    refine ⟨by rw [hv]; exact hsettings, fun _ => ⟨?_, by rw [hv]; exact hlast, hvsamples, fun hfaults hlock =>
      State.takeMark_pulse hfires hfaults hlock⟩, fun hwarming => ?_, fun hready => ?_, fun hidle => ?_,
      fun hfault => ?_, fun hoff => ?_⟩
    · rw [hvaverage, haverage]
      exact trackAverage_cast _ _ _
    · obtain ⟨hband, hwarm, hlong, hstays⟩ := LaserUnit.sampled_warming_ends hwarming (m.get c)
      have hcount : u.bandAfter (m.get c) = if inside then u.band + 1 else 0 := by
        simp only [hinside, haverage]
        rfl
      rw [hvsamples, hvstate, hvdrift, hvband, hband]
      refine ⟨hcount, hwarm, fun hshort hfew => ?_, hstays⟩
      obtain ⟨hstate, hdrift⟩ := hlong hshort hfew
      exact ⟨hstate, hdrift, hfaulted hstate⟩
    · obtain ⟨hband, hout, hin⟩ := LaserUnit.sampled_ready_ends hready (m.get c)
      rw [hvstate, hvdrift, hvband, hbeyond, hinside]
      refine ⟨hband, fun h => ?_, fun h => ?_⟩
      · obtain ⟨hstate, hdrift⟩ := hout h
        exact ⟨hstate, hdrift, hfaulted hstate⟩
      · obtain ⟨hstate, hdrift⟩ := hin h
        exact ⟨hstate, by rw [hdrift]; simp, hdrifted hready⟩
    · rcases u.fires_iff.mp hfires with h | h <;> rw [h] at hidle <;> exact hidle.elim nofun nofun
    · rcases u.fires_iff.mp hfires with h | h <;> exact nomatch h.symm.trans hfault
    · exact absurd hoff (LaserUnit.state_ne_off_of_fires hfires)
  · have hpassed := State.takeMark_passedOver (Bool.eq_false_of_not_eq_true hfires) ticks m o
    obtain ⟨hsettings, hidle, hfault, hoff⟩ := hpassed.ends
    have hno (h : u.state = .warming ∨ u.state = .ready) := hfires (u.fires_iff.mpr h)
    exact ⟨hsettings, fun h => absurd h hno, fun h => absurd (.inl h) hno, fun h => absurd (.inr h) hno,
      fun _ => hidle, hfault, hoff⟩

end Sys2Proof.Machine
end

section
/-! ## Halting (R120, R140, R166) -/

namespace Sys2Proof.Machine

/-- R120: the scan timing unit as a halt leaves it. -/
def ScanTiming.halted (v : ScanTiming) : ScanTiming :=
  if v.scanner = .fault ∨ v.scanner = .stopped then v
  else { v with
    scanner := .stopped, spinUp := .stopped, missing := .stopped, idle := .stopped
    facet := none, acq := 0, badRun := 0 }

/-- R120, R140: a halt stops a scanner that runs and turns every channel off. -/
theorem State.haltScanner_eq (s : State) :
    s.haltScanner = { s with stu := s.stu.halted, lcu := s.lcu.map LaserUnit.off } := by
  unfold State.haltScanner ScanTiming.halted
  cases hscan : s.stu.scanner
  case stopped | fault => rfl
  all_goals rfl

/-- R166: the part from its aborted exposure on, when the flag is clear. -/
theorem State.halt_eq {s : State} (h : s.gc.halted = false) : s.halt =
    State.raise { s.abort .eStop with
      gc := { (s.abort .eStop).gc with halted := true }
      stu := s.stu.halted
      lcu := (s.abort .eStop).lcu.map LaserUnit.off } .halt := by
  unfold State.halt
  rw [if_neg (by simp [h])]
  dsimp only
  rw [State.haltScanner_eq, State.withGc_stu, State.abort_stu]
  rfl

/-- R120, R140: the scanner and the channels after a halt, the channels' outputs having dropped before or not. -/
theorem State.haltLeaves_of {s t : State} (hflag : t.gc.halted = true) (hstu : t.stu = s.stu.halted) {a : State}
    (hlcu : t.lcu = a.lcu.map LaserUnit.off) (ha : ∀ c, (s.lcu.get c).keptOrDark (a.lcu.get c)) :
    s.haltLeaves t := by
  have hunit (c : Channel) : t.lcu.get c =
      { s.lcu.get c with state := .off, samples := 0, band := 0, drift := false, sweep := .rest } := by
    rw [hlcu, Rgb.get_map]
    rcases ha c with h | h <;> rw [h] <;> rfl
  refine ⟨hflag, ?_, ?_, fun h => ?_, fun h => ?_, hunit⟩ <;> rw [hstu] <;> unfold ScanTiming.halted
  · split <;> rfl
  · by_cases hfault : s.stu.scanner = .fault
    · simp [hfault]
    · by_cases hstopped : s.stu.scanner = .stopped <;> simp [hfault, hstopped]
  · rw [if_neg (by simp [h.1, h.2])]
    exact ⟨rfl, rfl, rfl, rfl, rfl, rfl⟩
  · rw [if_pos h]

/-- R166: what a halt makes of the part. -/
theorem State.halt_haltedFrom (s : State) : s.haltedFrom s.halt := by
  refine ⟨fun h => by rw [State.halt, if_pos h], fun h => ?_⟩
  have hleaves : s.haltLeaves s.halt := by
    rw [State.halt_eq h]
    exact State.haltLeaves_of rfl rfl rfl fun c => s.abort_get .eStop c
  cases hx : s.exposure? with
  | none =>
    rw [State.halt_eq h, State.abort_none hx] at hleaves ⊢
    exact ⟨hleaves, rfl, rfl, rfl, rfl, rfl, rfl, rfl,
      fun _ => ⟨rfl, rfl, rfl, rfl, rfl, State.raisedOnly_raise (es := []) s.raisedOnly_refl .halt⟩, nofun⟩
  | some x =>
    obtain ⟨habort, hkeeps, hmag, hlive, hraised, -⟩ := State.abort_leaves s x .eStop hx nofun
    obtain ⟨-, -, hdbi, hport, hoptics, hcs, hpins, -⟩ := hkeeps
    obtain ⟨hgate, hadvance, hexpected, hcount, hroll, hfq, hfetch, hslot, hother⟩ := habort
    rw [State.halt_eq h] at hleaves ⊢
    refine ⟨hleaves, hdbi, hport, hoptics, hcs, hpins, hmag, hlive, nofun, fun y hy => ?_⟩
    obtain rfl := Option.some.inj hy
    exact ⟨⟨hgate, hadvance, hexpected, hcount, hroll, hfq, hfetch, hslot, hother⟩,
      State.raisedOnly_raise (State.raisedOnly_of_au hraised rfl) .halt⟩

theorem senderValid_of_takes {s : State} {a : Addr} (h : s.takes a = true) :
    s.receives = true ∧ senderValid a = true := Bool.and_eq_true_iff.mp h

/-- R187: a broadcast that is received; its tenure ends when the line has been idle. -/
theorem broadcastMessage_taken {s : State} {a : Addr} (h : s.takes a = true) (k : Byte) :
    exec (.broadcastMessage a k) s = .next (s.takeBroadcast a k).awaitIdle := by
  obtain ⟨hreceives, hvalid⟩ := senderValid_of_takes h
  exact (if_pos hreceives).trans (if_pos hvalid)

theorem State.halt_dbi (s : State) : s.halt.dbi = s.dbi := congrArg Prod.fst s.halt_outer

/-! ### RESUME -/

/-- R110: of the scan timing unit a wake that is due makes SPINNING_UP, its settings kept. -/
theorem State.wakeIfDue_stu (s : State) (h : s.gc.halted = false) :
    s.wakeIfDue.stu.scanner =
      (if s.stu.scanner = .stopped ∧ s.hasImageEntry = true then .spinningUp else s.stu.scanner) ∧
    s.wakeIfDue.stu.settings = s.stu.settings := by
  unfold State.wakeIfDue
  rw [h]
  by_cases hdue : s.stu.scanner = .stopped ∧ s.hasImageEntry = true
  · simp [hdue, State.wake]
  · rw [if_neg (by simpa using hdue), if_neg hdue]
    exact ⟨rfl, rfl⟩

/-- R156, R159: a start leaves the magazine record. -/
theorem State.startIfDue_magazine (b s : State) : (State.startIfDue b s).gc.magazine = s.gc.magazine := by
  have hreject : s.rejectStock.gc.magazine = s.gc.magazine := congrArg (·.1.magazine) s.rejectStock_film
  unfold State.startIfDue
  split
  · unfold State.frameStart
    repeat' split
    any_goals rfl
    all_goals exact hreject
  · split
    · unfold State.runoutStart
      repeat' split
      any_goals rfl
      · have hend (t : State) (k : Nat) :
            (((t.headRunOut k).advanceFilm k).raise .advance).filmEnd.gc.magazine = t.gc.magazine := by
          have hfilm := congrArg (·.1.magazine) (((t.headRunOut k).advanceFilm k).raise .advance).filmEnd_film
          exact hfilm.trans (congrArg (·.1.magazine) (t.headRunOut_film k))
        exact (hend _ _).trans (State.appendBlank_gateKept _ _ _ s).magazine
    · rfl

/-- The end of an event leaves the magazine record and the halted flag. -/
theorem State.settle_gc (b s : State) :
    (State.settle b s).gc.halted = s.gc.halted ∧ (State.settle b s).gc.magazine = s.gc.magazine := by
  have hquiet (t : State) : t.quiesce.gc.halted = t.gc.halted ∧ t.quiesce.gc.magazine = t.gc.magazine := by
    obtain ⟨g, f, c, hline⟩ := t.beginLine_shape
    have hgc : t.quiesce.gc = t.beginLine.gc := congrArg Prod.fst t.quiesce_film
    rw [hgc, hline]
    exact ⟨rfl, rfl⟩
  unfold State.settle
  rw [(hquiet _).1, (hquiet _).2, State.recordsEnd_gc]
  exact ⟨State.startIfDue_halted b s, State.startIfDue_magazine b s⟩

theorem State.settle_stu (b s : State) : ∃ i, (State.settle b s).stu = { s.stu with idle := i } := by
  obtain ⟨i, h⟩ := State.quiesce_stu (State.recordsEnd b (State.startIfDue b s))
  exact ⟨i, by rw [State.settle, h, State.recordsEnd_stu, State.startIfDue_stu]⟩

/-- An event at which the gate is not READY and nothing is exposed leaves the film and serves no read. -/
theorem State.settle_unready {b s : State} (hgate : s.gateReady = false) (hx : s.exposure? = none)
    (hport : s.port = b.port) : (State.settle b s).film = s.film ∧ (State.settle b s).port = s.port := by
  have hsettle : State.settle b s = s.quiesce := by
    rw [State.settle, State.startIfDue_unready hgate, State.recordsEnd, if_pos (by rw [hport])]
  rw [hsettle]
  exact ⟨State.quiesce_film_ended hx, congrArg (·.2.1) s.quiesce_outer⟩

/-- R167: what RESUME makes of a halted part. -/
theorem State.resume_leaves {s : State} (h : s.gc.halted = true) :
    s.resume.gc.halted = false ∧ s.resume.gc.magazine = s.gc.magazine ∧
    s.resume.stu.scanner =
      (if s.stu.scanner = .stopped ∧ s.hasImageEntry = true then .spinningUp else s.stu.scanner) ∧
    s.resume.stu.settings = s.stu.settings ∧
    s.resume.dbi = s.dbi ∧ s.resume.optics = s.optics ∧ s.resume.lcu = s.lcu ∧ s.resume.pins = s.pins ∧
    (s.port.waiting = none → s.resume.port = s.port) ∧
    (s.gateReady = false → s.exposure? = none →
      s.resume.gc = { s.gc with halted := false } ∧ s.resume.rm = s.rm ∧ s.resume.port = s.port) := by
  rw [State.resume, if_pos h]
  obtain ⟨hscanner, hsettings⟩ := (s.withGc { s.gc with halted := false }).wakeIfDue_stu rfl
  have hfilm := (s.withGc { s.gc with halted := false }).wakeIfDue_film
  have houter := (s.withGc { s.gc with halted := false }).wakeIfDue_outer
  have hlcu := (s.withGc { s.gc with halted := false }).wakeIfDue_lcu
  have hpins := (s.withGc { s.gc with halted := false }).wakeIfDue_pins
  generalize (s.withGc { s.gc with halted := false }).wakeIfDue = w at hscanner hsettings hfilm houter hlcu hpins
  have hgc : w.gc = { s.gc with halted := false } := congrArg Prod.fst hfilm
  obtain ⟨hhalted, hmag⟩ := State.settle_gc s w
  obtain ⟨i, hstu⟩ := State.settle_stu s w
  have hport : w.port = s.port := congrArg (·.2.1) houter
  have hbus := State.settle_bus s w
  refine ⟨by rw [hhalted, hgc], by rw [hmag, hgc], by rw [hstu]; exact hscanner, by rw [hstu]; exact hsettings,
    (congrArg (·.1) hbus).trans (congrArg (·.1) houter), (congrArg (·.2.1) hbus).trans (congrArg (·.2.2.1) houter),
    (State.settle_lcu s w).trans hlcu, (State.settle_pins s w).trans hpins, fun hwait => ?_, fun hready hx => ?_⟩
  · exact (congrArg (·.2.1) (State.settle_outer s (by rw [hport, hwait]))).trans hport
  · have hgate : w.gateReady = false := by rwa [State.gateReady, hgc]
    have hended : w.exposure? = none := by rwa [State.exposure?, hgc]
    obtain ⟨hstands, hserved⟩ := State.settle_unready (b := s) hgate hended hport
    exact ⟨(congrArg Prod.fst hstands).trans hgc, (congrArg Prod.snd hstands).trans (congrArg Prod.snd hfilm),
      hserved.trans hport⟩

/-! ### The settling of O9 -/

/-- Settles O9: every halting event is one State.halt, and RESUME clears the flag, wakes and ends its event. -/
theorem haltAndResume : Obligations.HaltAndResume := by
  refine ⟨⟨fun a s htakes hrole => ?_, fun a s htakes hrole => ⟨?_, ?_⟩, fun a s htakes hrole => ?_, fun s hrun => ?_⟩,
    fun s => rfl, fun a s htakes hrole => ⟨fun hlow => ?_, fun hhigh hclear => ?_, fun hhigh hhalted => ?_⟩⟩
  · refine ⟨s.halt, (onMessage_taken _ _ _ _ s htakes).trans ?_, s.halt_haltedFrom⟩
    have hmaster : (roleOf a).isMaster = true := decide_eq_true hrole
    simp only [decideEStop, hmaster, Bool.not_true, Bool.false_eq_true, if_false]
    rfl
  · refine (onMessage_taken _ _ _ _ s htakes).trans ?_
    simp only [decideEStop, hrole]
    rfl
  · rw [broadcastMessage_taken htakes, State.takeBroadcast, if_neg (by simp [hrole, Role.isMaster])]
    rfl
  · refine ⟨s.halt, ?_, s.halt_haltedFrom⟩
    rw [broadcastMessage_taken htakes, State.takeBroadcast, if_pos ⟨rfl, decide_eq_true hrole⟩, ← s.halt_dbi]
    rfl
  · exact ⟨(s.withEstop true).halt, if_neg (by simp [hrun]), State.halt_haltedFrom _⟩
  · refine (onMessage_taken _ _ _ _ s htakes).trans ?_
    simp only [decideResume, hrole, ne_eq, not_true_eq_false, if_false, hlow, if_true]
    rfl
  · refine (onMessage_taken _ _ _ _ s htakes).trans ?_
    simp only [decideResume, hrole, ne_eq, not_true_eq_false, if_false, hhigh, Bool.false_eq_true, State.resume, hclear]
    rfl
  · refine ⟨s.resume, (onMessage_taken _ _ _ _ s htakes).trans ?_, State.resume_leaves hhalted⟩
    simp only [decideResume, hrole, ne_eq, not_true_eq_false, if_false, hhigh, Bool.false_eq_true]
    rfl

end Sys2Proof.Machine
end

section
/-! ## The settling of O11 and O12: GATE_FAULT, ABORT_FRAME and the magazine -/

namespace Sys2Proof.Machine

theorem State.raise_raisedOnly {s t : State} (hau : t.au = s.au) (e : Event) : s.raisedOnly (t.raise e) [e] :=
  State.raisedOnly_raise (es := []) (State.raisedOnly_of_au s.raisedOnly_refl hau) e

/-- Settles O11: both messages are an abort of the exposure in the gate, or a change of the gate alone. -/
theorem abortFrameAndGateFault : Obligations.AbortFrameAndGateFault := by
  refine ⟨fun a s htakes => ⟨fun hrole => ?_, fun hrole => ⟨fun hx => ?_, fun x hx => ?_⟩⟩,
    fun a s htakes => ⟨fun hrole => ?_, fun hrole => ⟨fun hgate => ?_, fun hgate => ?_, fun x hgate => ?_,
      fun hgate => ?_⟩⟩⟩
  · refine (onMessage_taken _ _ _ _ s htakes).trans ?_
    rw [decideAbortFrame, if_pos hrole, refuse_replied]
  · refine (onMessage_taken _ _ _ _ s htakes).trans ?_
    simp only [decideAbortFrame, hrole, ne_eq, not_true_eq_false, if_false, hx]
    rfl
  · obtain ⟨hleaves, hkeeps, hmag, hlive, hraised, -⟩ := State.abort_leaves s x .aborted hx nofun
    refine ⟨s.abort .aborted, (onMessage_taken _ _ _ _ s htakes).trans ?_, hleaves, hkeeps, hmag, hlive, hraised⟩
    simp only [decideAbortFrame, hrole, ne_eq, not_true_eq_false, if_false, hx]
    rfl
  · refine (onMessage_taken _ _ _ _ s htakes).trans ?_
    rw [decideGateFault, if_pos hrole, refuse_replied]
  · refine (onMessage_taken _ _ _ _ s htakes).trans ?_
    simp only [decideGateFault, hrole, ne_eq, not_true_eq_false, if_false, hgate]
    rfl
  · refine (onMessage_taken _ _ _ _ s htakes).trans ?_
    simp only [decideGateFault, hrole, ne_eq, not_true_eq_false, if_false, hgate]
    rfl
  · obtain ⟨⟨hleft, hrest⟩, hkeeps, hmag, hlive, hraised, -⟩ :=
      State.abort_leaves s x .gateFault (State.exposure?_eq_some.mpr hgate) nofun
    refine ⟨(s.abort .gateFault).raise .gate, (onMessage_taken _ _ _ _ s htakes).trans ?_, ⟨hleft, hrest⟩, hkeeps, hmag,
      hlive, State.raisedOnly_raise hraised .gate⟩
    simp only [decideGateFault, hrole, ne_eq, not_true_eq_false, if_false, hgate]
    rfl
  · refine ⟨(s.withGate .fault).raise .gate, (onMessage_taken _ _ _ _ s htakes).trans ?_, rfl,
      State.raise_raisedOnly rfl .gate⟩
    have hopen : decideGateFault .transport (.fits ()) s = accept ((s.withGate .fault).raise .gate) .none := by
      rcases hgate with h | h | h
      · simp only [decideGateFault, ne_eq, not_true_eq_false, if_false, h]
      · unfold State.gateReady at h
        cases hg : s.gc.gate <;> simp only [hg, Bool.false_eq_true] at h
        simp only [decideGateFault, ne_eq, not_true_eq_false, if_false, hg]
      · simp only [decideGateFault, ne_eq, not_true_eq_false, if_false, h]
    rw [hrole, hopen]
    rfl

/-- R149: a tag is recognized by the values of its fields; the clamp makes no capacity 0. -/
theorem TagArgs.recognized_iff (g : TagArgs) : g.stored.recognized = decide (g.stock ≠ 0 ∧ g.stock ≠ 65535 ∧
    g.capacity ≠ 0 ∧ (g.perforation = 2 ∨ g.perforation = 3 ∨ g.perforation = 4)) := by
  have hcapacity : min g.capacity Config.maxRecords ≠ 0 ↔ g.capacity ≠ 0 := by
    have : 0 < Config.maxRecords := by decide
    omega
  simp only [MagazineTag.recognized, TagArgs.stored, hcapacity]

/-- R149: the messages to a part that holds a magazine are refused. -/
theorem decideMagLoad_present {s : State} {g : TagArgs} {p : List Byte} (hp : parseTag p = some g)
    (h : s.gc.magazine ≠ .absent) : decideMagLoad .transport p s = refuse s .state := by
  simp only [decideMagLoad, ne_eq, not_true_eq_false, if_false, hp]
  cases hmag : s.gc.magazine with
  | absent => exact absurd hmag h
  | loaded | unrecognized => rfl

/-- Settles O12: a magazine is taken by its tag, and given back by the magazine record, an exposure being aborted
first. -/
theorem magazineLoadsAndUnloads : Obligations.MagazineLoadsAndUnloads := by
  refine ⟨fun a p g s htakes hrole hp => ⟨fun hmag => ?_, fun hmag => ?_⟩,
    fun a s htakes => ⟨fun hrole => ?_, fun hrole => ⟨fun hmag => ?_, fun g hmag => ?_, fun g hmag hx => ?_,
      fun g x hmag hx => ?_⟩⟩⟩
  · refine (onMessage_taken _ _ _ _ s htakes).trans ?_
    rw [hrole, decideMagLoad_present hp hmag, refuse_replied]
  · have hdecided : decideMagLoad (roleOf a) p s =
        accept (s.takeMagazine g.stored) (.bytes (magLoadBytes (s.takeMagazine g.stored).gc.magazine g)) := by
      simp only [decideMagLoad, hrole, ne_eq, not_true_eq_false, if_false, hp, hmag]
    have hclamp : beBytes 1 (decide (Config.maxRecords < g.capacity)).toNat =
        beBytes 1 (if 32768 < g.capacity then 1 else 0) := by
      by_cases h : 32768 < g.capacity <;> simp [Config.maxRecords, h]
    dsimp only
    rw [← g.recognized_iff]
    cases hknown : g.stored.recognized with
    | true =>
      have htake : s.takeMagazine g.stored = (s.loadMagazine g.stored).raise .magazine := by
        rw [State.takeMagazine, if_pos hknown]
      refine ⟨_, (onMessage_taken _ _ _ _ s htakes).trans ?_, State.raise_raisedOnly (t := s.loadMagazine g.stored) rfl _,
        fun _ => rfl, nofun⟩
      rw [hdecided, htake, magLoadBytes, hclamp]
      rfl
    | false =>
      have htake : s.takeMagazine g.stored = (s.holdMagazine g.stored).raise .magazine := by
        rw [State.takeMagazine, if_neg (by simp [hknown])]
      refine ⟨_, (onMessage_taken _ _ _ _ s htakes).trans ?_, State.raise_raisedOnly (t := s.holdMagazine g.stored) rfl _,
        nofun, fun _ => rfl⟩
      rw [hdecided, htake, magLoadBytes, hclamp]
      rfl
  · refine (onMessage_taken _ _ _ _ s htakes).trans ?_
    rw [decideMagUnload, if_pos hrole, refuse_replied]
  all_goals
    have hdecided : decideMagUnload (roleOf a) (.fits ()) s = accept s.unloadMagazine .none := by
      simp only [decideMagUnload, hrole, ne_eq, not_true_eq_false, if_false]
  · refine (onMessage_taken _ _ _ _ s htakes).trans ?_
    rw [hdecided, State.unloadMagazine, hmag]
    rfl
  · have hunload : s.unloadMagazine = (s.withGc { s.gc with magazine := .absent }).raise .magazine := by
      rw [State.unloadMagazine, hmag]
    exact ⟨s.unloadMagazine, (onMessage_taken _ _ _ _ s htakes).trans (by rw [hdecided]; rw [hunload]; rfl),
      by rw [hunload]; rfl, by rw [hunload]; exact State.raise_raisedOnly rfl _⟩
  all_goals
    have hunload : s.unloadMagazine = (((s.abort .magRemoved).withGc
        { (s.abort .magRemoved).gc with magazine := .absent, gate := .noFilm, advance := 0 }).withRm
        { (s.abort .magRemoved).rm with live := false }).raise .magazine := by
      rw [State.unloadMagazine, hmag]
  · rw [State.abort_none hx] at hunload
    exact ⟨s.unloadMagazine, (onMessage_taken _ _ _ _ s htakes).trans (by rw [hdecided, hunload]; rfl),
      by rw [hunload]; rfl, by rw [hunload]; exact State.raise_raisedOnly rfl _⟩
  · obtain ⟨⟨hgate, hadvance, hexpected, hcount, hroll, hrest⟩, hkeeps, -, -, hraised, -⟩ :=
      State.abort_leaves s x .magRemoved hx nofun
    refine ⟨s.unloadMagazine, (onMessage_taken _ _ _ _ s htakes).trans (by rw [hdecided, hunload]; rfl), ?_⟩
    rw [hunload]
    exact ⟨⟨rfl, rfl, hexpected, hcount, hroll, hrest⟩, hkeeps, rfl, rfl,
      State.raisedOnly_raise (State.raisedOnly_of_au hraised rfl) .magazine⟩

end Sys2Proof.Machine
end

section
/-! ## The records of an event and the port read that falls between them (R174 to R176) -/

namespace Sys2Proof.Machine

theorem slotOffset_eq (n : Nat) : slotOffset n = Config.mapBase + 32 * n := by
  simp only [slotOffset, Config.recordSize]

/-- R176: what an appended record and the read it may bring about leave of the film. -/
theorem State.recordWritten_film (s : State) (r : MapRecord) :
    (s.appendRecord r).recordWritten.gc = { s.gc with expected := s.gc.expected + 1 } ∧
    (s.appendRecord r).recordWritten.rm = { s.rm with count := s.rm.count + 1 } := by
  rw [State.recordWritten_gc, State.recordWritten_rm]
  exact ⟨rfl, rfl⟩

theorem State.appendUnknown_gc (n : Nat) (s : State) :
    (s.appendUnknown n).gc = { s.gc with expected := s.gc.expected + n } ∧
    (s.appendUnknown n).rm = { s.rm with count := s.rm.count + n } := by
  induction n generalizing s with
  | zero => exact ⟨rfl, rfl⟩
  | succ n ih =>
    obtain ⟨hgc, hrm⟩ := s.recordWritten_film (unknownRecord s.gc.expected)
    rw [State.appendUnknown, (ih _).1, (ih _).2, hgc, hrm, Nat.add_comm n 1, ← Nat.add_assoc, ← Nat.add_assoc]
    exact ⟨rfl, rfl⟩

theorem State.appendBlank_gc (e : Entry) (n q : Nat) (s : State) :
    (s.appendBlank e n q).gc = { s.gc with expected := s.gc.expected + n } ∧
    (s.appendBlank e n q).rm = { s.rm with count := s.rm.count + n } := by
  induction n generalizing s q with
  | zero => exact ⟨rfl, rfl⟩
  | succ n ih =>
    obtain ⟨hgc, hrm⟩ := s.recordWritten_film (blankRecord q e)
    rw [State.appendBlank, (ih _ _).1, (ih _ _).2, hgc, hrm, Nat.add_comm n 1, ← Nat.add_assoc, ← Nat.add_assoc]
    exact ⟨rfl, rfl⟩

theorem State.recordWritten_readByte (s : State) (a : Nat) : s.recordWritten.readByte a = s.readByte a :=
  State.readByte_congr _ _ _ (by simp) (by simp)

/-- R176: one record appended, with the port read it may bring about, writes its own slot alone. -/
theorem State.recordWritten_other (s : State) (r : MapRecord) {a : Nat}
    (ha : a < slotOffset s.rm.count ∨ slotOffset (s.rm.count + 1) ≤ a) :
    (s.appendRecord r).recordWritten.readByte a = s.readByte a := by
  obtain ⟨-, -, -, -, hother⟩ := s.appendRecord_spec r
  rw [State.recordWritten_readByte]
  exact hother a (by rw [slotOffset_eq] at ha ⊢; rw [slotOffset_eq] at ha; omega)

theorem State.recordWritten_canonical {s : State} (h : s.memoryCanonical) (r : MapRecord) :
    (s.appendRecord r).recordWritten.memoryCanonical := by
  obtain ⟨-, -, -, hwf, -⟩ := s.appendRecord_spec r
  rw [State.memoryCanonical, State.recordWritten_fmc]
  exact hwf h

/-- R176: the UNKNOWN records of an event write their own slots alone. -/
theorem State.appendUnknown_other (n : Nat) (s : State) {a : Nat}
    (ha : a < slotOffset s.rm.count ∨ slotOffset (s.rm.count + n) ≤ a) :
    (s.appendUnknown n).readByte a = s.readByte a := by
  induction n generalizing s with
  | zero => rfl
  | succ n ih =>
    obtain ⟨-, hrm⟩ := s.recordWritten_film (unknownRecord s.gc.expected)
    simp only [slotOffset_eq] at ha
    rw [State.appendUnknown, ih, State.recordWritten_other] <;> simp only [slotOffset_eq, hrm] <;> omega

/-- R175, R176: the slots of the UNKNOWN records of an event read as those records. -/
theorem State.appendUnknown_slots (n : Nat) (s : State) (h : s.memoryCanonical) (hroom : s.rm.count + n ≤ 32768) :
    ∀ i < n, (s.appendUnknown n).slotHolds (s.rm.count + i) (unknownRecord (s.gc.expected + i)) := by
  induction n generalizing s with
  | zero => exact nofun
  | succ n ih =>
    obtain ⟨hgc, hrm⟩ := s.recordWritten_film (unknownRecord s.gc.expected)
    have hlater := ih _ (State.recordWritten_canonical h (unknownRecord s.gc.expected))
      (by rw [hrm]; dsimp only; omega)
    rw [hgc, hrm] at hlater
    intro i hi
    rw [State.appendUnknown]
    cases i with
    | zero =>
      intro b hb
      have hfirst := State.slotHolds_append s (unknownRecord s.gc.expected) h
        (by simp only [Config.maxRecords]; omega) b hb
      simp only [Config.recordSize] at hb
      rw [State.appendUnknown_other _ _ (by rw [hrm]; left; simp only [slotOffset_eq]; omega),
        State.recordWritten_readByte]
      exact hfirst
    | succ i =>
      have := hlater i (by omega)
      dsimp only at this
      rwa [Nat.add_assoc, Nat.add_assoc, Nat.add_comm 1 i] at this

/-! ### The read in flight -/

/-- The bytes a read returns when it is served after the records up to an index: those records as they stand in the
second state, everything else as in the first. -/
def State.readAt (s t : State) (r : PortRequest) (served : Nat) (bytes : List Byte) : Prop :=
  bytes.length = r.length ∧ ∀ n < r.length, bytes.getD n 0 =
    if Config.mapBase ≤ r.offset + n ∧ r.offset + n < slotOffset served then t.readByte (r.offset + n)
    else s.readByte (r.offset + n)

/-- R176: m records have been appended from index first on: a read in flight has been served when it waited for no
more of them, and waits for the rest otherwise. -/
def State.readWaits (s t : State) (first m : Nat) : Prop :=
  (s.port.waiting = none → t.port = s.port) ∧
  ∀ r, s.port.waiting = some r → t.port.linkUp = s.port.linkUp ∧
    (max r.records 1 ≤ m → t.port.waiting = none ∧ ∃ bytes, t.port.lastRead = some ⟨r.offset, bytes⟩ ∧
      s.readAt t r (first + max r.records 1) bytes) ∧
    (m < max r.records 1 → t.port.waiting = some { r with records := r.records - m })

theorem State.serveWaiting_served {s : State} {r : PortRequest} (h : s.port.waiting = some r) :
    s.serveWaiting.port = ⟨s.port.linkUp, some ⟨r.offset, s.readBytes r.offset r.length⟩, none⟩ := by
  rw [State.serveWaiting_of_waiting h]
  rfl

/-- R176: the service of a read in flight, or its wait for one record fewer. -/
theorem State.recordWritten_waiting {s : State} {r : PortRequest} (h : s.port.waiting = some r) :
    s.recordWritten.port =
      if r.records ≤ 1 then ⟨s.port.linkUp, some ⟨r.offset, s.readBytes r.offset r.length⟩, none⟩
      else { s.port with waiting := some { r with records := r.records - 1 } } := by
  unfold State.recordWritten
  rw [h]
  dsimp only
  split
  · exact State.serveWaiting_served h
  · rfl

theorem State.appendUnknown_idle (n : Nat) {s : State} (h : s.port.waiting = none) :
    (s.appendUnknown n).port = s.port := by
  induction n generalizing s with
  | zero => rfl
  | succ n ih =>
    have hport : (s.appendRecord (unknownRecord s.gc.expected)).recordWritten.port = s.port := by
      rw [State.recordWritten_idle (by rwa [State.appendRecord_port]), State.appendRecord_port]
    rw [State.appendUnknown, ih (by rw [hport, h]), hport]

/-- R176: the read in flight while UNKNOWN records are appended. -/
theorem State.appendUnknown_readWaits (n : Nat) (s : State) : s.readWaits (s.appendUnknown n) s.rm.count n := by
  refine ⟨State.appendUnknown_idle n, ?_⟩
  induction n generalizing s with
  | zero => exact fun r hr => ⟨rfl, fun h => by omega, fun _ => hr⟩
  | succ n ih =>
    intro r hr
    obtain ⟨-, hrm⟩ := s.recordWritten_film (unknownRecord s.gc.expected)
    have hfirst {a : Nat} := s.recordWritten_other (unknownRecord s.gc.expected) (a := a)
    have hport := State.recordWritten_waiting (s := s.appendRecord (unknownRecord s.gc.expected))
      (by rwa [State.appendRecord_port])
    rw [State.appendRecord_port, ← State.readBytes_congr (s := s.appendRecord (unknownRecord s.gc.expected))
      (congrArg MemoryController.mem (State.recordWritten_fmc _)) (congrArg MemoryController.epoch (State.recordWritten_fmc _))]
      at hport
    rw [State.appendUnknown]
    replace ih := ih (s.appendRecord (unknownRecord s.gc.expected)).recordWritten
    have hlater {a : Nat} := State.appendUnknown_other n
      (s.appendRecord (unknownRecord s.gc.expected)).recordWritten (a := a)
    have hidle := State.appendUnknown_idle n (s := (s.appendRecord (unknownRecord s.gc.expected)).recordWritten)
    generalize (s.appendRecord (unknownRecord s.gc.expected)).recordWritten = u at *
    simp only [hrm, slotOffset_eq] at hlater hfirst
    by_cases hone : r.records ≤ 1
    · rw [if_pos hone] at hport
      rw [hidle (by rw [hport]), hport]
      have hmax : max r.records 1 = 1 := by omega
      refine ⟨rfl, fun _ => ⟨rfl, _, rfl, u.readBytes_length _ _, fun i hi => ?_⟩, fun h => by omega⟩
      rw [u.readBytes_getD _ _ _ hi, hmax, slotOffset_eq]
      split
      next hin => exact (hlater (.inl (by omega))).symm
      next hout => exact hfirst (by omega)
    · rw [if_neg hone] at hport
      obtain ⟨hlink, hserved, hwaits⟩ := ih _ (by rw [hport])
      have hmax : max r.records 1 = r.records := by omega
      have hmax' : max (r.records - 1) 1 = r.records - 1 := by omega
      simp only [hmax', hrm] at hserved hwaits
      rw [hmax]
      refine ⟨hlink.trans (by rw [hport]), fun h => ?_, fun h => ?_⟩
      · obtain ⟨hnone, bytes, hread, hlength, hall⟩ := hserved (by omega)
        refine ⟨hnone, bytes, hread, hlength, fun i hi => ?_⟩
        rw [hall i hi]
        simp only [slotOffset_eq]
        by_cases hin : Config.mapBase ≤ r.offset + i ∧ r.offset + i < Config.mapBase + 32 * (s.rm.count + r.records)
        · rw [if_pos (by omega), if_pos hin]
        · rw [if_neg (by omega), if_neg hin]
          exact hfirst (by omega)
      · rw [hwaits (by omega)]
        have : r.records - 1 - n = r.records - (n + 1) := by omega
        rw [this]

/-- R176: at the end of the event's records a read that still waits is served. -/
theorem State.recordsEnd_readFalls {s t : State} {first m : Nat} (h : s.readWaits t first m)
    (hother : ∀ a, a < slotOffset first ∨ slotOffset (first + m) ≤ a → t.readByte a = s.readByte a)
    (hnone : m = 0 → t.port = s.port) :
    s.readFalls (State.recordsEnd s t) first m := by
  have hread (a : Nat) : (State.recordsEnd s t).readByte a = t.readByte a :=
    State.readByte_congr _ _ _ (by simp) (by simp)
  have hstands (hport : t.port = s.port) : State.recordsEnd s t = t := if_pos (by rw [hport])
  refine ⟨fun hno => ?_, fun r hr hm => ?_⟩
  · have hport : t.port = s.port := hno.elim hnone h.1
    rw [hstands hport, hport]
  · obtain ⟨hlink, hserved, hwaits⟩ := h.2 r hr
    simp only [hread]
    by_cases hdone : max r.records 1 ≤ m
    · obtain ⟨hidle, bytes, hlast, hbytes⟩ := hserved hdone
      rw [State.recordsEnd_idle s hidle, Nat.min_eq_left hdone]
      exact ⟨hlink, hidle, bytes, hlast, hbytes⟩
    · have hleft := hwaits (by omega)
      have hlate : State.recordsEnd s t = t.serveWaiting := by
        refine if_neg fun hsame => ?_
        rw [hleft, hr, Option.some.injEq, PortRequest.mk.injEq] at hsame
        omega
      rw [hlate, State.serveWaiting_served hleft, Nat.min_eq_right (by omega)]
      refine ⟨hlink, rfl, _, rfl, t.readBytes_length _ _, fun n hn => ?_⟩
      rw [t.readBytes_getD _ _ _ hn]
      simp only [slotOffset_eq] at hother ⊢
      split
      · rfl
      next hout => exact hother _ (by omega)

end Sys2Proof.Machine
end

section
/-! ## The settling of O38: GATE_READY registers the film -/

namespace Sys2Proof.Machine

theorem State.recordWritten_shape (s : State) (r : MapRecord) : ∃ m p, (s.appendRecord r).recordWritten = { s with
    gc := { s.gc with expected := s.gc.expected + 1 }, rm := { s.rm with count := s.rm.count + 1 },
    fmc := { s.fmc with mem := m }, port := p } := by
  obtain ⟨p, hport, -⟩ := (s.appendRecord r).recordWritten_port
  obtain ⟨m, happended⟩ := s.appendRecord_shape r
  rw [hport, happended]
  exact ⟨m, p, rfl⟩

/-- R175: UNKNOWN records touch the counts of the film, the bytes of frame memory and the port. -/
theorem State.appendUnknown_shape (n : Nat) (s : State) : ∃ m p, s.appendUnknown n = { s with
    gc := { s.gc with expected := s.gc.expected + n }, rm := { s.rm with count := s.rm.count + n },
    fmc := { s.fmc with mem := m }, port := p } := by
  induction n generalizing s with
  | zero => exact ⟨s.fmc.mem, s.port, rfl⟩
  | succ n ih =>
    obtain ⟨m, p, hone⟩ := s.recordWritten_shape (unknownRecord s.gc.expected)
    obtain ⟨m', p', hrest⟩ := ih (s.appendRecord (unknownRecord s.gc.expected)).recordWritten
    refine ⟨m', p', ?_⟩
    rw [State.appendUnknown, hrest, hone, ← Nat.add_assoc, ← Nat.add_assoc, Nat.add_right_comm, Nat.add_right_comm s.rm.count]

/-- R154: the film registered at a position, before any start. -/
def State.filmRegistered (s : State) (q : Nat) : State :=
  let t := State.appendUnknown (q - s.gc.expected) s
  t.withGc { t.gc with gate := .ready q, advance := 0 }

theorem State.registerFilm_eq (s : State) (q : Nat) : s.registerFilm q = State.settle s (s.filmRegistered q) := rfl

theorem State.filmRegistered_shape {s : State} {q : Nat} (h : s.gc.expected ≤ q) : ∃ m p, s.filmRegistered q = { s with
    gc := { s.gc with gate := .ready q, advance := 0, expected := q },
    rm := { s.rm with count := s.rm.count + (q - s.gc.expected) }, fmc := { s.fmc with mem := m }, port := p } := by
  obtain ⟨m, p, hunknown⟩ := s.appendUnknown_shape (q - s.gc.expected)
  refine ⟨m, p, ?_⟩
  rw [State.filmRegistered, hunknown]
  simp only [Nat.add_sub_cancel' h]
  rfl

theorem State.filmRegistered_tablesInRange {s : State} (h : s.tablesInRange) (q : Nat) :
    (s.filmRegistered q).tablesInRange :=
  (State.appendUnknown_follows (q - s.gc.expected) s).tablesInRange h

/-- R153: the tests of Table 8-5 in a gate state that is open to a GATE_READY. -/
theorem decideGateReady_open {s : State} (h : s.gc.gate = .advancing ∨ s.gateReady = true ∨ s.gc.gate = .fault)
    (q : Nat) : decideGateReady .transport (.fits q) s = decidePosition q s := by
  unfold decideGateReady State.gateReady at *
  cases hgate : s.gc.gate <;> simp [hgate] at h ⊢

/-- R153, R154: a GATE_READY that passes its tests registers the film. -/
theorem gateReady_taken {s : State} {a : Addr} {q : Nat} (htakes : s.takes a = true) (hrole : roleOf a = .transport)
    (hopen : s.gc.gate = .advancing ∨ s.gateReady = true ∨ s.gc.gate = .fault) (hpassed : s.gc.expected ≤ q)
    (hcapacity : q < s.capacity) : exec (.gateReady a (.fits q)) s = .next ((State.settle s (s.filmRegistered q)).replying
      (.gateReady a (.fits q)) a 0x32 .ok (.gateReady q (q - s.gc.expected))) := by
  refine (onMessage_taken _ _ _ _ s htakes).trans ?_
  rw [hrole, decideGateReady_open hopen, decidePosition, if_neg (by omega), if_neg (by omega), s.registerFilm_eq]
  rfl

theorem State.readFalls_congr {s t u : State} {first m : Nat} (h : s.readFalls t first m) (hport : u.port = t.port)
    (hmap : ∀ a, Config.mapBase ≤ a → u.readByte a = t.readByte a) : s.readFalls u first m := by
  refine ⟨fun hno => hport.trans (h.1 hno), fun r hr hm => ?_⟩
  obtain ⟨hlink, hidle, bytes, hread, hlength, hall⟩ := h.2 r hr hm
  rw [hport]
  refine ⟨hlink, hidle, bytes, hread, hlength, fun n hn => (hall n hn).trans ?_⟩
  split
  next hin => exact (hmap _ hin.1).symm
  next => rfl

theorem State.quiesce_port {s : State} (h : s.tablesInRange) : s.quiesce.port = s.port := by
  obtain ⟨g, st, f, p, c, m, a, b, i, hquiet, -⟩ := s.quiesce_shape h
  rw [hquiet]

theorem State.recordsEnd_tablesInRange {s : State} (h : s.tablesInRange) (b : State) :
    (State.recordsEnd b s).tablesInRange := by
  obtain ⟨p, hport, -⟩ := State.recordsEnd_port b s
  rw [hport]
  exact h

/-- R154, R175, R176: the film registered, no start due: what the end of the event leaves. -/
theorem State.filmRegistered_settled {s : State} {q : Nat}
    (hless : (s.filmRegistered q).startless) :
    State.settle s (s.filmRegistered q) = (State.recordsEnd s (s.filmRegistered q)).quiesce := by
  rw [State.settle, State.startIfDue, hless.1, hless.2]
  rfl

/-- R174, R175, R176: the records a GATE_READY appends, and the read in flight. -/
theorem State.filmRegistered_records {s : State} {q : Nat} (htables : s.tablesInRange) (hmemory : s.memoryCanonical)
    (hroom : s.rm.count + (q - s.gc.expected) ≤ 32768) :
    let u := (State.recordsEnd s (s.filmRegistered q)).quiesce
    (∀ i < q - s.gc.expected, u.slotHolds (s.rm.count + i) (unknownRecord (s.gc.expected + i))) ∧
    (∀ b, outsideSlots s.rm.count (q - s.gc.expected) b → u.readByte b = s.readByte b) ∧
    s.readFalls u s.rm.count (q - s.gc.expected) := by
  intro u
  have hended := State.recordsEnd_tablesInRange (s.filmRegistered_tablesInRange htables q) s
  have hfmc : (State.recordsEnd s (s.filmRegistered q)).fmc = (s.appendUnknown (q - s.gc.expected)).fmc :=
    State.recordsEnd_fmc _ _
  have hmap {b : Nat} (hb : Config.mapBase ≤ b) : u.readByte b = (s.appendUnknown (q - s.gc.expected)).readByte b := by
    obtain ⟨-, -, hquiet⟩ := State.quiesce_mapKept (State.mapKept_refl (State.recordsEnd s (s.filmRegistered q)))
    rw [hquiet b hb]
    exact State.readByte_congr _ _ b (by rw [hfmc]) (by rw [hfmc])
  refine ⟨fun i hi b hb => ?_, fun b hb => ?_, ?_⟩
  · rw [hmap (by rw [slotOffset_eq]; omega)]
    exact State.appendUnknown_slots _ s hmemory hroom i hi b hb
  · rw [hmap hb.1]
    exact State.appendUnknown_other _ s hb.2
  · refine State.readFalls_congr (State.recordsEnd_readFalls (t := s.filmRegistered q) ?_ (fun b hb => ?_) fun hm => ?_)
      (State.quiesce_port hended) fun b hb => ?_
    · exact s.appendUnknown_readWaits (q - s.gc.expected)
    · exact State.appendUnknown_other _ s hb
    · rw [State.filmRegistered, hm]
      rfl
    · exact (hmap hb).trans (State.readByte_congr _ _ b (by rw [hfmc]) (by rw [hfmc])).symm

/-- Settles O38: the tests by gate state, and the film registered where no start becomes due. -/
theorem gateReadyRegistersFilm : Obligations.GateReadyRegistersFilm := by
  refine fun a q s htakes hrole => ⟨fun hgate => ?_, fun hgate => ?_, fun hopen hlow => ?_, fun hopen hpassed hfull => ?_,
    fun hopen hpassed hcapacity hunstartable htables => ?_⟩
  · have hrefused : decideGateReady .transport (.fits q) s = refuse s .state := by
      unfold decideGateReady State.isExposing State.exposure? at *
      cases hg : s.gc.gate <;> simp [hg] at hgate ⊢
    refine (onMessage_taken _ _ _ _ s htakes).trans ?_
    rw [hrole, hrefused, refuse_replied]
  · refine (onMessage_taken _ _ _ _ s htakes).trans ?_
    simp only [decideGateReady, hrole, ne_eq, not_true_eq_false, if_false, hgate, refuse_replied]
  · refine ⟨s.raise .gate, (onMessage_taken _ _ _ _ s htakes).trans ?_, rfl, State.raise_raisedOnly rfl .gate⟩
    rw [hrole, decideGateReady_open hopen, decidePosition, if_pos hlow]
    rfl
  · refine (onMessage_taken _ _ _ _ s htakes).trans ?_
    rw [hrole, decideGateReady_open hopen, decidePosition, if_neg (by omega), if_pos hfull, refuse_replied]
  · have hless : (s.filmRegistered q).startless := by
      obtain ⟨m, p, hshape⟩ := State.filmRegistered_shape hpassed
      rw [hshape]
      rcases hunstartable with hhalted | hheld | ⟨hrunout, hframe⟩
      · exact State.startless_of_noStart (by simp [State.noStart, hhalted])
      · simp [State.startless, State.frameReady_eq, State.runoutReady, hheld]
      · exact State.startless_of_head hrunout hframe
    refine ⟨_, gateReady_taken htakes hrole hopen hpassed hcapacity, ?_⟩
    rw [State.filmRegistered_settled hless]
    obtain ⟨m, p, hshape⟩ := State.filmRegistered_shape hpassed
    obtain ⟨p', hended, -⟩ := State.recordsEnd_port s (s.filmRegistered q)
    have htables' := State.recordsEnd_tablesInRange (s.filmRegistered_tablesInRange htables q) s
    obtain ⟨hgc, hrm, hfq⟩ := State.quiesce_ended_kept
      (s := State.recordsEnd s (s.filmRegistered q)) (by rw [hended, hshape]; rfl) htables'
    obtain ⟨g, st, f, w, c, m', a', b', i, hquiet, -⟩ := State.quiesce_shape _ htables'
    refine ⟨?_, ?_, State.filmRegistered_records htables, ?_⟩
    · rw [hgc, hended, hshape]
      rfl
    · rw [hrm, hended, hshape]
      rfl
    · rw [hquiet, hended, hshape]
      exact ⟨rfl, rfl, rfl, rfl, rfl, rfl, rfl⟩

end Sys2Proof.Machine
end

section
/-! ## The refutation of O41: the channel freed at a runout start serves another requester before the port -/

namespace Sys2Proof.Machine

/-- A LOADED magazine with room for 40 frames. -/
def looseReadTag : MagazineTag := ⟨0x1234, 7, 40, 4⟩

/-- A STAGED runout of one frame, at the head. -/
def looseReadRunout : Entry := ⟨0, ⟨1, 1⟩, .staged, .runout 1⟩

/-- An entry behind it that has been REJECTED, while its staging walk still holds the frame memory channel. -/
def looseReadRejected : Entry := ⟨1, ⟨1, 2⟩, .rejected .checksum,
  .stored ⟨0, 256, 128, ⟨0, 0, 0⟩, 1, 0⟩ ⟨.p16, .rgb, false, false, none, 16, none, none, none⟩⟩

/-- An entry on the write-back list, whose marking waits for the channel; its table starts at byte 0. -/
def looseReadMarked : Entry := ⟨2, ⟨1, 3⟩, .queued,
  .stored ⟨0, 256, 128, ⟨0, 0, 0⟩, 1, 0⟩ ⟨.p16, .rgb, false, false, none, 0, none, none, some .cancelled⟩⟩

/-- The refuting state: the queue is held by a host's HOLD, the gate is READY, and a port read of byte 0 waits for two
records. No run reaches it, for the walk of an entry ends at the event that rejects it; the statement does not ask for
that. -/
def looseReadState : State := { State.reset with
  dbi := ⟨12, none, none, false⟩
  port := ⟨true, none, some ⟨0, 1, 2⟩⟩
  fmc := ⟨[(0, 1)], 0, none, none, none⟩
  fq := ⟨[looseReadRunout, looseReadRejected, looseReadMarked], ⟨false, false, false, true⟩, none, 3⟩
  sr := ⟨some ⟨1, ⟨1, 2⟩, 16, 0, [], 0, 0, 0, none, 0, none, .descriptor⟩, none, [⟨1, 3⟩], 0,
    ⟨some (.staging []), false, true, false⟩⟩
  gc := ⟨.loaded looseReadTag, .ready 0, 0, 0, false⟩
  rm := ⟨0, true, none⟩ }

theorem looseReadState_offersRunout : looseReadState.offersRunout looseReadRunout 1 looseReadTag := by
  refine ⟨rfl, rfl, rfl, rfl, by decide, rfl, by unfold State.memoryCanonical; decide, by unfold State.queueBounded; decide, ?_⟩
  unfold State.tablesInRange
  decide

/-- R34: the marking that the freed channel begins sets DONE in byte 0 before the read returns it. -/
theorem looseReadState_reads : ∃ u, exec (.release 1 (.fits ())) looseReadState = .next u ∧
    u.port.lastRead = some ⟨0, [0x04]⟩ := by
  refine ⟨_, rfl, ?_⟩
  decide

/-- Refutes O41: a RELEASE starts the runout; its entry leaves, the entry behind it begins leaving as well and its walk
is stopped; the channel so freed marks the descriptor at byte 0, and the port read that falls between the records finds
that byte changed, though it lies outside them. -/
theorem not_runoutStartAppendsBlanks : ¬ Obligations.RunoutStartAppendsBlanks := by
  intro h
  obtain ⟨-, hrelease, -⟩ := h
  obtain ⟨u, hexec, -, -, hfalls⟩ := (hrelease 1 0 1 looseReadRunout looseReadTag looseReadState (by decide) (by decide) rfl
    (fun q hq => by cases hq; rfl) (by decide) looseReadState_offersRunout
    (by unfold State.flatsNotRejected; decide)).1 rfl (by decide)
  obtain ⟨t, ht, hread⟩ := looseReadState_reads
  obtain ⟨-, -, bytes, hlast, -, hbytes⟩ := hfalls ⟨0, 1, 2⟩ rfl (by decide)
  rw [ht, Host.Outcome.next.injEq] at hexec
  subst hexec
  have hfound : bytes = [0x04] := congrArg PortRead.bytes (Option.some.inj (hlast.symm.trans hread))
  have hmarked := hbytes 0 (by decide)
  rw [hfound, if_neg (by decide)] at hmarked
  exact absurd hmarked (by decide)

end Sys2Proof.Machine
end

section
/-! ## The film in step with the map, and what makes no start due (R150, R152, R154, R156, R159) -/

namespace Sys2Proof.Machine
/-! ### The film in step -/

/-- The three agreements of the film, each kept by itself (R150, R152, R154). -/
structure State.FilmKept (s t : State) : Prop where
  positions : s.positionsAgree → t.positionsAgree
  loaded : s.filmLoaded → t.filmLoaded
  gate : s.gateAtExpected → t.gateAtExpected

theorem State.FilmKept.refl (s : State) : s.FilmKept s := ⟨id, id, id⟩

theorem State.FilmKept.trans {s t u : State} (h : s.FilmKept t) (k : t.FilmKept u) : s.FilmKept u :=
  ⟨k.positions ∘ h.positions, k.loaded ∘ h.loaded, k.gate ∘ h.gate⟩

theorem State.gatePosition?_congr {s t : State} (h : t.gc.gate = s.gc.gate) : t.gatePosition? = s.gatePosition? := by
  rw [State.gatePosition?, h, State.gatePosition?]

theorem State.GateKept.filmKept {s t : State} (h : s.GateKept t) (hexpected : t.gc.expected = s.gc.expected)
    (hcount : t.rm.count = s.rm.count) : s.FilmKept t := by
  refine ⟨fun hs => ?_, h.filmLoaded, fun hs q hq => ?_⟩
  · rw [State.positionsAgree, hexpected, hcount]
    exact hs
  · rw [hexpected]
    exact hs q (State.gatePosition?_congr h.gate ▸ hq)

theorem State.filmKept_of_film {s t : State} (h : t.film = s.film) : s.FilmKept t :=
  (State.gateKept_of_film h).filmKept (by rw [show t.gc = s.gc from congrArg Prod.fst h])
    (by rw [show t.rm = s.rm from congrArg Prod.snd h])

/-- R154: with no frame in the gate none stands beside the expected position. -/
theorem State.gateAtExpected_of_none {s : State} (h : s.gatePosition? = none) : s.gateAtExpected :=
  fun _ hq => absurd (h.symm.trans hq) nofun

theorem State.mapExposure_filmKept (s : State) {f : Exposure → Exposure} (hf : ∀ x, (f x).ctx.position = x.ctx.position) :
    s.FilmKept (s.mapExposure f) := by
  unfold State.mapExposure
  split
  next x hx =>
    refine ⟨id, fun hs _ => hs (by rw [hx]; exact nofun), fun hs q hq => hs q ?_⟩
    have hposition : some (f x).ctx.position = some q := hq
    rw [State.gatePosition?, hx, ← hposition, hf]
  all_goals exact .refl s

/-! ### An event that makes no start due -/

/-- R21: an entry that is offered for a start when it is the head. -/
def Entry.offered (e : Entry) : Bool := decide (e.state = .staged) && !e.leaving

theorem Entry.offered_iff (e : Entry) : e.offered = true ↔ e.state = .staged ∧ e.leaving = false := by
  simp [Entry.offered]

theorem State.headIsFrame_iff (s : State) :
    s.headIsFrame = true ↔ ∃ e, s.head? = some e ∧ e.offered = true ∧ e.isImage = true := by
  unfold State.headIsFrame Entry.offered
  cases s.head? with
  | none => simp
  | some e => simp [and_right_comm]

theorem State.headIsRunout_iff (s : State) :
    s.headIsRunout = true ↔ ∃ e, s.head? = some e ∧ e.offered = true ∧ e.isImage = false := by
  unfold State.headIsRunout Entry.offered Entry.isRunout
  cases s.head? with
  | none => simp
  | some e => simp [and_right_comm]

/-- The queue gives no start a condition it lacked: it is HELD, or it was released before and a head that is offered
was offered before with the same kind of body. -/
def State.HeadKept (s t : State) : Prop :=
  t.fq.held.any = true ∨ ((s.fq.held.any = true → t.fq.held.any = true) ∧
    ∀ e', t.head? = some e' → e'.offered = true →
    ∃ e, s.head? = some e ∧ e.offered = true ∧ e.isImage = e'.isImage)

theorem State.HeadKept.trans {s t u : State} (h : s.HeadKept t) (k : t.HeadKept u) : s.HeadKept u := by
  rcases k with k | ⟨khold, khead⟩
  · exact .inl k
  · rcases h with h | ⟨hhold, hhead⟩
    · exact .inl (khold h)
    · refine .inr ⟨khold ∘ hhold, fun e he ho => ?_⟩
      obtain ⟨e₁, he₁, ho₁, himage₁⟩ := khead e he ho
      obtain ⟨e₂, he₂, ho₂, himage₂⟩ := hhead e₁ he₁ ho₁
      exact ⟨e₂, he₂, ho₂, himage₂.trans himage₁⟩

theorem State.headKept_of_entry {s t : State} (hheld : t.fq.held = s.fq.held) (hhead : ∀ e', t.head? = some e' →
    e'.offered = true → ∃ e, s.head? = some e ∧ e.offered = true ∧ e.isImage = e'.isImage) : s.HeadKept t :=
  .inr ⟨by rw [hheld]; exact id, hhead⟩

theorem State.headKept_of_queue {s t : State} (hheld : t.fq.held = s.fq.held) (hes : t.fq.entries = s.fq.entries) :
    s.HeadKept t :=
  State.headKept_of_entry hheld fun e he ho => ⟨e, by rw [← he, State.head?, State.head?, hes], ho, rfl⟩

theorem State.headKept_of_fq {s t : State} (h : t.fq = s.fq) : s.HeadKept t :=
  State.headKept_of_queue (by rw [h]) (by rw [h])

/-- The event makes no start due and creates no exposure. -/
structure State.Quiet (s t : State) : Prop extends State.FilmKept s t where
  frame : t.frameReady = true → s.frameReady = true
  runout : t.runoutReady = true → s.runoutReady = true
  exposes : t.isExposing = true → s.isExposing = true

theorem State.Quiet.refl (s : State) : s.Quiet s := ⟨.refl s, id, id, id⟩

theorem State.Quiet.trans {s t u : State} (h : s.Quiet t) (k : t.Quiet u) : s.Quiet u :=
  ⟨h.toFilmKept.trans k.toFilmKept, h.frame ∘ k.frame, h.runout ∘ k.runout, h.exposes ∘ k.exposes⟩

theorem State.Quiet.startless {s t : State} (h : s.Quiet t) (hs : s.startless) : t.startless :=
  ⟨Bool.eq_false_of_not_eq_true fun ht => absurd (hs.1.symm.trans (h.frame ht)) nofun,
    Bool.eq_false_of_not_eq_true fun ht => absurd (hs.2.symm.trans (h.runout ht)) nofun⟩

theorem State.noStartDue_iff (s : State) : s.noStartDue ↔ s.startless := by
  rw [State.noStartDue, State.startless, s.frameReady_eq, State.runoutReady]
  cases s.gateReady <;> cases s.gc.halted <;> cases s.fq.held.any <;> cases s.headIsRunout <;> simp [imp_iff_not_or, or_assoc]

/-- With no start possible after it, an event makes none due. -/
theorem State.Quiet.of_noStart {s t : State} (hfilm : s.FilmKept t) (hno : t.noStart = true)
    (hexposes : t.isExposing = true → s.isExposing = true) : s.Quiet t := by
  obtain ⟨hframe, hrunout⟩ := State.startless_of_noStart hno
  exact ⟨hfilm, fun h => absurd (hframe.symm.trans h) nofun, fun h => absurd (hrunout.symm.trans h) nofun, hexposes⟩

/-- An event that gives no start a condition it lacked makes none due. -/
theorem State.Quiet.of_parts {s t : State} (hfilm : s.FilmKept t) (hno : s.noStart = true → t.noStart = true)
    (hhead : s.HeadKept t)
    (hscan : t.isLocked = true → t.lasersReady = true → s.isLocked = true ∧ s.lasersReady = true)
    (hexposes : t.isExposing = true → s.isExposing = true) :
    s.Quiet t := by
  have hstart (h : t.noStart = false) : s.noStart = false :=
    Bool.eq_false_of_not_eq_true fun hs => absurd (h.symm.trans (hno hs)) nofun
  have hunheld (h : t.fq.held.any = false) : s.fq.held.any = false ∧ ∀ e', t.head? = some e' → e'.offered = true →
      ∃ e, s.head? = some e ∧ e.offered = true ∧ e.isImage = e'.isImage := by
    rcases hhead with hheld | ⟨hhold, hhead⟩
    · exact absurd (h.symm.trans hheld) nofun
    · exact ⟨Bool.eq_false_of_not_eq_true fun hs => absurd (h.symm.trans (hhold hs)) nofun, hhead⟩
  refine ⟨hfilm, fun h => ?_, fun h => ?_, hexposes⟩
  · rw [State.frameReady_eq] at h ⊢
    simp only [Bool.and_eq_true, Bool.not_eq_true'] at h ⊢
    obtain ⟨⟨⟨⟨⟨hgate, hhalted⟩, hheld⟩, hframe⟩, hlocked⟩, hready⟩ := h
    obtain ⟨hheld', hoffers⟩ := hunheld hheld
    have hgate' := hstart (by simp [State.noStart, hgate, hhalted])
    simp only [State.noStart, Bool.or_eq_false_iff, Bool.not_eq_false'] at hgate'
    obtain ⟨e', he', ho', himage'⟩ := t.headIsFrame_iff.mp hframe
    obtain ⟨e, he, ho, himage⟩ := hoffers e' he' ho'
    obtain ⟨hlocked', hready'⟩ := hscan hlocked hready
    exact ⟨⟨⟨⟨hgate', hheld'⟩, s.headIsFrame_iff.mpr ⟨e, he, ho, himage.trans himage'⟩⟩, hlocked'⟩, hready'⟩
  · unfold State.runoutReady at h ⊢
    simp only [Bool.and_eq_true, Bool.not_eq_true'] at h ⊢
    obtain ⟨⟨⟨hgate, hhalted⟩, hheld⟩, hrunout⟩ := h
    obtain ⟨hheld', hoffers⟩ := hunheld hheld
    have hgate' := hstart (by simp [State.noStart, hgate, hhalted])
    simp only [State.noStart, Bool.or_eq_false_iff, Bool.not_eq_false'] at hgate'
    obtain ⟨e', he', ho', himage'⟩ := t.headIsRunout_iff.mp hrunout
    obtain ⟨e, he, ho, himage⟩ := hoffers e' he' ho'
    exact ⟨⟨hgate', hheld'⟩, s.headIsRunout_iff.mpr ⟨e, he, ho, himage.trans himage'⟩⟩

theorem State.noStart_congr {s t : State} (h : t.gc = s.gc) : t.noStart = s.noStart := by
  simp only [State.noStart, State.gateReady, h]

/-- An event that leaves the film, the scanner and the channels alone, and keeps the head. -/
theorem State.Quiet.of_head {s t : State} (hfilm : t.film = s.film) (hstu : t.stu = s.stu) (hlcu : t.lcu = s.lcu)
    (hhead : s.HeadKept t) : s.Quiet t := by
  have hgc : t.gc = s.gc := congrArg Prod.fst hfilm
  refine .of_parts (State.filmKept_of_film hfilm) (by rw [State.noStart_congr hgc]; exact id) hhead ?_
    (by rw [State.isExposing_congr hfilm]; exact id)
  rw [State.isLocked, hstu, State.lasersReady, hlcu]
  exact fun hlock hready => ⟨hlock, hready⟩

theorem State.Quiet.of_core {s t : State} (hfilm : t.film = s.film) (hstu : t.stu = s.stu) (hlcu : t.lcu = s.lcu)
    (hfq : t.fq = s.fq) : s.Quiet t :=
  .of_head hfilm hstu hlcu (State.headKept_of_fq hfq)

/-! ### The head settled, and the end of an event -/

theorem HeldSet.any_add (h : HeldSet) (r : HeldReason) : (h.add r).any = true := by
  cases r <;> simp [HeldSet.add, HeldSet.any]

theorem State.addHeld_any (s : State) (r : HeldReason) : (s.addHeld r).fq.held.any = true := by
  obtain ⟨au, hadd, -⟩ := s.addHeld_spec r
  rw [hadd]
  exact s.fq.held.any_add r

theorem State.completeRejection_any (s : State) (e : Entry) (r : RejectReason) :
    (s.completeRejection e r).fq.held.any = true := by
  obtain ⟨au, hcompleted⟩ := s.completeRejection_shape e r
  rw [hcompleted]
  exact s.fq.held.any_add .rejected

theorem State.beginLeaving_held (s : State) (k : Key) (c : Completion) : (s.beginLeaving k c).fq.held = s.fq.held := by
  obtain ⟨ch, w, m, hleaving⟩ := s.beginLeaving_shape k c
  rw [hleaving]

theorem State.takeRejectedHead_any (n : Nat) {s : State} (h : s.fq.held.any = true) :
    (State.takeRejectedHead n s).fq.held.any = true := by
  induction n generalizing s with
  | zero => exact h
  | succ n ih =>
    unfold State.takeRejectedHead
    repeat' split
    · exact h
    · exact h
    · exact h
    · rw [State.beginLeaving_held]
      exact h
    · exact ih (State.completeRejection_any _ _ _)

/-- R15: a head is settled by staying, by beginning to leave, or by a removal that holds the queue. -/
theorem State.settleHead_or (s : State) : s.settleHead = s ∨
    (∃ e, s.head? = some e ∧ s.settleHead = s.beginLeaving e.key .rejected) ∨ s.settleHead.fq.held.any = true := by
  unfold State.settleHead
  generalize s.fq.entries.length = n
  cases n with
  | zero => exact .inl rfl
  | succ n =>
    unfold State.takeRejectedHead
    split
    · exact .inl rfl
    next e he =>
      repeat' split
      · exact .inl rfl
      · exact .inl rfl
      · exact .inr (.inl ⟨e, he, rfl⟩)
      · exact .inr (.inr (State.takeRejectedHead_any n (State.completeRejection_any _ _ _)))

/-- A changed entry at the head is offered only where it was before. -/
theorem headKept_changeEntry {s t : State} {k : Key} {f : Entry → Entry} (hheld : t.fq.held = s.fq.held)
    (hes : t.fq.entries = changeEntry s.fq.entries k f)
    (hf : ∀ e, (f e).offered = true → e.offered = true ∧ e.isImage = (f e).isImage) : s.HeadKept t := by
  refine State.headKept_of_entry hheld fun e' he' ho' => ?_
  unfold State.head? at he' ⊢
  rw [hes] at he'
  cases hs : s.fq.entries with
  | nil => rw [hs] at he'; exact nomatch he'
  | cons e es =>
    rw [hs, changeEntry] at he'
    refine ⟨e, rfl, ?_⟩
    split at he' <;> cases he'
    · exact hf e ho'
    · exact ⟨ho', rfl⟩

theorem Entry.isImage_mapStored (e : Entry) (f : StoredPart → StoredPart) : (e.mapStored f).isImage = e.isImage := by
  rcases e with ⟨n, k, st, ⟨i, p⟩ | ⟨i, v⟩ | m⟩ <;> rfl

theorem Entry.state_mapStored (e : Entry) (f : StoredPart → StoredPart) : (e.mapStored f).state = e.state := by
  unfold Entry.mapStored
  split <;> rfl

theorem Entry.leave_offered (c : Completion) (e : Entry) (h : (e.leave c).offered = true) :
    e.offered = true ∧ e.isImage = (e.leave c).isImage := by
  obtain ⟨hstate, hleaving⟩ := (Entry.offered_iff _).mp h
  rcases e with ⟨n, k, st, ⟨i, p⟩ | ⟨i, v⟩ | m⟩
  · unfold Entry.leave at hleaving
    split at hleaving <;> exact absurd hleaving nofun
  all_goals
    rw [Entry.leave, Entry.state_mapStored] at hstate
    have hstaged : st = .staged := by
      split at hstate
      · exact absurd hstate nofun
      · exact hstate
    subst hstaged
    exact ⟨rfl, rfl⟩

theorem State.beginLeaving_headKept (s : State) (k : Key) (c : Completion) : s.HeadKept (s.beginLeaving k c) := by
  obtain ⟨ch, w, m, hleaving⟩ := s.beginLeaving_shape k c
  exact headKept_changeEntry (s.beginLeaving_held k c) (by rw [hleaving]) (Entry.leave_offered c)

theorem State.settleHead_headKept (s : State) : s.HeadKept s.settleHead := by
  rcases s.settleHead_or with h | ⟨e, -, h⟩ | h
  · exact State.headKept_of_fq (by rw [h])
  · rw [h]
    exact s.beginLeaving_headKept _ _
  · exact .inl h

theorem State.settleHead_quiet (s : State) : s.Quiet s.settleHead :=
  .of_head s.settleHead_film s.settleHead_stu s.settleHead_lcu s.settleHead_headKept

/-- R12, R13: a walk that fails takes no entry to STAGED. -/
theorem State.stagingFailed_headKept (s : State) (g : Staging) (r : RejectReason) : s.HeadKept (s.stagingFailed g r) := by
  refine State.HeadKept.trans (headKept_changeEntry (s := s) (k := g.key) (f := (·.withState (.rejected r))) ?_ ?_ ?_)
    (State.settleHead_headKept _)
  · rfl
  · rfl
  · exact fun e he => absurd ((Entry.offered_iff _).mp he).1 nofun

theorem State.offerStaging_headKept (s : State) : s.HeadKept s.offerStaging := by
  unfold State.offerStaging State.walkToDescriptor
  repeat' split
  next => exact State.headKept_of_fq rfl
  next => exact s.stagingFailed_headKept _ _
  all_goals exact State.headKept_of_fq rfl

theorem State.beginLine_fq (s : State) : s.beginLine.fq = s.fq := by
  obtain ⟨g, f, c, hbegun⟩ := s.beginLine_shape
  rw [hbegun]

theorem State.channelOnly.fq {s t : State} (h : s.channelOnly t) : t.fq = s.fq := by
  obtain ⟨c, p, m, hshape⟩ := h
  rw [hshape]

theorem State.quiesce_headKept (s : State) : s.HeadKept s.quiesce := by
  refine (State.headKept_of_fq s.beginLine_fq).trans (s.beginLine.offerStaging_headKept.trans ?_)
  obtain ⟨i, hidle⟩ := s.beginLine.offerStaging.requestMarking.grant.updateIdle_shape
  refine State.headKept_of_fq ?_
  rw [State.quiesce, hidle]
  exact (State.grant_channelOnly _).fq.trans (State.requestMarking_channelOnly _).fq

theorem State.beginLine_filmKept (s : State) : s.FilmKept s.beginLine := by
  unfold State.beginLine
  repeat' split
  next =>
    exact (s.mapExposure_filmKept (f := (·.begin .fetching)) fun _ => rfl).trans
      (State.filmKept_of_film (State.requestLine_film _ _))
  next v _ => exact s.mapExposure_filmKept (f := (·.begin (.computing (flatSource v)))) fun _ => rfl
  all_goals exact .refl s

theorem State.quiesce_quiet (s : State) : s.Quiet s.quiesce := by
  have hkept : s.FilmKept s.quiesce := s.beginLine_filmKept.trans (State.filmKept_of_film s.quiesce_film)
  obtain ⟨i, hstu⟩ := s.quiesce_stu
  have hscan : s.quiesce.isLocked = true → s.quiesce.lasersReady = true → s.isLocked = true ∧ s.lasersReady = true := by
    rw [State.isLocked, hstu, State.lasersReady, s.quiesce_lcu]
    exact fun hlock hready => ⟨hlock, hready⟩
  cases hx : s.exposure? with
  | none =>
    have hfilm := State.quiesce_film_ended hx
    have hgc : s.quiesce.gc = s.gc := congrArg Prod.fst hfilm
    exact .of_parts hkept (by rw [State.noStart_congr hgc]; exact id) s.quiesce_headKept hscan
      (by rw [State.isExposing_congr hfilm]; exact id)
  | some x =>
    refine .of_noStart hkept ?_ fun _ => by rw [State.isExposing, hx]; rfl
    have hexposing : ∃ y, s.quiesce.exposure? = some y := by
      rcases State.quiesce_exposure? hx with hy | ⟨phase, hy⟩ <;> exact ⟨_, hy⟩
    obtain ⟨y, hy⟩ := hexposing
    rw [State.noStart, State.gateReady_of_exposure hy]
    rfl

end Sys2Proof.Machine
end

section
/-! ## Starts taken at the end of an event (R156 to R159) -/

namespace Sys2Proof.Machine

theorem State.gateReady_iff (s : State) : s.gateReady = true ↔ ∃ q, s.gc.gate = .ready q := by
  unfold State.gateReady
  cases s.gc.gate <;> simp

theorem State.frameReady_iff (s : State) : s.frameReady = true ↔
    s.noStart = false ∧ s.fq.held.any = false ∧ s.headIsFrame = true ∧ s.isLocked = true ∧ s.lasersReady = true := by
  rw [s.frameReady_eq, State.noStart]
  cases s.gateReady <;> cases s.gc.halted <;> cases s.fq.held.any <;> simp [and_assoc]

theorem State.noStart_eq_false_iff (s : State) : s.noStart = false ↔ (∃ q, s.gc.gate = .ready q) ∧ s.gc.halted = false := by
  rw [State.noStart, Bool.or_eq_false_iff, Bool.not_eq_false', s.gateReady_iff]

/-! ### The frame start -/

/-- R157: what a frame start of the head reads, and whether the stock codes agree. -/
theorem State.frameStart_eq {s : State} {e : Entry} {i : ImagePart} {v : SetContent} {tag : MagazineTag} {q : Nat}
    (hhead : s.head? = some e) (hgate : s.gc.gate = .ready q) (hi : e.image? = some i)
    (hv : (s.setAt i.set).ready? = some v) (htag : s.loadedTag? = some tag) :
    s.frameStart = if v.stock = tag.stock then s.beginExposure e i v q else s.rejectStock := by
  unfold State.frameStart
  simp only [hhead, hgate, hi, hv, htag]

/-- R157: a frame start begins an exposure of the head, or rejects it. -/
theorem State.frameStart_cases {s : State} (hgate : s.gateReady = true) (hframe : s.headIsFrame = true) :
    ∃ e i q, s.head? = some e ∧ e.offered = true ∧ e.image? = some i ∧ s.gc.gate = .ready q ∧
      ((∃ v tag, (s.setAt i.set).ready? = some v ∧ s.loadedTag? = some tag ∧ v.stock = tag.stock ∧
        s.frameStart = s.beginExposure e i v q) ∨
      (s.frameStart = s.rejectStock ∧ ∀ v tag, (s.setAt i.set).ready? = some v → s.loadedTag? = some tag →
        v.stock ≠ tag.stock)) := by
  obtain ⟨q, hready⟩ := s.gateReady_iff.mp hgate
  obtain ⟨e, hhead, hoffered, himage⟩ := s.headIsFrame_iff.mp hframe
  obtain ⟨i, hi⟩ := Option.isSome_iff_exists.mp himage
  refine ⟨e, i, q, hhead, hoffered, hi, hready, ?_⟩
  cases hv : (s.setAt i.set).ready? with
  | none => exact .inr ⟨by simp only [State.frameStart, hhead, hready, hi, hv], nofun⟩
  | some v =>
    cases htag : s.loadedTag? with
    | none => exact .inr ⟨by simp only [State.frameStart, hhead, hready, hi, hv, htag], fun _ _ _ => nofun⟩
    | some tag =>
      have hstart := State.frameStart_eq hhead hready hi hv htag
      by_cases hstock : v.stock = tag.stock
      · exact .inl ⟨v, tag, rfl, rfl, hstock, hstart.trans (if_pos hstock)⟩
      · refine .inr ⟨hstart.trans (if_neg hstock), fun w tag' hw htag' => ?_⟩
        cases hw
        cases htag'
        exact hstock

/-- R157: the head marked REJECTED at a start, before R15 applies. -/
def State.headRejected (s : State) : State :=
  s.withEntries (changeAt s.fq.entries 0 (·.withState (.rejected .stockMismatch)))

theorem State.rejectStock_eq (s : State) : s.rejectStock = s.headRejected.settleHead := rfl

theorem State.changeAt_head? {es : List Entry} (f : Entry → Entry) : (changeAt es 0 f).head? = es.head?.map f := by
  cases es <;> rfl

theorem State.headRejected_startless (s : State) : s.headRejected.startless := by
  have hnot {e : Entry} (he : s.headRejected.head? = some e) : e.offered = false := by
    unfold State.head? at he
    rw [State.headRejected, State.withEntries, State.withFq_fq, State.changeAt_head?, Option.map_eq_some_iff] at he
    obtain ⟨e, -, rfl⟩ := he
    rfl
  refine State.startless_of_head (Bool.eq_false_of_not_eq_true fun h => ?_)
    (.inl (Bool.eq_false_of_not_eq_true fun h => ?_))
  · obtain ⟨e, he, ho, -⟩ := (State.headIsRunout_iff _).mp h
    exact absurd ((hnot he).symm.trans ho) nofun
  · obtain ⟨e, he, ho, -⟩ := (State.headIsFrame_iff _).mp h
    exact absurd ((hnot he).symm.trans ho) nofun

theorem State.rejectStock_startless (s : State) : s.rejectStock.startless :=
  s.headRejected.settleHead_quiet.startless s.headRejected_startless

theorem State.beginExposure_exposure? (s : State) (e : Entry) (i : ImagePart) (v : SetContent) (q : Nat) :
    (s.beginExposure e i v q).exposure? = some (newExposure (newContext e i v q s.lcu)) := rfl

theorem State.frameStart_startless {s : State} (hgate : s.gateReady = true) (hframe : s.headIsFrame = true) :
    s.frameStart.startless := by
  obtain ⟨e, i, q, -, -, -, -, ⟨v, tag, -, -, -, h⟩ | ⟨h, -⟩⟩ := State.frameStart_cases hgate hframe
  · rw [h]
    exact State.startless_of_exposure (s.beginExposure_exposure? e i v q)
  · rw [h]
    exact s.rejectStock_startless

theorem State.frameStart_filmKept {s : State} (hgate : s.gateReady = true) (hframe : s.headIsFrame = true) :
    s.FilmKept s.frameStart := by
  obtain ⟨e, i, q, -, -, -, hq, ⟨v, tag, -, htag, -, h⟩ | ⟨h, -⟩⟩ := State.frameStart_cases hgate hframe
  · rw [h]
    refine ⟨id, fun _ _ => Option.isSome_iff_exists.mpr ⟨tag, htag⟩, fun hs p hp => hs p ?_⟩
    have hposition : some q = some p := hp
    rw [State.gatePosition?, hq]
    exact hposition
  · rw [h]
    exact State.filmKept_of_film s.rejectStock_film

/-! ### The runout start -/

/-- R159: the film after a runout start. -/
theorem State.runoutStart_film {s : State} {e : Entry} {n q : Nat} (hhead : s.head? = some e)
    (hgate : s.gc.gate = .ready q) (hbody : e.body = .runout n) :
    let k := min n (s.filmRemaining?.getD 0)
    ∃ g, (g = .filmOut ∨ g = .advancing) ∧
      s.runoutStart.gc = { s.gc with gate := g, expected := s.gc.expected + k, advance := k } ∧
      s.runoutStart.rm = { s.rm with count := s.rm.count + k } := by
  intro k
  have hgone : ((State.appendBlank e k q s).headRunOut k).film = (State.appendBlank e k q s).film :=
    State.headRunOut_film _ _
  obtain ⟨hgc, hrm⟩ := State.appendBlank_gc e k q s
  have hfilm : s.runoutStart.film = (((State.appendBlank e k q s).headRunOut k).advanceFilm k).film := by
    unfold State.runoutStart
    simp only [hhead, hgate, hbody]
    rw [State.filmEnd_film, State.raise_film]
  have hgc' : ((State.appendBlank e k q s).headRunOut k).gc = _ := (congrArg Prod.fst hgone).trans hgc
  have hrm' : ((State.appendBlank e k q s).headRunOut k).rm = _ := (congrArg Prod.snd hgone).trans hrm
  refine ⟨if ((State.appendBlank e k q s).headRunOut k).filmExhausted then .filmOut else .advancing, ?_, ?_, ?_⟩
  · split <;> simp
  · have hadvanced : s.runoutStart.gc = { ((State.appendBlank e k q s).headRunOut k).gc with
        gate := if ((State.appendBlank e k q s).headRunOut k).filmExhausted then .filmOut else .advancing
        advance := k } := congrArg Prod.fst hfilm
    rw [hadvanced, hgc']
  · rw [show s.runoutStart.rm = _ from congrArg Prod.snd hfilm, ← hrm']
    rfl

theorem State.runoutReady_iff (s : State) : s.runoutReady = true ↔ s.noStart = false ∧ s.fq.held.any = false ∧
    s.headIsRunout = true := by
  rw [State.runoutReady, State.noStart]
  cases s.gateReady <;> cases s.gc.halted <;> simp

theorem Entry.isImage_eq_false_iff (e : Entry) : e.isImage = false ↔ ∃ n, e.body = .runout n := by
  rcases e with ⟨n, k, st, ⟨i, p⟩ | ⟨i, v⟩ | m⟩ <;> simp [Entry.isImage, Entry.image?]

/-- R159: a runout start advances the film from the position it counts, and leaves none in the gate. -/
theorem State.runoutStart_cases {s : State} (hready : s.runoutReady = true) : s.FilmKept s.runoutStart ∧
    s.runoutStart.noStart = true := by
  obtain ⟨hstart, -, hrunout⟩ := s.runoutReady_iff.mp hready
  obtain ⟨⟨q, hgate⟩, -⟩ := s.noStart_eq_false_iff.mp hstart
  obtain ⟨e, hhead, -, himage⟩ := s.headIsRunout_iff.mp hrunout
  obtain ⟨n, hbody⟩ := e.isImage_eq_false_iff.mp himage
  obtain ⟨g, hg, hgc, hrm⟩ := State.runoutStart_film hhead hgate hbody
  refine ⟨⟨fun hs => ?_, fun hs _ => ?_, fun _ => State.gateAtExpected_of_none ?_⟩, ?_⟩
  · rw [State.positionsAgree, hgc, hrm]
    exact congrArg (· + _) hs
  · rw [State.loadedTag?, hgc]
    exact hs (by rw [hgate]; exact nofun)
  · rw [State.gatePosition?, hgc]
    rcases hg with rfl | rfl <;> rfl
  · rw [State.noStart, State.gateReady, hgc]
    rcases hg with rfl | rfl <;> rfl

/-! ### The start at the end of an event -/

/-- R156, R159, log entry 12: the start an event makes due, or none. -/
theorem State.startIfDue_cases (b s : State) :
    (s.frameReady = true ∧ b.frameReady = false ∧ State.startIfDue b s = s.frameStart) ∨
    (s.runoutReady = true ∧ b.runoutReady = false ∧ State.startIfDue b s = s.runoutStart) ∨
    (State.startIfDue b s = s ∧ (b.startless → s.startless)) := by
  unfold State.startIfDue State.startless
  cases s.frameReady <;> cases b.frameReady <;> cases s.runoutReady <;> cases b.runoutReady <;> simp

theorem State.startIfDue_startless {b : State} (s : State) (hb : b.startless) : (State.startIfDue b s).startless := by
  rcases State.startIfDue_cases b s with ⟨hready, -, h⟩ | ⟨hready, -, h⟩ | ⟨h, hkept⟩ <;> rw [h]
  · obtain ⟨hstart, -, hframe, -⟩ := s.frameReady_iff.mp hready
    exact State.frameStart_startless (s.gateReady_iff.mpr (s.noStart_eq_false_iff.mp hstart).1) hframe
  · exact State.startless_of_noStart (State.runoutStart_cases hready).2
  · exact hkept hb

theorem State.startIfDue_filmKept (b s : State) : s.FilmKept (State.startIfDue b s) := by
  rcases State.startIfDue_cases b s with ⟨hready, -, h⟩ | ⟨hready, -, h⟩ | ⟨h, -⟩ <;> rw [h]
  · obtain ⟨hstart, -, hframe, -⟩ := s.frameReady_iff.mp hready
    exact State.frameStart_filmKept (s.gateReady_iff.mpr (s.noStart_eq_false_iff.mp hstart).1) hframe
  · exact (State.runoutStart_cases hready).1
  · exact .refl s

theorem State.recordsEnd_quiet (b s : State) : s.Quiet (State.recordsEnd b s) := by
  obtain ⟨p, hport, -⟩ := State.recordsEnd_port b s
  exact .of_core (by rw [hport]; rfl) (by rw [hport]; rfl) (by rw [hport]; rfl) (by rw [hport]; rfl)

/-- What follows the start at the end of an event makes no start due. -/
theorem State.settle_quiet (b s : State) : (State.startIfDue b s).Quiet (State.settle b s) :=
  (State.recordsEnd_quiet b _).trans (State.quiesce_quiet _)

theorem State.settle_filmKept (b s : State) : s.FilmKept (State.settle b s) :=
  (State.startIfDue_filmKept b s).trans (State.settle_quiet b s).toFilmKept

theorem State.settle_startless {b : State} (s : State) (hb : b.startless) : (State.settle b s).startless :=
  (State.settle_quiet b s).startless (State.startIfDue_startless s hb)

end Sys2Proof.Machine
end

section
/-! ## What the end of its event makes of an exposure that has begun (R59, R60, R68, R122, R157) -/

namespace Sys2Proof.Machine

/-- R56: the item located is the first that holds the offset. -/
theorem locate_of_first {items : List StripItem} {n o : Nat} {it : StripItem} (hit : items[n]? = some it)
    (hstart : it.start ≤ o) (hend : o < it.start + it.length)
    (hbefore : ∀ m < n, ∀ jt, items[m]? = some jt → jt.start + jt.length ≤ o) (k : Nat) :
    locate items k o = some (k + n, o - it.start) := by
  induction items generalizing n k with
  | nil => exact nomatch hit
  | cons jt items ih =>
    cases n with
    | zero =>
      cases hit
      exact if_pos ⟨hstart, hend⟩
    | succ n =>
      have hpassed := hbefore 0 (Nat.zero_lt_succ n) jt rfl
      have hrest := ih (n := n) hit (fun m hm => hbefore (m + 1) (Nat.succ_lt_succ hm)) (k + 1)
      rw [locate, if_neg (by omega), hrest, Nat.add_right_comm, Nat.add_assoc]

/-- R59, R60: the fetch of line 0 stands at the source line's first byte. -/
theorem fetchesFirstLine_of_newFetch {t : State} {e : Entry} {i : ImagePart}
    (h : ∀ p, e.body = .stored i p → 0 < i.height → t.sr.fetch = some (newFetch e i p 0)) : t.fetchesFirstLine e i := by
  intro p hbody hheight source o
  refine ⟨_, h p hbody hheight, rfl, rfl, rfl, rfl, rfl, rfl, fun items n it hitems hit hstart hend hbefore => ?_⟩
  have hoffset : sourceLine p.flipV i.height 0 * i.width * p.format.bytes = o := by
    rcases p with ⟨format, order, flipH, flipV, checksum, table, stripMap, sum, completion⟩
    cases format <;> rfl
  have hplace : (locate (p.stripMap.getD []) 0 (sourceLine p.flipV i.height 0 * i.width * p.format.bytes)).getD (0, 0) =
      (n, o - it.start) := by
    rw [hitems, hoffset, Option.getD_some, locate_of_first hit hstart hend hbefore 0, Nat.zero_add, Option.getD_some]
  exact ⟨congrArg Prod.fst hplace, congrArg Prod.snd hplace⟩

/-- R157: an exposure of the head has been created and nothing has followed: the channel units its gains and limits were
latched from are those given. -/
structure State.Begun (w : State) (e : Entry) (i : ImagePart) (v : SetContent) (q : Nat) (lcu : Rgb LaserUnit) : Prop where
  gate : w.gc.gate = .exposing (newExposure (newContext e i v q lcu))
  head : w.head? = some (e.withState .exposing)
  image : e.image? = some i

/-- The exposure that has begun, its line 0 begun and fetched, and the part otherwise as it was. -/
structure State.Opened (w t : State) (x : Exposure) (e : Entry) (i : ImagePart) (v : SetContent) (q : Nat)
    (lcu : Rgb LaserUnit) : Prop where
  starts : x.startsAs e i v q
  latches : ∀ c, x.ctx.latchedFrom c (lcu.get c)
  fetches : t.fetchesFirstLine e i
  gc : t.gc = { w.gc with gate := .exposing x }
  stu : t.stu = { w.stu with idle := .stopped }
  outer : t.lcu = w.lcu ∧ t.dbi = w.dbi ∧ t.optics = w.optics ∧ t.pins = w.pins ∧ t.port = w.port
  rest : t.rm = w.rm ∧ t.fq = w.fq ∧ t.au = w.au ∧ t.cs = w.cs

theorem newContext_latchedFrom (e : Entry) (i : ImagePart) (v : SetContent) (q : Nat) (lcu : Rgb LaserUnit) (c : Channel) :
    (newContext e i v q lcu).latchedFrom c (lcu.get c) := by
  constructor <;> rw [newContext] <;> dsimp only <;> rw [Rgb.get_map]

theorem newExposure_startsAs {e : Entry} {i : ImagePart} (hheight : i.height = 0) (v : SetContent) (q : Nat)
    (lcu : Rgb LaserUnit) : (newExposure (newContext e i v q lcu)).startsAs e i v q := by
  refine ⟨rfl, rfl, ?_, rfl, rfl, rfl, rfl, rfl, rfl, rfl, rfl, rfl, rfl, rfl, rfl, rfl, rfl, fun h => absurd hheight (by omega)⟩
  simp [newExposure, newContext]

theorem newExposure_begin_startsAs {e : Entry} (i : ImagePart) (v : SetContent) (q : Nat) (lcu : Rgb LaserUnit)
    {phase : LinePhase} (hstored : e.isStored = true → phase = .fetching)
    (hflat : ∀ values, e.body = .flat i values → phase = .computing (flatSource values)) :
    ((newExposure (newContext e i v q lcu)).begin phase).startsAs e i v q := by
  refine ⟨rfl, rfl, ?_, rfl, rfl, rfl, rfl, rfl, rfl, rfl, rfl, rfl, rfl, rfl, rfl, rfl, rfl,
    fun _ => ⟨rfl, _, rfl, rfl, rfl, hstored, hflat⟩⟩
  simp [newExposure, newContext, Exposure.begin]

theorem State.lineDue_of_new {w : State} {e : Entry} {i : ImagePart} {x : Exposure} (hx : w.exposure? = some x)
    (hhead : w.head? = some e) (hi : e.image? = some i) (hline : x.line = none) (hnext : x.nextLine = 0)
    (hfifo : x.fifo = []) : w.lineDue x = decide (0 < i.height) := by
  rw [State.lineDue, State.frameHeight_of_head hx hhead hi, hline, hnext, hfifo]
  simp [Config.fifoCapacity]

/-- R68, R59: the fetch of a line that begins. -/
theorem State.quiesce_begunFetch {s : State} {x : Exposure} {e : Entry} {i : ImagePart} {p : StoredPart}
    (hx : s.exposure? = some x) (he : s.head? = some e) (hbody : e.body = .stored i p) (hdue : s.lineDue x = true) :
    s.quiesce.sr.fetch = some (newFetch e i p x.nextLine) := by
  have hentry := (State.exposingEntry?_of_exposure hx).trans he
  have hline : s.beginLine = (s.mapExposure (·.begin .fetching)).requestLine (newFetch e i p x.nextLine) := by
    unfold State.beginLine
    simp only [hx, hentry, hdue, if_true, hbody]
  rw [s.quiesce_fetch, hline]
  rfl

/-- R68, R157: the end of the event that begins an exposure begins its line 0. -/
theorem State.Begun.quiesce {w : State} {e : Entry} {i : ImagePart} {v : SetContent} {q : Nat} {lcu : Rgb LaserUnit}
    (h : w.Begun e i v q lcu) (htables : w.tablesInRange) : ∃ x, w.Opened w.quiesce x e i v q lcu := by
  have hx : w.exposure? = some (newExposure (newContext e i v q lcu)) := State.exposure?_eq_some.mpr h.gate
  have himage : (e.withState .exposing).image? = some i := h.image
  have hdue := State.lineDue_of_new hx h.head himage rfl rfl rfl
  have hstopped : w.quiesce.isExposing = true → w.quiesce.stu.idle = .stopped := State.updateIdle_stops ∘
    (State.updateIdle_scanKept _).exposing
  obtain ⟨g, st, f, p, c, m, a, b, j, hquiet, -⟩ := w.quiesce_shape htables
  have hopened {x : Exposure} (hx' : w.quiesce.exposure? = some x) (hstarts : x.startsAs e i v q)
      (hctx : x.ctx = newContext e i v q lcu) (hfetches : w.quiesce.fetchesFirstLine e i) :
      w.Opened w.quiesce x e i v q lcu := by
    have hidle := hstopped (by rw [State.isExposing, hx']; rfl)
    have hgate := State.exposure?_eq_some.mp hx'
    refine ⟨hstarts, fun c => hctx ▸ newContext_latchedFrom e i v q lcu c, hfetches, ?_, ?_, ?_, ?_⟩
    · rw [← hgate, hquiet]
    · rw [← hidle, hquiet]
    · rw [hquiet]
      exact ⟨rfl, rfl, rfl, rfl, rfl⟩
    · rw [hquiet]
      exact ⟨rfl, rfl, rfl, rfl⟩
  by_cases hheight : 0 < i.height
  · rw [decide_eq_true hheight] at hdue
    obtain ⟨phase, hbegun, hstored, hflat⟩ := State.quiesce_due hx h.head himage hdue
    refine ⟨_, hopened hbegun (newExposure_begin_startsAs i v q lcu (fun hs => (hstored hs).1) hflat) rfl ?_⟩
    exact fetchesFirstLine_of_newFetch fun p hbody _ => State.quiesce_begunFetch (e := e.withState .exposing) hx h.head hbody hdue
  · rw [decide_eq_false hheight] at hdue
    have hstands := (State.quiesce_notDue hx hdue).1
    exact ⟨_, hopened hstands (newExposure_startsAs (by omega) v q lcu) rfl
      (fetchesFirstLine_of_newFetch fun p _ hpos => absurd hpos hheight)⟩

theorem State.beginExposure_begun {s : State} {e : Entry} {i : ImagePart} (hhead : s.head? = some e)
    (hi : e.image? = some i) (v : SetContent) (q : Nat) : (s.beginExposure e i v q).Begun e i v q s.lcu := by
  refine ⟨rfl, ?_, hi⟩
  unfold State.head? at hhead ⊢
  rw [State.beginExposure, State.withEntries, State.withGate, State.withGc_fq, State.withFq_fq, State.changeAt_head?, hhead]
  rfl

theorem State.Begun.of_port {w : State} {e : Entry} {i : ImagePart} {v : SetContent} {q : Nat} {lcu : Rgb LaserUnit}
    (h : w.Begun e i v q lcu) (p : FramePort) : (w.withPort p).Begun e i v q lcu :=
  ⟨h.gate, h.head, h.image⟩

end Sys2Proof.Machine
end

section
/-! ## What an event makes of the film and of the starts (R156, R157, log entry 12) -/

namespace Sys2Proof.Machine
/-! ### An exposure begun by a start -/

/-- R156, R157: the exposure has begun under the conditions of a frame start, at the expected position. -/
structure State.Started (w : State) (e : Entry) (i : ImagePart) (v : SetContent) (tag : MagazineTag) (q : Nat)
    (lcu : Rgb LaserUnit) : Prop extends w.Begun e i v q lcu where
  offered : e.offered = true
  set : (w.setAt i.set).ready? = some v
  film : w.loadedTag? = some tag
  stock : v.stock = tag.stock
  halted : w.gc.halted = false
  held : w.fq.held.any = false
  locked : w.isLocked = true
  expected : q = w.gc.expected

/-- The exposure found after an event that found none: what a frame start at that event has made of it. -/
def State.Opens (s t : State) (x : Exposure) : Prop :=
  ∃ e i v tag, t.head? = some e ∧ e.state = .exposing ∧ e.leaving = false ∧
    e.image? = some i ∧ (t.setAt i.set).ready? = some v ∧ t.loadedTag? = some tag ∧ v.stock = tag.stock ∧
    x.startsAs e i v t.gc.expected ∧ t.fetchesFirstLine e i ∧ t.stu.idle = .stopped ∧ t.isLocked = true ∧
    t.gc.halted = false ∧ t.fq.held.any = false ∧
    ∀ ch, x.ctx.latchedFrom ch (s.lcu.get ch) ∨ x.ctx.latchedFrom ch (t.lcu.get ch)

theorem State.frameStart_started {s : State} {e : Entry} {i : ImagePart} {v : SetContent} {tag : MagazineTag} {q : Nat}
    (hready : s.frameReady = true) (hhead : s.head? = some e) (hi : e.image? = some i) (hoffered : e.offered = true)
    (hv : (s.setAt i.set).ready? = some v) (htag : s.loadedTag? = some tag) (hstock : v.stock = tag.stock)
    (hexpected : q = s.gc.expected) : (s.beginExposure e i v q).Started e i v tag q s.lcu := by
  obtain ⟨hstart, hheld, -, hlock, -⟩ := s.frameReady_iff.mp hready
  obtain ⟨-, hhalted⟩ := s.noStart_eq_false_iff.mp hstart
  exact { State.beginExposure_begun hhead hi v q with
    offered := hoffered, set := hv, film := htag, stock := hstock, halted := hhalted, held := hheld, locked := hlock
    expected := hexpected }

/-- R157: what the end of the event leaves of a start. -/
theorem State.Started.opens {s w t : State} {e : Entry} {i : ImagePart} {v : SetContent} {tag : MagazineTag} {q : Nat}
    {lcu : Rgb LaserUnit} {x : Exposure} (h : w.Started e i v tag q lcu) (hopened : w.Opened t x e i v q lcu)
    (hlatched : ∀ c, x.ctx.latchedFrom c (s.lcu.get c) ∨ x.ctx.latchedFrom c (w.lcu.get c)) : s.Opens t x := by
  obtain ⟨hlcu, -⟩ := hopened.outer
  obtain ⟨-, hfq, -, hcs⟩ := hopened.rest
  obtain ⟨-, hleaving⟩ := e.offered_iff.mp h.offered
  refine ⟨e.withState .exposing, i, v, tag, ?_, rfl, hleaving, h.image, ?_, ?_, h.stock, ?_, hopened.fetches, ?_, ?_, ?_, ?_,
    ?_⟩
  · rw [State.head?, hfq]
    exact h.head
  · rw [State.setAt, hcs]
    exact h.set
  · rw [State.loadedTag?, hopened.gc]
    exact h.film
  · rw [hopened.gc, ← h.expected]
    exact hopened.starts
  · rw [hopened.stu]
  · rw [State.isLocked, hopened.stu]
    exact h.locked
  · rw [hopened.gc]
    exact h.halted
  · rw [hfq]
    exact h.held
  · rw [hlcu]
    exact hlatched

/-! ### An event as a whole -/

/-- What every event does to the film and the starts: the agreements of the film are kept, no start is left due, and an
exposure begins by a frame start alone. -/
structure State.FilmEvent (s t : State) : Prop extends State.FilmKept s t where
  starts : s.startless → t.startless
  opens : s.exposure? = none → s.startless → s.gateAtExpected → s.tablesInRange → ∀ x, t.exposure? = some x → s.Opens t x

theorem State.Quiet.filmEvent {s t : State} (h : s.Quiet t) : s.FilmEvent t :=
  { h.toFilmKept with
    starts := h.startless
    opens := fun hs _ _ _ x hx => by
      have hexposes := h.exposes (by rw [State.isExposing, hx]; rfl)
      rw [State.isExposing, hs] at hexposes
      exact absurd hexposes nofun }

theorem State.FilmEvent.withDbi {s t : State} (h : s.FilmEvent t) (d : DeckBus) : s.FilmEvent (t.withDbi d) :=
  ⟨⟨h.positions, h.loaded, h.gate⟩, h.starts, h.opens⟩

/-- An event up to its end: it keeps the film, brings no exposure and leaves the strip tables below the map. -/
structure State.Prepared (s u : State) : Prop extends State.FilmKept s u where
  exposes : u.isExposing = true → s.isExposing = true
  tables : s.tablesInRange → u.tablesInRange

theorem State.prepared_of_film {s u : State} (hfilm : u.film = s.film) (htables : s.tablesInRange → u.tablesInRange) :
    s.Prepared u :=
  { State.filmKept_of_film hfilm with
    exposes := by rw [State.isExposing_congr hfilm]; exact id
    tables := htables }

theorem State.beginExposure_tablesInRange {s : State} (h : s.tablesInRange) (e : Entry) (i : ImagePart) (v : SetContent)
    (q : Nat) : (s.beginExposure e i v q).tablesInRange := by
  intro e' he' p hp
  rcases mem_changeAt (show e' ∈ changeAt s.fq.entries 0 (·.withState .exposing) from he') with he | ⟨y, hy, rfl⟩
  · exact h e' he p hp
  · exact h y hy p hp

/-- The end of an event that prepared no exposure opens one only by a frame start. -/
theorem State.Prepared.settle_opens {s u : State} (h : s.Prepared u) (hs : s.exposure? = none)
    (hgate : s.gateAtExpected) (htables : s.tablesInRange) {x : Exposure} (hx : (State.settle s u).exposure? = some x) :
    s.Opens (State.settle s u) x := by
  have hexposing := (State.settle_quiet s u).exposes (by rw [State.isExposing, hx]; rfl)
  rcases State.startIfDue_cases s u with ⟨hready, -, hstart⟩ | ⟨hready, -, hstart⟩ | ⟨hstart, -⟩
  · obtain ⟨hno, -, hframe, -⟩ := u.frameReady_iff.mp hready
    obtain ⟨e, i, q, hhead, hoffered, hi, hq, ⟨v, tag, hv, htag, hstock, hbegun⟩ | ⟨hreject, -⟩⟩ :=
      State.frameStart_cases (u.gateReady_iff.mpr (u.noStart_eq_false_iff.mp hno).1) hframe
    · have hexpected := h.gate hgate q (by rw [State.gatePosition?, hq])
      have hstarted := State.frameStart_started hready hhead hi hoffered hv htag hstock hexpected
      obtain ⟨p, hport, -⟩ := State.recordsEnd_port s (u.beginExposure e i v q)
      have hstarted' : ((u.beginExposure e i v q).withPort p).Started e i v tag q u.lcu :=
        { hstarted with toBegun := hstarted.toBegun.of_port p }
      have hsettle : State.settle s u = ((u.beginExposure e i v q).withPort p).quiesce := by
        rw [State.settle, hstart, hbegun, hport]
      obtain ⟨y, hopened⟩ := hstarted'.quiesce
        (State.beginExposure_tablesInRange (h.tables htables) e i v q)
      rw [← hsettle] at hopened
      obtain rfl : y = x := by
        have hgc := State.exposure?_eq_some.mp hx
        rw [hopened.gc] at hgc
        exact GateCycle.exposing.inj hgc
      exact hstarted'.opens hopened fun c => .inr (hopened.latches c)
    · rw [hstart, hreject, State.isExposing_congr u.rejectStock_film, State.isExposing, State.exposure?_of_ready hq] at hexposing
      exact absurd hexposing nofun
  · obtain ⟨hno, -⟩ := u.runoutReady_iff.mp hready
    rw [hstart, State.isExposing, State.runoutStart_exposure? (u.gateReady_iff.mpr (u.noStart_eq_false_iff.mp hno).1)]
      at hexposing
    exact absurd hexposing nofun
  · rw [hstart] at hexposing
    have hbefore := h.exposes hexposing
    rw [State.isExposing, hs] at hbefore
    exact absurd hbefore nofun

theorem State.Prepared.settle {s u : State} (h : s.Prepared u) : s.FilmEvent (State.settle s u) :=
  { h.toFilmKept.trans (State.settle_filmKept s u) with
    starts := State.settle_startless u
    opens := fun hs _ hgate htables _ hx => h.settle_opens hs hgate htables hx }

end Sys2Proof.Machine
end

section
/-! ## Messages keep the film in step and leave no start due -/

namespace Sys2Proof.Machine
/-! ### The film leaves the gate -/

theorem State.noStart_of_position {s : State} (h : s.gatePosition? = none) : s.noStart = true := by
  unfold State.noStart State.gateReady
  unfold State.gatePosition? at h
  cases hgate : s.gc.gate <;> simp [hgate] at h ⊢

theorem State.exposure?_of_position {s : State} (h : s.gatePosition? = none) : s.exposure? = none := by
  unfold State.exposure?
  unfold State.gatePosition? at h
  cases hgate : s.gc.gate <;> simp [hgate] at h ⊢

/-- The frame leaves the gate: the film and the map move on alike, the magazine stays, and no start can follow. -/
theorem State.Quiet.of_left {s t : State} (hgate : s.gc.gate ≠ .noFilm) (hposition : t.gatePosition? = none)
    (hmagazine : t.gc.magazine = s.gc.magazine) {k : Nat} (hexpected : t.gc.expected = s.gc.expected + k)
    (hcount : t.rm.count = s.rm.count + k) : s.Quiet t := by
  refine .of_noStart ⟨fun hs => ?_, fun hs _ => ?_, fun _ => State.gateAtExpected_of_none hposition⟩
    (State.noStart_of_position hposition) fun ht => ?_
  · rw [State.positionsAgree, hexpected, hcount]
    exact congrArg (· + k) hs
  · rw [State.loadedTag?, hmagazine]
    exact hs hgate
  · rw [State.isExposing, State.exposure?_of_position hposition] at ht
    exact absurd ht nofun

theorem State.gateAfterAbort_left (s : State) (r : SpoilReason) : (s.gateAfterAbort r).gatePosition? = none ∧
    (s.gateAfterAbort r).gc.magazine = s.gc.magazine ∧ (s.gateAfterAbort r).gc.expected = s.gc.expected ∧
    (s.gateAfterAbort r).rm = s.rm := by
  have hadvanced : (s.advanceFilm 1).gatePosition? = none := by
    unfold State.gatePosition? State.advanceFilm
    rw [State.withGc_gc]
    cases s.filmExhausted <;> rfl
  cases r
  case gateFault | magRemoved => exact ⟨rfl, rfl, rfl, rfl⟩
  all_goals exact ⟨hadvanced, rfl, rfl, rfl⟩

/-- R162, R163: what an abort leaves of the film. -/
theorem State.abort_left {s : State} {x : Exposure} (hx : s.exposure? = some x) (r : SpoilReason) :
    (s.abort r).gatePosition? = none ∧ (s.abort r).gc.magazine = s.gc.magazine ∧
    (s.abort r).gc.expected = s.gc.expected + 1 ∧ (s.abort r).rm.count = s.rm.count + 1 := by
  obtain ⟨c, p, m, hrecord⟩ := s.abort_record (exposureRecord x.ctx x.clips .spoiled r)
  have hfilm : (s.abort r).film = ((s.dropDrives.withdrawFetch.appendRecord
      (exposureRecord x.ctx x.clips .spoiled r)).gateAfterAbort r).film := by
    simp only [State.abort, hx]
    split <;> split <;> simp
  have hgc := congrArg Prod.fst hfilm
  obtain ⟨hposition, hmagazine, hexpected, hcount⟩ := (s.dropDrives.withdrawFetch.appendRecord
    (exposureRecord x.ctx x.clips .spoiled r)).gateAfterAbort_left r
  exact ⟨(State.gatePosition?_congr (congrArg GateController.gate hgc)).trans hposition,
    (congrArg GateController.magazine hgc).trans (hmagazine.trans (by rw [hrecord])),
    (congrArg GateController.expected hgc).trans (hexpected.trans (by rw [hrecord])),
    (congrArg (fun f => f.2.count) hfilm).trans ((congrArg ReelMap.count hcount).trans (by rw [hrecord]))⟩

/-- R162, R163: an aborted frame is recorded and leaves the gate. -/
theorem State.abort_quiet (s : State) (r : SpoilReason) : s.Quiet (s.abort r) := by
  cases hx : s.exposure? with
  | none =>
    rw [State.abort_none hx]
    exact .refl s
  | some x =>
    obtain ⟨hposition, hmagazine, hexpected, hcount⟩ := State.abort_left hx r
    exact .of_left (by simp [State.exposure?_eq_some.mp hx]) hposition hmagazine hexpected hcount

/-! ### The scanner and the channels -/

/-- An event of the scanner and the channels that brings neither lock nor a READY channel. -/
theorem State.Quiet.of_scan {s t : State} (hfilm : t.film = s.film) (hfq : t.fq = s.fq)
    (hscan : t.isLocked = true → t.lasersReady = true → s.isLocked = true ∧ s.lasersReady = true) : s.Quiet t :=
  .of_parts (State.filmKept_of_film hfilm) (by rw [State.noStart_congr (congrArg Prod.fst hfilm)]; exact id)
    (State.headKept_of_fq hfq) hscan (by rw [State.isExposing_congr hfilm]; exact id)

theorem State.Quiet.of_unlocked {s t : State} (hfilm : t.film = s.film) (hfq : t.fq = s.fq)
    (hscan : t.stu.scanner ≠ .locked) : s.Quiet t :=
  .of_scan hfilm hfq fun hlock => absurd (t.isLocked_iff.mp hlock) hscan

theorem State.updateIdle_quiet (s : State) : s.Quiet s.updateIdle := by
  obtain ⟨i, hidle⟩ := s.updateIdle_shape
  rw [hidle]
  exact .of_scan rfl rfl fun hlock hready => ⟨hlock, hready⟩

theorem decideWake_quiet (s : State) (role : Role) (payload : Payload Unit) : s.Quiet (decideWake role payload s).state := by
  unfold decideWake State.restartIdle
  repeat' split
  any_goals exact .refl s
  · exact .of_unlocked rfl rfl nofun
  · exact .of_scan rfl rfl fun hlock hready => ⟨hlock, hready⟩

theorem decideSetParam_quiet (s : State) (role : Role) (payload : Payload ScannerParamArgs) :
    s.Quiet (decideSetParam role payload s).state := by
  have hstore (p : ScannerParam) (v : Nat) : s.Quiet (s.storeScanner p v) := by
    unfold State.storeScanner
    dsimp only
    split
    · refine State.Quiet.trans ?_ (State.updateIdle_quiet _)
      exact .of_scan rfl rfl fun hlock hready => ⟨hlock, hready⟩
    · exact .of_scan rfl rfl fun hlock hready => ⟨hlock, hready⟩
  unfold decideSetParam
  repeat' split
  any_goals exact .refl s
  exact hstore _ _

theorem decideSetParamLaser_quiet (s : State) (role : Role) (payload : Payload LaserParamArgs) :
    s.Quiet (decideSetParamLaser role payload s).state := by
  have hstates (c : Channel) (f : LaserUnit → LaserUnit) (hf : ∀ u, (f u).state = u.state) : s.Quiet (s.mapLaser c f) := by
    refine .of_scan rfl rfl fun hlock hready => ⟨hlock, s.lasersReady_iff.mpr fun d => ?_⟩
    rw [← (s.mapLaser c f).lasersReady_iff.mp hready d]
    cases c <;> cases d <;> simp [State.mapLaser, Rgb.set, Rgb.get, hf]
  unfold decideSetParamLaser
  dsimp only
  repeat' split
  any_goals exact .refl s
  exact hstates _ (fun u => { u with settings := u.settings.store _ _ }) fun _ => rfl

theorem decideScannerReset_quiet (s : State) (role : Role) (payload : Payload Unit) :
    s.Quiet (decideScannerReset role payload s).state := by
  have hreset : s.Quiet s.resetScanner := by
    unfold State.resetScanner
    obtain ⟨v, hwake, hscanner⟩ := ((s.withStu { s.stu with
      scanner := .stopped, facet := none, acq := 0, badRun := 0, lastPeriod := none }).channelsOff).wakeIfDue_shape
    rw [hwake]
    refine .of_unlocked rfl rfl ?_
    rw [show ({ (s.withStu { s.stu with
      scanner := .stopped, facet := none, acq := 0, badRun := 0, lastPeriod := none }).channelsOff with
        stu := v } : State).stu.scanner = v.scanner from rfl, hscanner]
    split <;> exact nofun
  unfold decideScannerReset
  repeat' split
  any_goals exact .refl s
  exact hreset

/-- R141: a channel that is reset is not READY. -/
theorem decideLaserReset_quiet (s : State) (role : Role) (payload : Payload (Coded LaserTarget)) :
    s.Quiet (decideLaserReset role payload s).state := by
  have hreset (t : LaserTarget) : s.Quiet (s.resetLasers t) := by
    refine .of_scan rfl rfl fun hlock hready => ⟨hlock, s.lasersReady_iff.mpr fun c => ?_⟩
    have hc := (s.resetLasers t).lasersReady_iff.mp hready c
    have hchannel : (s.resetLasers t).lcu.get c = if laserNamed t s.lcu c then
        (s.lcu.get c).reset (s.isLocked && !s.gc.halted) else s.lcu.get c := by cases c <;> rfl
    rw [hchannel] at hc
    split at hc
    · unfold LaserUnit.reset at hc
      split at hc <;> exact absurd hc nofun
    · exact hc
  unfold decideLaserReset
  repeat' split
  any_goals exact .refl s
  exact hreset _

theorem State.addHeld_quiet (s : State) (r : HeldReason) : s.Quiet (s.addHeld r) :=
  .of_head (s.addHeld_film r) (s.addHeld_stu r) (s.addHeld_lcu r) (.inl (s.addHeld_any r))

/-- The messages to the attention unit, the calibration store, the scanner and the channels, and HOLD. -/
theorem decisionOf_quiet_of_apart {c : Instr} {d : State → Decision} (hc : apartFromMemory c = true)
    (hd : decisionOf c = some d) (s : State) : s.Quiet (d s).state := by
  cases c <;> simp only [apartFromMemory, Bool.false_eq_true] at hc <;> cases hd
  case wake => exact decideWake_quiet s _ _
  case setParam => exact decideSetParam_quiet s _ _
  case setParamLaser => exact decideSetParamLaser_quiet s _ _
  case scannerReset => exact decideScannerReset_quiet s _ _
  case laserReset => exact decideLaserReset_quiet s _ _
  case bindAttn => unfold decideBindAttn; repeat' split
                   all_goals exact .of_core rfl rfl rfl rfl
  case unbind => unfold decideUnbind; repeat' split
                 all_goals exact .of_core rfl rfl rfl rfl
  case setMask | ackEvents | forceEvent => unfold decideOwner; dsimp only; repeat' split
                                           all_goals exact .of_core rfl rfl rfl rfl
  case beginSet => unfold decideBeginSet; repeat' split
                   all_goals exact .of_core rfl rfl rfl rfl
  case writeTable => unfold decideWriteTable; dsimp only; repeat' split
                     all_goals exact .of_core rfl rfl rfl rfl
  case publishSet => unfold decidePublishSet; repeat' split
                     all_goals exact .of_core rfl rfl rfl rfl
  case freeSet => unfold decideFreeSet; repeat' split
                  all_goals exact .of_core rfl rfl rfl rfl
  case setTrim => unfold decideSetTrim; repeat' split
                  all_goals exact .of_core rfl rfl rfl rfl
  case writeOptics => unfold decideWriteOptics; dsimp only; repeat' split
                      all_goals exact .of_core rfl rfl rfl rfl
  case hold =>
    unfold decideHold; repeat' split
    any_goals exact .refl s
    exact s.addHeld_quiet .operator
  case unknownKindMessage => exact .refl s

end Sys2Proof.Machine
end

section
/-! ## Messages about the queue, the film and the part as a whole -/

namespace Sys2Proof.Machine

theorem State.Quiet.of_startless {s t : State} (hfilm : s.FilmKept t) (ht : t.startless)
    (hexposes : t.isExposing = true → s.isExposing = true) : s.Quiet t :=
  ⟨hfilm, fun h => absurd (ht.1.symm.trans h) nofun, fun h => absurd (ht.2.symm.trans h) nofun, hexposes⟩

theorem State.raise_quiet (s : State) (e : Event) : s.Quiet (s.raise e) :=
  .of_core (s.raise_film e) (s.raise_stu e) (s.raise_lcu e) rfl

theorem State.FilmEvent.of_core {s t : State} (hfilm : t.film = s.film) (hstu : t.stu = s.stu) (hlcu : t.lcu = s.lcu)
    (hfq : t.fq = s.fq) : s.FilmEvent t :=
  (State.Quiet.of_core hfilm hstu hlcu hfq).filmEvent

theorem State.FilmEvent.refl (s : State) : s.FilmEvent s := (State.Quiet.refl s).filmEvent

/-! ### The film in the gate -/

/-- R149, R151: a change of the magazine while none is LOADED. -/
theorem State.Quiet.of_magazine {s : State} (hmag : s.loadedTag? = none) (m : Magazine) :
    s.Quiet (s.withGc { s.gc with magazine := m }) := by
  refine .of_parts ⟨id, fun hs hgate => ?_, id⟩ id (State.headKept_of_fq rfl) (fun hlock hready => ⟨hlock, hready⟩) id
  have hloaded := hs hgate
  rw [hmag] at hloaded
  exact absurd hloaded nofun

theorem State.loadMagazine_quiet (s : State) (t : MagazineTag) : s.Quiet (s.loadMagazine t) :=
  .of_noStart ⟨fun _ => rfl, fun _ _ => rfl, fun _ => State.gateAtExpected_of_none rfl⟩ rfl nofun

theorem decideMagLoad_quiet (s : State) (role : Role) (payload : List Byte) :
    s.Quiet (decideMagLoad role payload s).state := by
  have htake (t : MagazineTag) (habsent : s.gc.magazine = .absent) : s.Quiet (s.takeMagazine t) := by
    have hnone : s.loadedTag? = none := by rw [State.loadedTag?, habsent]
    unfold State.takeMagazine
    refine State.Quiet.trans ?_ (State.raise_quiet _ .magazine)
    split
    · exact s.loadMagazine_quiet t
    · exact .of_magazine hnone _
  unfold decideMagLoad
  dsimp only
  repeat' split
  any_goals exact .refl s
  next habsent => exact htake _ habsent

theorem State.unloadMagazine_quiet (s : State) : s.Quiet s.unloadMagazine := by
  unfold State.unloadMagazine
  split
  · exact .refl s
  next tag hheld =>
    exact (State.Quiet.of_magazine (by rw [State.loadedTag?, hheld]) .absent).trans (State.raise_quiet _ .magazine)
  · refine ((s.abort_quiet .magRemoved).trans ?_).trans (State.raise_quiet _ .magazine)
    exact .of_noStart ⟨id, fun _ hne => absurd rfl hne, fun _ => State.gateAtExpected_of_none rfl⟩ rfl nofun

theorem decideMagUnload_quiet (s : State) (role : Role) (payload : Payload Unit) :
    s.Quiet (decideMagUnload role payload s).state := by
  unfold decideMagUnload
  repeat' split
  any_goals exact .refl s
  exact s.unloadMagazine_quiet

theorem decideGateFault_quiet (s : State) (role : Role) (payload : Payload Unit) :
    s.Quiet (decideGateFault role payload s).state := by
  have hfault (hgate : s.gc.gate ≠ .noFilm) : s.Quiet ((s.withGate .fault).raise .gate) :=
    (State.Quiet.of_left (t := s.withGate .fault) (k := 0) hgate rfl rfl rfl rfl).trans (State.raise_quiet _ .gate)
  unfold decideGateFault
  repeat' split
  any_goals exact .refl s
  · exact (s.abort_quiet .gateFault).trans (State.raise_quiet _ .gate)
  all_goals
    next hgate => exact hfault (by simp [hgate])

/-- R154: the film registered stands at the expected position, with a record for each position passed. -/
theorem State.filmRegistered_prepared {s : State} {q : Nat} (hgate : s.gc.gate ≠ .noFilm) (hpassed : s.gc.expected ≤ q) :
    s.Prepared (s.filmRegistered q) := by
  obtain ⟨m, p, hshape⟩ := State.filmRegistered_shape hpassed
  refine ⟨⟨fun hs => ?_, fun hs _ => ?_, fun _ r hr => ?_⟩, fun hx => ?_, fun htables =>
    s.filmRegistered_tablesInRange htables q⟩
  · unfold State.positionsAgree at hs ⊢
    rw [hshape]
    dsimp only
    omega
  · have hloaded := hs hgate
    rw [hshape]
    exact hloaded
  · rw [hshape] at hr ⊢
    exact (Option.some.inj hr).symm
  · rw [hshape] at hx
    exact absurd hx nofun

theorem decideGateReady_filmEvent (s : State) (role : Role) (payload : Payload Nat) :
    s.FilmEvent (decideGateReady role payload s).state := by
  have hposition (q : Nat) (hgate : s.gc.gate ≠ .noFilm) : s.FilmEvent (decidePosition q s).state := by
    unfold decidePosition
    repeat' split
    · exact (s.raise_quiet .gate).filmEvent
    · exact .refl s
    next hpassed _ => exact (State.filmRegistered_prepared hgate (Nat.not_lt.mp hpassed)).settle
  unfold decideGateReady
  repeat' split
  any_goals exact .refl s
  all_goals
    next hgate => exact hposition _ (by simp [hgate])

/-! ### The queue -/

theorem State.submit_filmEvent (s : State) {a : Addr} {f : Submission} (hp : f.proper) (hvalid : f.valid = true)
    (hleave : (newEntry s.fq.serial a f).leaving = false) : s.FilmEvent (s.submit a f) := by
  obtain ⟨st, c, p, m, pa, pb, cs, hjoin, -⟩ := s.joinQueue_shape a f hleave
  obtain ⟨v, hwake, -⟩ := s.enlisted_shape a f (hp.1 _ _)
  refine State.Prepared.settle (s := s) (u := s.enlisted a f) (State.prepared_of_film (by rw [hwake, hjoin]; rfl) fun h => ?_)
  rw [hwake]
  exact State.joinQueue_tables h hp hvalid hleave

theorem decideSubmit_filmEvent (s : State) (allowed : Bool) (sender : Addr) (a : Option Submission)
    (hp : ∀ f, a = some f → f.proper ∧ ∀ n, (newEntry n sender f).leaving = false) :
    s.FilmEvent (decideSubmit allowed sender a s).state := by
  unfold decideSubmit
  repeat' split
  any_goals exact .refl s
  next f _ hpass =>
    obtain ⟨hproper, hleave⟩ := hp f rfl
    exact s.submit_filmEvent hproper (submissionFailure_eq_none hpass).2.1 (hleave _)

theorem decideNamed_filmEvent {α : Type} (s : State) (sender : Addr) (submitter : α → Option Nat)
    (payload : NamedPayload α Nat) (take : α → Nat → Decision) (htake : ∀ a n, s.FilmEvent (take a n).state) :
    s.FilmEvent (decideNamed sender submitter payload take s).state := by
  unfold decideNamed
  dsimp only
  repeat' split
  any_goals exact .refl s
  exact htake _ _

theorem decideCancel_filmEvent (s : State) (sender : Addr) (payload : NamedPayload CancelArgs Nat) :
    s.FilmEvent (decideCancel sender payload s).state := by
  refine decideNamed_filmEvent s _ _ _ _ fun a n => ?_
  split
  · exact .refl s
  next e hfind =>
    split
    · exact (State.prepared_of_film (s.cancelEntry_film e) (s.cancelEntry_follows hfind).tablesInRange).settle
    · exact .refl s

theorem decideFlush_filmEvent (s : State) (sender : Addr) (payload : NamedPayload (Option Nat) Nat) :
    s.FilmEvent (decideFlush sender payload s).state :=
  decideNamed_filmEvent s _ _ _ _ fun _ _ =>
    (State.prepared_of_film (State.cancelAll_film _ _) (State.cancelAll_follows _ s).tablesInRange).settle

/-! ### The part as a whole -/

/-- R166: a halt leaves no start due, and the film as the abort does. -/
theorem State.halt_quiet (s : State) : s.Quiet s.halt := by
  cases hhalted : s.gc.halted with
  | true =>
    rw [State.halt, if_pos hhalted]
    exact .refl s
  | false =>
    rw [State.halt_eq hhalted]
    refine ((s.abort_quiet .eStop).trans ?_).trans (State.raise_quiet _ .halt)
    exact .of_noStart ⟨id, id, id⟩ (by simp [State.noStart]) id

/-- R193: a recorder reset empties the queue. -/
theorem State.recorderReset_quiet (s : State) : s.Quiet s.recorderReset := by
  have hreader : s.Quiet (s.withSr .afterReset) := .of_core rfl rfl rfl rfl
  obtain ⟨cs, hflush⟩ := ((s.withSr .afterReset).abort .reset).flushQueue_shape
  unfold State.recorderReset
  refine ((hreader.trans (State.abort_quiet _ .reset)).trans ?_).trans (State.updateIdle_quiet _)
  rw [hflush]
  exact .of_startless ⟨id, id, id⟩ (State.startless_of_head rfl (.inl rfl)) id

theorem State.resume_filmEvent (s : State) : s.FilmEvent s.resume := by
  unfold State.resume
  split
  · obtain ⟨v, hwake, -⟩ := (s.withGc { s.gc with halted := false }).wakeIfDue_shape
    refine State.Prepared.settle ⟨⟨?_, ?_, ?_⟩, ?_, ?_⟩ <;> rw [hwake] <;> exact id
  · exact .refl s

/-- The messages about the queue, the film and the part as a whole. -/
theorem decisionOf_filmEvent_of_action {c : Instr} {d : State → Decision} (hq : c.isQuery = false)
    (hc : apartFromMemory c = false) (hd : decisionOf c = some d) (s : State) : s.FilmEvent (d s).state := by
  cases c <;> simp only [Instr.isQuery, apartFromMemory, Bool.true_eq_false] at hq hc <;> cases hd
  case magLoad => exact (decideMagLoad_quiet s _ _).filmEvent
  case magUnload => exact (decideMagUnload_quiet s _ _).filmEvent
  case gateReady => exact decideGateReady_filmEvent s _ _
  case gateFault => exact (decideGateFault_quiet s _ _).filmEvent
  case abortFrame =>
    unfold decideAbortFrame; repeat' split
    any_goals exact .refl s
    exact (s.abort_quiet .aborted).filmEvent
  case submitStored =>
    refine decideSubmit_filmEvent s _ _ _ fun f hf => ?_
    obtain ⟨a, -, rfl⟩ := Option.map_eq_some_iff.mp hf
    exact ⟨storedSubmission_proper a, fun _ => rfl⟩
  case submitFlat =>
    refine decideSubmit_filmEvent s _ _ _ fun f hf => ?_
    obtain ⟨a, -, rfl⟩ := Option.map_eq_some_iff.mp hf
    exact ⟨flatSubmission_proper a, fun _ => rfl⟩
  case submitRunout =>
    refine decideSubmit_filmEvent s _ _ _ fun f hf => ?_
    obtain ⟨a, -, rfl⟩ := Option.map_eq_some_iff.mp hf
    exact ⟨runoutSubmission_proper a, fun _ => rfl⟩
  case cancel => exact decideCancel_filmEvent s _ _
  case flush => exact decideFlush_filmEvent s _ _
  case release =>
    unfold decideRelease; repeat' split
    any_goals exact .refl s
    exact (State.prepared_of_film (s := s) (u := s.withFq { s.fq with held := .empty }) rfl id).settle
  case eStop =>
    unfold decideEStop; repeat' split
    any_goals exact .refl s
    exact s.halt_quiet.filmEvent
  case recorderReset =>
    unfold decideRecorderReset; repeat' split
    any_goals exact .refl s
    exact s.recorderReset_quiet.filmEvent
  case resume =>
    unfold decideResume; repeat' split
    any_goals exact .refl s
    exact s.resume_filmEvent

theorem decisionOf_filmEvent {c : Instr} {d : State → Decision} (hd : decisionOf c = some d) (s : State) :
    s.FilmEvent (d s).state := by
  cases hq : c.isQuery with
  | true =>
    obtain ⟨n, hfree, -⟩ := decisionOf_query hq hd s
    rw [show (d s).state = { s with free := n } from hfree]
    exact .of_core rfl rfl rfl rfl
  | false =>
    cases hapart : apartFromMemory c with
    | true => exact (decisionOf_quiet_of_apart hapart hd s).filmEvent
    | false => exact decisionOf_filmEvent_of_action hq hapart hd s

theorem onMessage_filmEvent {c : Instr} {a : Addr} {k : Byte} {d : State → Decision} {s t : State}
    (hd : s.FilmEvent (d s).state) (ht : onMessage c a k d s = .next t) : s.FilmEvent t := by
  unfold onMessage at ht
  split at ht
  · split at ht <;> cases ht
    · exact hd.withDbi _
    · exact .of_core rfl rfl rfl rfl
  · cases ht
    exact .refl _

theorem exec_message_filmEvent {c : Instr} {a : Addr} (ha : c.sender? = some a) {s t : State}
    (ht : exec c s = .next t) : s.FilmEvent t := by
  obtain ⟨k, d, hk, hd⟩ := decisionOf_isSome c a ha
  by_cases hu : ∃ b code, c = .unknownKindMessage b code ∧ kindCodes.contains code = true
  · obtain ⟨b, code, rfl, hcode⟩ := hu
    simp only [exec, execUnknownKindMessage, hcode, if_true, Host.Outcome.next.injEq] at ht
    exact ht ▸ .refl s
  · rw [exec_message c a k d s ha hk hd fun b code hc => by simpa using fun hcode => hu ⟨b, code, hc, hcode⟩] at ht
    exact onMessage_filmEvent (decisionOf_filmEvent hd s) ht

end Sys2Proof.Machine
end

section
/-! ## A mark keeps the film in step and leaves no start due -/

namespace Sys2Proof.Machine
/-! ### The line output -/

theorem State.mapExposure_noStart (s : State) (f : Exposure → Exposure) : (s.mapExposure f).noStart = s.noStart := by
  unfold State.mapExposure
  split
  next x hx => simp [State.noStart, State.gateReady, State.withGate, hx]
  all_goals rfl

/-- What the line output of a mark keeps: the film in step, and that no start can follow. -/
def State.OutKept (s t : State) : Prop := s.FilmKept t ∧ (s.noStart = true → t.noStart = true)

theorem State.OutKept.trans {s t u : State} (h : s.OutKept t) (k : t.OutKept u) : s.OutKept u :=
  ⟨h.1.trans k.1, k.2 ∘ h.2⟩

theorem State.outKept_of_film {s t : State} (h : t.film = s.film) : s.OutKept t :=
  ⟨State.filmKept_of_film h, by rw [State.noStart_congr (congrArg Prod.fst h)]; exact id⟩

theorem State.mapExposure_outKept (s : State) {f : Exposure → Exposure} (hf : ∀ x, (f x).ctx.position = x.ctx.position) :
    s.OutKept (s.mapExposure f) :=
  ⟨s.mapExposure_filmKept hf, by rw [s.mapExposure_noStart]; exact id⟩

theorem State.takeLine_outKept (s : State) (r : LineRecord) : s.OutKept (s.takeLine r) := by
  unfold State.takeLine
  refine State.OutKept.trans (s.mapExposure_outKept ?_) (State.outKept_of_film rfl)
  exact fun _ => rfl

theorem State.dropLine_outKept (s : State) (y : Nat) : s.OutKept (s.dropLine y) := by
  unfold State.dropLine
  dsimp only
  split
  · exact State.outKept_of_film rfl
  · split
    · exact s.mapExposure_outKept fun _ => rfl
    · split
      · split
        · refine State.OutKept.trans ?_ (State.outKept_of_film (State.withdrawFetch_film _))
          exact s.mapExposure_outKept fun _ => rfl
        · exact s.mapExposure_outKept fun _ => rfl
      · exact s.mapExposure_outKept fun _ => rfl

theorem State.blankLine_outKept (s : State) (y : Nat) : s.OutKept (s.blankLine y) := by
  unfold State.blankLine
  refine State.OutKept.trans ?_ (State.dropLine_outKept _ y)
  exact s.mapExposure_outKept fun _ => rfl

theorem State.putLine_outKept (s : State) (x : Exposure) : s.OutKept (s.putLine x) := by
  unfold State.putLine
  split
  · split
    · exact s.takeLine_outKept _
    · exact s.blankLine_outKept _
  · exact s.blankLine_outKept _

theorem State.endLine_outKept (s : State) (kind : LineKind) : s.OutKept (s.endLine kind) := by
  unfold State.endLine
  refine State.OutKept.trans (s.mapExposure_outKept fun _ => ?_) (State.outKept_of_film rfl)
  cases kind <;> rfl

/-- R160: a frame that ends is recorded and leaves the gate. -/
theorem State.frameEnd_quiet (s : State) : s.Quiet s.frameEnd := by
  cases hx : s.exposure? with
  | none =>
    unfold State.frameEnd
    rw [hx]
    exact .refl s
  | some x =>
    obtain ⟨c, p, m, hrecorded⟩ := s.frameRecorded_shape x
    have hfilm := State.frameEnd_film hx
    rw [hrecorded] at hfilm
    have hgc : s.frameEnd.gc = { s.gc with
        expected := s.gc.expected + 1, gate := if s.lastFrame then .filmOut else .advancing, advance := 1 } :=
      congrArg Prod.fst hfilm
    have hrm : s.frameEnd.rm = { s.rm with count := s.rm.count + 1 } := congrArg Prod.snd hfilm
    refine .of_left (k := 1) (by simp [State.exposure?_eq_some.mp hx]) ?_ (by rw [hgc]) (by rw [hgc]) (by rw [hrm])
    rw [State.gatePosition?, hgc]
    cases s.lastFrame <;> rfl

theorem State.frameEnd_outKept {s : State} (hno : s.noStart = true) : s.OutKept s.frameEnd := by
  refine ⟨s.frameEnd_quiet.toFilmKept, fun _ => ?_⟩
  cases hx : s.exposure? with
  | none =>
    unfold State.frameEnd
    rw [hx]
    exact hno
  | some x =>
    obtain ⟨c, p, m, hrecorded⟩ := s.frameRecorded_shape x
    rw [State.noStart_congr (congrArg Prod.fst (State.frameEnd_film hx)), hrecorded, State.noStart, State.gateReady]
    cases s.lastFrame <;> rfl

/-- R123 to R128: no start can follow the line output of an exposure. -/
theorem State.lineOut_quiet (s : State) (facet : Option Nat) : s.Quiet (s.lineOut facet) := by
  cases hx : s.exposure? with
  | none =>
    unfold State.lineOut
    rw [hx]
    exact .refl s
  | some x =>
    have hno : s.noStart = true := by
      rw [State.noStart, State.gateReady_of_exposure hx]
      rfl
    have hkept : s.OutKept (s.lineOut facet) := by
      unfold State.lineOut
      rw [hx]
      dsimp only
      split
      · split
        · split
          · exact s.takeLine_outKept _
          · exact State.outKept_of_film rfl
        · exact State.outKept_of_film rfl
      next kind _ =>
        have hended := s.endLine_outKept kind
        split
        · exact hended.trans (State.frameEnd_outKept (hended.2 hno))
        · exact hended.trans (State.putLine_outKept _ x)
    exact .of_noStart hkept.1 (hkept.2 hno) fun _ => by rw [State.isExposing, hx]; rfl

theorem State.markLine_quiet (s : State) (m : MarkInput) : s.Quiet (s.markLine m) := by
  unfold State.markLine
  split
  · exact s.lineOut_quiet _
  · exact .refl s

/-! ### The samples and the judgement -/

theorem State.loseLock_quiet (s : State) : s.Quiet s.loseLock := by
  unfold State.loseLock
  refine State.Quiet.trans ?_ (State.abort_quiet _ .lockLost)
  refine State.Quiet.trans ?_ (State.raise_quiet _ .scanner)
  exact .of_unlocked rfl rfl nofun

theorem State.sampleChannel_filmKept (s : State) (c : Channel) (m : BitVec 12) : s.FilmKept (s.sampleChannel c m) := by
  have hfault (t : State) (ht : t.film = s.film) : s.FilmKept (t.faultChannel c) := by
    unfold State.faultChannel
    refine State.FilmKept.trans (State.filmKept_of_film ?_) ((State.abort_quiet _ .laserFault).trans
      (State.raise_quiet _ .laser)).toFilmKept
    exact ht
  unfold State.sampleChannel
  split
  · dsimp only
    split
    · exact State.filmKept_of_film rfl
    · exact hfault _ rfl
    · exact State.filmKept_of_film rfl
  · exact .refl s

theorem State.judgeMark_filmKept (s : State) (p : Option Nat) : s.FilmKept (s.judgeMark p) := by
  obtain ⟨v, hjudge | ⟨-, hjudge⟩ | ⟨-, -, hjudge⟩⟩ := s.judgeMark_cases p <;> rw [hjudge]
  · exact State.filmKept_of_film rfl
  · exact State.filmKept_of_film (State.lock_film _)
  · exact State.FilmKept.trans (t := s.withStu v) (State.filmKept_of_film rfl) (State.loseLock_quiet _).toFilmKept

theorem State.markPart_filmKept (m : MarkInput) (s : State) (p : MarkPart) : s.FilmKept (State.markPart m s p) := by
  have hstarted (t : State) (ht : s.FilmKept t) : s.FilmKept (State.startIfDue s t) :=
    ht.trans (State.startIfDue_filmKept s t)
  unfold State.markPart
  cases p with
  | sample c =>
    dsimp only
    split
    · exact hstarted _ (s.sampleChannel_filmKept c _)
    · exact .refl s
  | judge =>
    unfold State.markJudge
    dsimp only
    split
    · exact (hstarted _ (s.judgeMark_filmKept _)).trans (State.markLine_quiet _ m).toFilmKept
    · exact hstarted _ (s.judgeMark_filmKept _)

/-- R156, log entry 12: each part of a mark takes the start it makes due. -/
theorem State.markPart_startless {s : State} (h : s.startless) (m : MarkInput) (p : MarkPart) :
    (State.markPart m s p).startless := by
  unfold State.markPart
  cases p with
  | sample c =>
    dsimp only
    split
    · exact State.startIfDue_startless _ h
    · exact h
  | judge =>
    unfold State.markJudge
    dsimp only
    split
    · exact (State.markLine_quiet _ m).startless (State.startIfDue_startless _ h)
    · exact State.startIfDue_startless _ h

theorem State.markParts_filmKept (m : MarkInput) (ps : List MarkPart) (s : State) :
    s.FilmKept (ps.foldl (State.markPart m) s) := by
  induction ps generalizing s with
  | nil => exact .refl s
  | cons p ps ih => exact (State.markPart_filmKept m s p).trans (ih _)

theorem State.markParts_startless (m : MarkInput) (ps : List MarkPart) {s : State} (h : s.startless) :
    (ps.foldl (State.markPart m) s).startless := by
  induction ps generalizing s with
  | nil => exact h
  | cons p ps ih => exact ih (State.markPart_startless h m p)

theorem State.takeMark_filmKept (s : State) (ticks : Nat) (samples : Rgb (BitVec 12)) (o : MarkOrder) :
    s.FilmKept (s.takeMark ticks samples o) := by
  have hsweep : s.FilmKept s.newSweep := State.filmKept_of_film rfl
  unfold State.takeMark
  exact ((hsweep.trans (State.markParts_filmKept _ _ _)).trans (State.markLine_quiet _ _).toFilmKept).trans
    (State.quiesce_quiet _).toFilmKept

theorem State.newSweep_quiet (s : State) : s.Quiet s.newSweep := by
  refine .of_scan rfl rfl fun hlock hready => ⟨hlock, s.lasersReady_iff.mpr fun c => ?_⟩
  rw [← s.newSweep.lasersReady_iff.mp hready c, State.newSweep_get]

theorem State.takeMark_startless {s : State} (h : s.startless) (ticks : Nat) (samples : Rgb (BitVec 12)) (o : MarkOrder) :
    (s.takeMark ticks samples o).startless := by
  unfold State.takeMark
  exact ((State.markLine_quiet _ _).trans (State.quiesce_quiet _)).startless
    (State.markParts_startless _ _ (s.newSweep_quiet.startless h))

end Sys2Proof.Machine
end

section
/-! ## The stages of a mark that finds no exposure: waiting for a start, started, rejected, ended (R156, R157) -/

namespace Sys2Proof.Machine
/-! ### What a part of a mark changes -/

/-- Only the scan timing unit, the channels and the attention lines have changed. -/
def State.ScanOnly (s t : State) : Prop := ∃ v w a, t = { s with stu := v, lcu := w, au := a }

theorem State.ScanOnly.refl (s : State) : s.ScanOnly s := ⟨s.stu, s.lcu, s.au, rfl⟩

theorem State.ScanOnly.trans {s t u : State} (h : s.ScanOnly t) (k : t.ScanOnly u) : s.ScanOnly u := by
  obtain ⟨v, w, a, rfl⟩ := h
  obtain ⟨v', w', a', rfl⟩ := k
  exact ⟨v', w', a', rfl⟩

theorem State.ScanOnly.gc {s t : State} (h : s.ScanOnly t) : t.gc = s.gc := by
  obtain ⟨v, w, a, rfl⟩ := h
  rfl

theorem State.ScanOnly.fq {s t : State} (h : s.ScanOnly t) : t.fq = s.fq := by
  obtain ⟨v, w, a, rfl⟩ := h
  rfl

theorem State.ScanOnly.exposure? {s t : State} (h : s.ScanOnly t) : t.exposure? = s.exposure? := by
  unfold State.exposure?
  rw [h.gc]

theorem State.ScanOnly.runoutReady {s t : State} (h : s.ScanOnly t) : t.runoutReady = s.runoutReady := by
  unfold State.runoutReady State.gateReady State.headIsRunout State.head?
  rw [h.gc, h.fq]

theorem State.sampleChannel_scanOnly {s : State} (hx : s.exposure? = none) (c : Channel) (m : BitVec 12) :
    s.ScanOnly (s.sampleChannel c m) := by
  have hfault (w : Rgb LaserUnit) : s.ScanOnly (({ s with lcu := w } : State).faultChannel c) := by
    unfold State.faultChannel
    rw [State.abort_none (by exact hx)]
    exact ⟨_, _, _, rfl⟩
  unfold State.sampleChannel
  split
  · dsimp only
    split
    · exact ⟨_, _, _, rfl⟩
    · exact hfault _
    · exact ⟨_, _, _, rfl⟩
  · exact .refl s

theorem State.loseLock_scanOnly {s : State} (hx : s.exposure? = none) : s.ScanOnly s.loseLock := by
  unfold State.loseLock
  rw [State.abort_none (by exact hx)]
  exact ⟨_, _, _, rfl⟩

theorem State.lock_scanOnly (s : State) : s.ScanOnly s.lock := by
  unfold State.lock
  dsimp only
  split <;> exact ⟨_, _, _, rfl⟩

theorem State.withStu_scanOnly (s : State) (v : ScanTiming) : s.ScanOnly (s.withStu v) := ⟨v, s.lcu, s.au, rfl⟩

theorem State.judgeMark_scanOnly {s : State} (hx : s.exposure? = none) (p : Option Nat) : s.ScanOnly (s.judgeMark p) := by
  obtain ⟨v, hjudge | ⟨-, hjudge⟩ | ⟨-, -, hjudge⟩⟩ := s.judgeMark_cases p <;> rw [hjudge]
  · exact s.withStu_scanOnly v
  · exact (s.withStu_scanOnly v).trans (State.lock_scanOnly _)
  · exact (s.withStu_scanOnly v).trans (State.loseLock_scanOnly hx)

/-- A sample or the judgement, before the start it makes due. -/
def State.markChange (m : MarkInput) (s : State) : MarkPart → State
  | .sample c => s.sampleChannel c (m.samples.get c)
  | .judge => s.judgeMark m.period

/-- One part of a mark changes nothing, or takes the start its change makes due; the frame's last line is another
matter (R124). -/
theorem State.markPart_cases (m : MarkInput) (s : State) (p : MarkPart) : State.markPart m s p = s ∨
    ((State.startIfDue s (State.markChange m s p)).lastLineOnFilm = false →
      State.markPart m s p = State.startIfDue s (State.markChange m s p)) := by
  unfold State.markPart
  cases p with
  | sample c =>
    dsimp only
    split
    · exact .inr fun _ => rfl
    · exact .inl rfl
  | judge =>
    refine .inr fun hline => ?_
    exact if_neg (by rw [show State.startIfDue s (s.judgeMark m.period) =
      State.startIfDue s (State.markChange m s .judge) from rfl, hline]; exact nofun)

theorem State.markChange_scanOnly {s : State} (hx : s.exposure? = none) (m : MarkInput) (p : MarkPart) :
    s.ScanOnly (State.markChange m s p) := by
  cases p with
  | sample c => exact State.sampleChannel_scanOnly hx c _
  | judge => exact State.judgeMark_scanOnly hx _

theorem State.markChange_latchKept (m : MarkInput) (s : State) (p : MarkPart) : s.latchKept (State.markChange m s p) := by
  cases p with
  | sample c => exact s.sampleChannel_latchKept c _
  | judge => exact s.judgeMark_latchKept _

/-- R117, R133, R134: of a channel whose sample it is not, a part of a mark changes what the output carries, or begins
the warming of a channel that is OFF. -/
theorem State.markChange_other {p : MarkPart} {c : Channel} (hp : p ≠ .sample c) (m : MarkInput) (s : State) :
    ((State.markChange m s p).lcu.get c).unlit = (s.lcu.get c).unlit ∨
    (s.lcu.get c).state = .off ∧ ((State.markChange m s p).lcu.get c).state = .warming := by
  cases p with
  | sample d => exact .inl (State.sampleChannel_get_other (by rintro rfl; exact hp rfl) s _).unlit
  | judge =>
    rcases s.judgeMark_get m.period c with hkept | hwarm
    · exact .inl hkept.unlit
    · have hunit : (State.markChange m s .judge).lcu.get c = (s.lcu.get c).warmIfOff := hwarm
      by_cases hoff : (s.lcu.get c).state = .off
      · exact .inr ⟨hoff, by rw [hunit, LaserUnit.warmIfOff, if_pos hoff]; rfl⟩
      · exact .inl (by rw [hunit, LaserUnit.warmIfOff_of_ne_off hoff])

/-- R139: a channel in FAULT stays there. -/
theorem State.markChange_fault {s : State} {c : Channel} (h : (s.lcu.get c).state = .fault) (m : MarkInput)
    (p : MarkPart) : ((State.markChange m s p).lcu.get c).state = .fault := by
  by_cases hp : p = .sample c
  · subst hp
    have hfires : ¬ (s.lcu.get c).fires = true := by
      rw [LaserUnit.fires_iff, h]
      simp
    rw [State.markChange, State.sampleChannel, if_neg hfires]
    exact h
  · rcases State.markChange_other hp m s with hkept | ⟨hoff, -⟩
    · rw [LaserUnit.state_of_unlit hkept, h]
    · exact absurd (h.symm.trans hoff) nofun

/-- R117, R139: a part of a mark leaves an exposure under lock, or ends it with a channel in FAULT or with lock lost. -/
theorem State.markChange_exposing {s : State} {x : Exposure} (hx : s.exposure? = some x) (hlock : s.isLocked = true)
    (m : MarkInput) (p : MarkPart) :
    (s.ScanOnly (State.markChange m s p) ∧ (State.markChange m s p).isLocked = true ∧
      ∀ c, p ≠ .sample c → ((State.markChange m s p).lcu.get c).unlit = (s.lcu.get c).unlit) ∨
    ((State.markChange m s p).gatePosition? = none ∧
      ((∃ c, ((State.markChange m s p).lcu.get c).state = .fault) ∨
        (p = .judge ∧ (State.markChange m s p).isLocked = false))) := by
  cases p with
  | sample c =>
    have hlocked : (s.sampleChannel c (m.samples.get c)).isLocked = true := by
      rw [State.isLocked, s.sampleChannel_stu]
      exact hlock
    have hother : ∀ d, MarkPart.sample c ≠ .sample d →
        ((s.sampleChannel c (m.samples.get c)).lcu.get d).unlit = (s.lcu.get d).unlit := fun d hd =>
      (State.sampleChannel_get_other (by rintro rfl; exact hd rfl) s _).unlit
    have hcases : s.ScanOnly (s.sampleChannel c (m.samples.get c)) ∨
        s.sampleChannel c (m.samples.get c) = (s.sampleJudged c (m.samples.get c)).faultChannel c := by
      unfold State.sampleChannel
      split
      · dsimp only
        split
        · exact .inl ⟨_, _, _, rfl⟩
        · exact .inr rfl
        · exact .inl ⟨_, _, _, rfl⟩
      · exact .inl (.refl s)
    rcases hcases with hkept | hfault
    · exact .inl ⟨hkept, hlocked, hother⟩
    · refine .inr ?_
      rw [show State.markChange m s (.sample c) = _ from hfault]
      refine ⟨?_, .inl ⟨c, ?_⟩⟩
      · exact (State.gatePosition?_congr rfl).trans (State.abort_left (s := State.dropDrives (State.mapLaser
          (s.sampleJudged c (m.samples.get c)) c fun u => { u with state := .fault, drift := false })) hx .laserFault).1
      · rcases (s.sampleJudged c (m.samples.get c)).faultChannel_get c c with h | h <;> rw [h, if_pos rfl]
        rfl
  | judge =>
    have hscan := s.isLocked_iff.mp hlock
    by_cases hlost : s.stu.losesLock m.period
    · refine .inr ?_
      rw [State.markChange, State.judgeMark_loses hscan hlost]
      refine ⟨?_, .inr ⟨rfl, ?_⟩⟩
      · unfold State.loseLock
        refine (State.abort_left (x := x) ?_ .lockLost).1
        exact hx
      · rw [State.isLocked, State.loseLock_stu]
        rfl
    · refine .inl ?_
      rw [State.markChange, State.judgeMark_keeps hscan hlost]
      refine ⟨s.withStu_scanOnly _, ?_, fun _ _ => rfl⟩
      rw [State.isLocked_iff, State.withStu_stu]
      unfold ScanTiming.keptLock
      split <;> exact hscan

/-! ### The stages -/

/-- R156, R157: what a frame start of the head reads, the scanner and the channels left out. -/
structure State.Offer (s : State) (e : Entry) (i : ImagePart) (q : Nat) : Prop where
  head : s.head? = some e
  offered : e.offered = true
  image : e.image? = some i
  gate : s.gc.gate = .ready q
  halted : s.gc.halted = false
  held : s.fq.held.any = false

/-- R157: the exposure created, its gains and limits latched from given channel units. -/
def State.exposing (s : State) (e : Entry) (i : ImagePart) (v : SetContent) (q : Nat) (lcu : Rgb LaserUnit) : State :=
  (s.withEntries (changeAt s.fq.entries 0 (·.withState .exposing))).withGate
    (.exposing (newExposure (newContext e i v q lcu)))

/-- An exposure has begun within the mark. A channel was latched as the mark found it, or after its sample. -/
structure State.MarkBegun (s : State) (ps : List MarkPart) (u : State) (e : Entry) (i : ImagePart) (v : SetContent)
    (tag : MagazineTag) (q : Nat) (lcu : Rgb LaserUnit) : Prop extends s.Offer e i q where
  set : (s.setAt i.set).ready? = some v
  film : s.loadedTag? = some tag
  stock : v.stock = tag.stock
  only : (s.exposing e i v q lcu).ScanOnly u
  locked : u.isLocked = true
  latch : ∀ c, (lcu.get c).unlit = (s.lcu.get c).unlit ∨ (.sample c ∉ ps ∧ (lcu.get c).unlit = (u.lcu.get c).unlit)

/-- A state within a mark that found no exposure and no start due, with the parts of the mark still to come. -/
inductive State.MarkStage (s : State) (ps : List MarkPart) (u : State) : Prop
  | waits (only : s.ScanOnly u) (less : u.startless)
      (unsampled : ∀ c, .sample c ∈ ps → (u.lcu.get c).unlit = (s.lcu.get c).unlit ∨ (u.lcu.get c).state ≠ .ready)
  | begun {e : Entry} {i : ImagePart} {v : SetContent} {tag : MagazineTag} {q : Nat} {lcu : Rgb LaserUnit}
      (h : s.MarkBegun ps u e i v tag q lcu)
  | rejected {e : Entry} {i : ImagePart} {q : Nat} {r : State} (offer : s.Offer e i q) (only : s.ScanOnly r)
      (differs : ∀ v tag, (s.setAt i.set).ready? = some v → s.loadedTag? = some tag → v.stock ≠ tag.stock)
      (after : r.rejectStock.ScanOnly u) (latches : r.rejectStock.latchKept u)
  | ended (position : u.gatePosition? = none)
      (dark : (∃ c, (u.lcu.get c).state = .fault) ∨ (u.isLocked = false ∧ .judge ∉ ps))

/-! ### No start -/

theorem State.startIfDue_stands {s : State} (h : s.startless) (b : State) : State.startIfDue b s = s := by
  unfold State.startIfDue
  rw [h.1, h.2]
  rfl

/-- R157: a rejected head is no head to start, and a FLAT one leaves the queue HELD. -/
theorem State.rejectStock_blocked (s : State) : s.rejectStock.fq.held.any = true ∨
    ∀ e, s.rejectStock.head? = some e → e.offered = false := by
  rcases s.headRejected.settleHead_headKept with hheld | ⟨-, hhead⟩
  · exact .inl hheld
  · refine .inr fun e he => Bool.eq_false_of_not_eq_true fun ho => ?_
    obtain ⟨e', he', ho', -⟩ := hhead e he ho
    unfold State.head? at he'
    rw [State.headRejected, State.withEntries, State.withFq_fq, State.changeAt_head?, Option.map_eq_some_iff] at he'
    obtain ⟨e, -, rfl⟩ := he'
    exact nomatch ho'

theorem State.startless_of_blocked {s : State}
    (h : s.fq.held.any = true ∨ ∀ e, s.head? = some e → e.offered = false) : s.startless := by
  rcases h with hheld | hhead
  · simp [State.startless, State.frameReady_eq, State.runoutReady, hheld]
  · refine State.startless_of_head (Bool.eq_false_of_not_eq_true fun h => ?_)
      (.inl (Bool.eq_false_of_not_eq_true fun h => ?_))
    · obtain ⟨e, he, ho, -⟩ := s.headIsRunout_iff.mp h
      exact absurd ((hhead e he).symm.trans ho) nofun
    · obtain ⟨e, he, ho, -⟩ := s.headIsFrame_iff.mp h
      exact absurd ((hhead e he).symm.trans ho) nofun

theorem State.rejectStock_scanOnly_startless {r u : State} (h : r.rejectStock.ScanOnly u) : u.startless := by
  refine State.startless_of_blocked ?_
  unfold State.head?
  rw [h.fq]
  exact r.rejectStock_blocked

end Sys2Proof.Machine
end

section
/-! ## A mark goes from stage to stage -/

namespace Sys2Proof.Machine

theorem State.MarkStage.exposure?_or {s u : State} {ps : List MarkPart} (h : s.MarkStage ps u) (hs : s.exposure? = none) :
    u.exposure? = none ∨ ∃ x, u.exposure? = some x ∧ x.out = .waiting ∧ x.fifo = [] := by
  cases h with
  | waits only _ _ => exact .inl (only.exposure?.trans hs)
  | begun h => exact .inr ⟨_, h.only.exposure?, rfl, rfl⟩
  | @rejected _ _ _ r offer only _ after _ =>
    refine .inl (after.exposure?.trans ((State.exposure?_congr r.rejectStock_film).trans (only.exposure?.trans hs)))
  | ended position _ => exact .inl (State.exposure?_of_position position)

/-- R123: no line is put out at a mark that finds no exposure. -/
theorem State.MarkStage.lineless {s u : State} {ps : List MarkPart} (h : s.MarkStage ps u) (hs : s.exposure? = none)
    (m : MarkInput) : u.lastLineOnFilm = false ∧ u.markLine m = u := by
  rcases h.exposure?_or hs with hx | ⟨x, hx, hout, hfifo⟩
  · refine ⟨?_, State.markLine_ended hx m⟩
    unfold State.lastLineOnFilm
    rw [hx]
  · refine ⟨?_, ?_⟩
    · unfold State.lastLineOnFilm
      simp only [hx, hout]
    · unfold State.markLine State.lineOut
      simp only [hx, hout, hfifo, List.head?_nil]
      split <;> rfl

theorem State.MarkStage.mono {s u : State} {ps qs : List MarkPart} (h : s.MarkStage ps u) (hsub : ∀ p ∈ qs, p ∈ ps) :
    s.MarkStage qs u := by
  cases h with
  | waits only less unsampled => exact .waits only less fun c hc => unsampled c (hsub _ hc)
  | begun h => exact .begun { h with
      latch := fun c => (h.latch c).imp id fun ⟨hno, hsame⟩ => ⟨fun hc => hno (hsub _ hc), hsame⟩ }
  | rejected offer only differs after latches => exact .rejected offer only differs after latches
  | ended position dark => exact .ended position (dark.imp id fun ⟨hlock, hno⟩ => ⟨hlock, fun hp => hno (hsub _ hp)⟩)

/-- R156, R157: of a part that only the scanner and the channels kept from a frame start, a change of those begins the
frame, rejects it, or leaves it waiting. -/
theorem State.MarkStage.start {s b t : State} {ps : List MarkPart} (hless : s.startless) (hb : b.startless)
    (only : s.ScanOnly t) (unsampled : ∀ c, .sample c ∈ ps →
      (t.lcu.get c).unlit = (s.lcu.get c).unlit ∨ (t.lcu.get c).state ≠ .ready) :
    s.MarkStage ps (State.startIfDue b t) := by
  rcases State.startIfDue_cases b t with ⟨hready, -, hstart⟩ | ⟨hready, -, -⟩ | ⟨hstart, hkept⟩
  · obtain ⟨hno, hheld, hframe, hlock, hlasers⟩ := t.frameReady_iff.mp hready
    obtain ⟨hgate, hhalted⟩ := t.noStart_eq_false_iff.mp hno
    obtain ⟨e, i, q, hhead, hoffered, hi, hq, hcases⟩ := State.frameStart_cases (t.gateReady_iff.mpr hgate) hframe
    have hoffer : s.Offer e i q :=
      ⟨by rw [← hhead, State.head?, State.head?, only.fq], hoffered, hi, only.gc ▸ hq, only.gc ▸ hhalted,
        only.fq ▸ hheld⟩
    rcases hcases with ⟨v, tag, hv, htag, hstock, hbegun⟩ | ⟨hreject, hdiffers⟩
    · rw [hstart, hbegun]
      refine .begun (e := e) (i := i) (v := v) (tag := tag) (q := q) (lcu := t.lcu) { hoffer with
        set := ?_, film := ?_, stock := hstock, only := ?_, locked := hlock, latch := fun c => ?_ }
      · obtain ⟨w, l, a, rfl⟩ := only
        exact hv
      · obtain ⟨w, l, a, rfl⟩ := only
        exact htag
      · obtain ⟨w, l, a, rfl⟩ := only
        exact ⟨w, l, a, rfl⟩
      · by_cases hc : .sample c ∈ ps
        · exact .inl ((unsampled c hc).resolve_right fun hne => hne (t.lasersReady_iff.mp hlasers c))
        · exact .inr ⟨hc, rfl⟩
    · rw [hstart, hreject]
      refine .rejected hoffer only (fun v tag hv htag => hdiffers v tag ?_ ?_) (.refl _) (State.latchKept_refl _)
      · obtain ⟨w, l, a, rfl⟩ := only
        exact hv
      · obtain ⟨w, l, a, rfl⟩ := only
        exact htag
  · rw [only.runoutReady, hless.2] at hready
    exact absurd hready nofun
  · rw [hstart]
    exact .waits only (hkept hb) unsampled

/-- One part of the mark, taken from a stage with it still to come. -/
theorem State.MarkStage.change {s u : State} {p : MarkPart} {ps : List MarkPart} (h : s.MarkStage (p :: ps) u)
    (hnodup : (p :: ps).Nodup) (hs : s.exposure? = none) (hless : s.startless) (m : MarkInput) :
    s.MarkStage ps (State.startIfDue u (State.markChange m u p)) := by
  obtain ⟨hp, -⟩ := List.nodup_cons.mp hnodup
  have hother {c : Channel} (hc : .sample c ∈ ps) : p ≠ .sample c := fun heq => hp (heq ▸ hc)
  cases h with
  | waits only less unsampled =>
    refine State.MarkStage.start hless less
      (only.trans (State.markChange_scanOnly (only.exposure?.trans hs) m p)) fun c hc => ?_
    rcases State.markChange_other (hother hc) m u with hkept | ⟨-, hwarm⟩
    · rcases unsampled c (List.mem_cons_of_mem p hc) with hsame | hne
      · exact .inl (hkept.trans hsame)
      · exact .inr (by rwa [LaserUnit.state_of_unlit hkept])
    · exact .inr (by rw [hwarm]; exact nofun)
  | @begun e i v tag q lcu h =>
    have hx : u.exposure? = some (newExposure (newContext e i v q lcu)) := h.only.exposure?
    rcases State.markChange_exposing hx h.locked m p with ⟨honly, hlock, hkept⟩ | ⟨hposition, hdark⟩
    · have hless' := State.startless_of_exposure (honly.exposure?.trans hx)
      rw [State.startIfDue_stands hless']
      refine .begun { h with only := h.only.trans honly, locked := hlock, latch := fun c => ?_ }
      refine (h.latch c).imp id fun ⟨hno, hsame⟩ => ⟨fun hc => hno (List.mem_cons_of_mem p hc), ?_⟩
      rw [hsame, hkept c fun heq => hno (heq ▸ List.mem_cons_self ..)]
    · rw [State.startIfDue_stands (State.startless_of_noStart (State.noStart_of_position hposition))]
      exact .ended hposition (hdark.imp id fun ⟨hjudge, hlock⟩ => ⟨hlock, hjudge ▸ hp⟩)
  | @rejected e i q r offer only differs after latches =>
    have hx : u.exposure? = none :=
      after.exposure?.trans ((State.exposure?_congr r.rejectStock_film).trans (only.exposure?.trans hs))
    have hafter := after.trans (State.markChange_scanOnly hx m p)
    rw [State.startIfDue_stands (State.rejectStock_scanOnly_startless hafter)]
    exact .rejected offer only differs hafter (latches.trans (State.markChange_latchKept m u p))
  | ended position dark =>
    have honly := State.markChange_scanOnly (State.exposure?_of_position position) m p
    have hposition : (State.markChange m u p).gatePosition? = none :=
      (State.gatePosition?_congr (congrArg GateController.gate honly.gc)).trans position
    rw [State.startIfDue_stands (State.startless_of_noStart (State.noStart_of_position hposition))]
    refine .ended hposition ?_
    rcases dark with ⟨c, hc⟩ | ⟨hlock, hno⟩
    · exact .inl ⟨c, State.markChange_fault hc m p⟩
    · cases p with
      | sample c =>
        refine .inr ⟨?_, fun hmem => hno (List.mem_cons_of_mem _ hmem)⟩
        rw [State.isLocked, State.markChange, u.sampleChannel_stu]
        exact hlock
      | judge => exact absurd (List.mem_cons_self ..) hno

theorem State.MarkStage.step {s u : State} {p : MarkPart} {ps : List MarkPart} (h : s.MarkStage (p :: ps) u)
    (hnodup : (p :: ps).Nodup) (hs : s.exposure? = none) (hless : s.startless) (m : MarkInput) :
    s.MarkStage ps (State.markPart m u p) := by
  have hchange := h.change hnodup hs hless m
  rcases State.markPart_cases m u p with hstands | hstart
  · rw [hstands]
    exact h.mono fun _ hq => List.mem_cons_of_mem p hq
  · rw [hstart (hchange.lineless hs m).1]
    exact hchange

theorem State.MarkStage.steps {s u : State} {ps : List MarkPart} (h : s.MarkStage ps u) (hnodup : ps.Nodup)
    (hs : s.exposure? = none) (hless : s.startless) (m : MarkInput) :
    s.MarkStage [] (ps.foldl (State.markPart m) u) := by
  induction ps generalizing u with
  | nil => exact h
  | cons p ps ih => exact ih (h.step hnodup hs hless m) (List.nodup_cons.mp hnodup).2

theorem markParts_nodup (o : MarkOrder) : (markParts o).Nodup := by
  refine (markParts_perm o).nodup_iff.mpr (List.nodup_cons.mpr ⟨by simp, ?_⟩)
  exact (channelsInOrder_nodup o.channels).map fun _ _ h => MarkPart.sample.inj h

/-- A mark that finds no exposure and no start due reaches a stage with no part left, and ends. -/
theorem State.takeMark_stage {s : State} (hs : s.exposure? = none) (hless : s.startless) (ticks : Nat)
    (samples : Rgb (BitVec 12)) (o : MarkOrder) :
    ∃ u, s.MarkStage [] u ∧ s.takeMark ticks samples o = u.quiesce := by
  have hfirst : s.MarkStage (markParts o) s.newSweep :=
    .waits ⟨s.stu, s.dropDrives.lcu, s.au, rfl⟩ (s.newSweep_quiet.startless hless) fun c _ =>
      .inl (by rw [State.newSweep_get]; rfl)
  have hstage := hfirst.steps (markParts_nodup o) hs hless (s.markInput ticks samples)
  refine ⟨_, hstage, ?_⟩
  unfold State.takeMark
  dsimp only
  rw [(hstage.lineless hs _).2]

/-! ### The end of the mark -/

theorem ExposureContext.latchedFrom_unlit {x : ExposureContext} {c : Channel} {u v : LaserUnit} (h : x.latchedFrom c u)
    (huv : u.unlit = v.unlit) : x.latchedFrom c v := by
  rw [LaserUnit.eq_of_unlit huv] at h
  exact h

theorem State.exposing_tablesInRange {s : State} (h : s.tablesInRange) (e : Entry) (i : ImagePart) (v : SetContent)
    (q : Nat) (lcu : Rgb LaserUnit) : (s.exposing e i v q lcu).tablesInRange :=
  State.beginExposure_tablesInRange h e i v q

/-- R157: the exposure begun within the mark, at its end. -/
theorem State.MarkBegun.quiesce {s u : State} {e : Entry} {i : ImagePart} {v : SetContent} {tag : MagazineTag} {q : Nat}
    {lcu : Rgb LaserUnit} (h : s.MarkBegun [] u e i v tag q lcu) (htables : s.tablesInRange) :
    u.Begun e i v q lcu ∧ ∃ x, u.Opened u.quiesce x e i v q lcu ∧
      ∀ c, x.ctx.latchedFrom c (s.lcu.get c) ∨ x.ctx.latchedFrom c (u.lcu.get c) := by
  have hbegun : u.Begun e i v q lcu := by
    have hfirst := State.beginExposure_begun h.head h.image v q
    refine ⟨?_, ?_, h.image⟩
    · rw [h.only.gc]
      rfl
    · rw [State.head?, h.only.fq]
      exact hfirst.head
  have hutables : u.tablesInRange := by
    unfold State.tablesInRange
    rw [h.only.fq]
    exact State.exposing_tablesInRange htables e i v q lcu
  obtain ⟨x, hopened⟩ := hbegun.quiesce hutables
  refine ⟨hbegun, x, hopened, fun c => ?_⟩
  have hlatch := hopened.latches c
  exact (h.latch c).imp (ExposureContext.latchedFrom_unlit hlatch) fun ⟨_, hsame⟩ =>
    ExposureContext.latchedFrom_unlit hlatch hsame

theorem State.takeMark_filmEvent (s : State) (ticks : Nat) (samples : Rgb (BitVec 12)) (o : MarkOrder) :
    s.FilmEvent (s.takeMark ticks samples o) := by
  refine { s.takeMark_filmKept ticks samples o with
    starts := fun h => State.takeMark_startless h ticks samples o, opens := fun hs hless hgate htables x hx => ?_ }
  obtain ⟨u, hstage, hmark⟩ := State.takeMark_stage hs hless ticks samples o
  rw [hmark] at hx ⊢
  have hended (hu : u.exposure? = none) : s.Opens u.quiesce x :=
    absurd ((State.quiesce_ended hu).symm.trans hx) nofun
  cases hstage with
  | waits only _ _ => exact hended (only.exposure?.trans hs)
  | @rejected _ _ _ r _ only _ after _ =>
    exact hended (after.exposure?.trans ((State.exposure?_congr r.rejectStock_film).trans (only.exposure?.trans hs)))
  | ended position _ => exact hended (State.exposure?_of_position position)
  | @begun e i v tag q lcu h =>
    obtain ⟨hbegun, y, hopened, hlatched⟩ := h.quiesce htables
    obtain rfl : y = x := by
      have hgc := State.exposure?_eq_some.mp hx
      rw [hopened.gc] at hgc
      exact GateCycle.exposing.inj hgc
    have hstarted : u.Started e i v tag q lcu := by
      obtain ⟨w, l, a, hshape⟩ := h.only
      refine { hbegun with
        offered := h.offered, stock := h.stock, locked := h.locked
        set := ?_, film := ?_, halted := ?_, held := ?_, expected := ?_ }
      · rw [hshape]
        exact h.set
      · rw [hshape]
        exact h.film
      · rw [hshape]
        exact h.halted
      · rw [hshape]
        exact h.held
      · rw [hshape]
        exact hgate q (by rw [State.gatePosition?, h.gate])
    exact hstarted.opens hopened hlatched

end Sys2Proof.Machine
end

section
/-! ## The settling of O55: the film stays in step and no start is left due -/

namespace Sys2Proof.Machine
/-! ### Completions -/

/-- An event up to its end that keeps the film and what is exposed. -/
theorem State.prepared_of_outKept {s u : State} (h : s.OutKept u) (hexposes : u.isExposing = true → s.isExposing = true)
    (htables : s.tablesInRange → u.tablesInRange) : s.Prepared u :=
  { h.1 with exposes := hexposes, tables := htables }

theorem State.stagingReadDone_filmEvent (s : State) : s.FilmEvent s.stagingReadDone := by
  unfold State.stagingReadDone
  split
  next hread _ =>
    exact (State.prepared_of_film ((State.walk_film ..).trans s.freeChannel_film)
      ((s.freeChannel_follows (ReadChannel.mark?_of_staging (by rw [hread]; rfl))).trans
        (State.walk_follows ..)).tablesInRange).settle
  · exact .refl s

theorem State.fetchBytes_outKept (s : State) (e : Entry) (f : LineFetch) (bytes : List Byte) :
    s.OutKept (s.fetchBytes e f bytes) := by
  have hover (flipH : Bool) (g : LineFetch) : s.OutKept (s.handOver flipH g) := by
    unfold State.handOver
    refine State.OutKept.trans (t := s.withSr { s.sr with fetch := none }) (State.outKept_of_film rfl) ?_
    exact State.mapExposure_outKept _ fun _ => rfl
  unfold State.fetchBytes
  dsimp only
  repeat' split
  · exact hover _ _
  all_goals exact State.outKept_of_film rfl

theorem State.fetchReadDone_filmEvent (s : State) : s.FilmEvent s.fetchReadDone := by
  unfold State.fetchReadDone
  split
  next bytes f e hread _ _ =>
    have hkept : s.OutKept (s.freeChannel.fetchBytes e f bytes) :=
      (State.outKept_of_film s.freeChannel_film).trans (State.fetchBytes_outKept ..)
    have hexposing : s.ScanKept (s.freeChannel.fetchBytes e f bytes) :=
      (State.scanKept_of_film s.freeChannel_film s.freeChannel_stu s.freeChannel_lcu).trans (State.fetchBytes_scanKept ..)
    exact (State.prepared_of_outKept hkept hexposing.exposing
      ((s.freeChannel_follows (ReadChannel.mark?_of_fetch (by rw [hread]; rfl))).of_core
        (State.fetchBytes_writeCore ..)).tablesInRange).settle
  · exact .refl s

theorem State.markingDone_filmEvent (s : State) : s.FilmEvent s.markingDone := by
  unfold State.markingDone
  split
  · dsimp only
    split
    · exact (State.prepared_of_film ((State.endWriteBack_film _).trans s.freeChannel_film) fun h =>
        State.endWriteBack_tables (State.freeChannel_tables h)).settle
    · exact (State.prepared_of_film s.freeChannel_film State.freeChannel_tables).settle
  · exact .refl s

theorem State.lineDone_filmEvent (s : State) : s.FilmEvent s.lineDone := by
  have entered (r : LineRecord) : s.FilmEvent (s.settle (s.mapExposure (·.enter r))) :=
    (State.prepared_of_outKept (s.mapExposure_outKept (f := (·.enter r)) fun _ => rfl)
      (s.mapExposure_scanKept _).exposing (State.follows_of_core (s.mapExposure_writeCore _)).tablesInRange).settle
  unfold State.lineDone
  repeat' split
  any_goals exact .refl s
  exact entered _

/-! ### The other events -/

theorem whenRunning_filmEvent {f : State → State} {s t : State} (hf : s.FilmEvent (f s)) (ht : whenRunning f s = .next t) :
    s.FilmEvent t := by
  unfold whenRunning at ht
  split at ht <;> cases ht
  · exact .refl _
  · exact hf

theorem State.takeIndex_quiet (s : State) : s.Quiet s.takeIndex := by
  have hcounter (v : ScanTiming) (hv : v.scanner = s.stu.scanner) : s.Quiet (s.withStu v) := by
    refine .of_scan rfl rfl fun hlock hready => ⟨?_, hready⟩
    rw [State.isLocked, ← hv]
    exact hlock
  unfold State.takeIndex
  dsimp only
  repeat' split
  · exact hcounter _ rfl
  · exact hcounter _ rfl
  · exact (hcounter { s.stu with facet := some 0 } rfl).trans (State.loseLock_quiet _)
  all_goals exact .refl s

theorem State.missMark_quiet (s : State) : s.Quiet s.missMark := by
  have hcounter (v : ScanTiming) (hv : v.scanner = s.stu.scanner) : s.Quiet (s.withStu v) := by
    refine .of_scan rfl rfl fun hlock hready => ⟨?_, hready⟩
    rw [State.isLocked, ← hv]
    exact hlock
  unfold State.missMark
  dsimp only
  split
  · exact hcounter _ rfl
  · exact (hcounter { s.stu with facet := none, missing := .stopped } rfl).trans (State.loseLock_quiet _)
  all_goals exact hcounter _ rfl

theorem State.OutKept.quiet {s t : State} (h : s.OutKept t) (hfq : t.fq = s.fq) (hstu : t.stu = s.stu)
    (hlasers : t.lasersReady = s.lasersReady) (hexposes : t.isExposing = true → s.isExposing = true) : s.Quiet t :=
  .of_parts h.1 h.2 (State.headKept_of_fq hfq)
    (by rw [State.isLocked, hstu, hlasers]; exact fun hlock hready => ⟨hlock, hready⟩) hexposes

/-- R205: the assertion of RESET_N leaves the film and every condition of a start. -/
theorem State.hardReset_quiet (s : State) :
    s.Quiet ((s.dropDrives.endOperations.silenceBus).withPins { s.pins with resetLow := true }) := by
  have hended : s.dropDrives.OutKept s.dropDrives.endOperations := by
    unfold State.endOperations
    refine State.OutKept.trans ?_ (State.mapExposure_outKept _ (f := fun x => { x with line := none }) fun _ => rfl)
    exact State.outKept_of_film rfl
  have hquiet : s.dropDrives.Quiet s.dropDrives.endOperations := by
    refine hended.quiet (State.mapExposure_fq _ _) (State.mapExposure_stu _ _) ?_ ?_
    · rw [State.lasersReady, State.endOperations, State.mapExposure_lcu]
      rfl
    · exact (State.mapExposure_scanKept _ _).exposing
  exact (s.newSweep_quiet.trans hquiet).trans (.of_core rfl rfl rfl rfl)

theorem State.afterHardReset_filmEvent (s : State) (s1 s0 estopLow : Bool) (epoch lstep free : Nat) (pending : List Instr) :
    s.FilmEvent (State.afterHardReset s1 s0 estopLow epoch lstep free pending) := by
  have h : s.Quiet (State.afterHardReset s1 s0 estopLow epoch lstep free pending) :=
    .of_noStart ⟨fun _ => rfl, fun _ hne => absurd rfl hne, fun _ => State.gateAtExpected_of_none rfl⟩ rfl nofun
  exact h.filmEvent

/-- A command that is no message addressed to the part. -/
theorem exec_event_filmEvent {c : Instr} (hc : c.sender? = none) {s t : State} (ht : exec c s = .next t) :
    s.FilmEvent t := by
  have awaits : s.FilmEvent s.awaitIdle := .of_core rfl rfl rfl rfl
  have ends : s.FilmEvent s.endTenure := .of_core rfl rfl rfl rfl
  cases c <;> simp only [Instr.sender?, reduceCtorEq] at hc
  case broadcastMessage sender kind =>
    have hcast : s.Quiet (s.takeBroadcast sender kind) := by
      unfold State.takeBroadcast
      split
      · exact s.halt_quiet
      · exact .refl s
    simp only [exec, execBroadcastMessage] at ht
    split at ht
    · split at ht <;> cases ht
      · have h : s.Quiet (s.takeBroadcast sender kind).awaitIdle := hcast.trans (.of_core rfl rfl rfl rfl)
        exact h.filmEvent
      · exact awaits
    · cases ht; exact .refl _
  case frameDiscard =>
    simp only [exec, execFrameDiscard] at ht
    split at ht <;> cases ht
    · exact awaits
    · exact .refl _
  case frameIgnored =>
    simp only [exec, execFrameIgnored] at ht
    split at ht <;> cases ht
    · exact awaits
    · exact .refl _
  case replyCollision =>
    simp only [exec, execReplyCollision] at ht
    split at ht <;> cases ht
    · exact ends
    · exact .refl _
  case replyEnd =>
    simp only [exec, execReplyEnd] at ht
    split at ht <;> cases ht
    · exact ends
    · exact .refl _
  case portWrite offset bytes =>
    simp only [exec, execPortWrite] at ht
    split at ht <;> cases ht
    · unfold State.takeWrite
      split <;> exact .of_core rfl rfl rfl rfl
    · exact .refl _
  case portRead offset request =>
    simp only [exec, execPortRead] at ht
    split at ht <;> cases ht
    · unfold State.takeRead State.serveWaiting; dsimp only
      repeat' split
      all_goals exact .of_core rfl rfl rfl rfl
    · exact .refl _
  case pcieLinkUp =>
    simp only [exec, execPcieLinkUp] at ht
    split at ht <;> cases ht
    · exact .refl _
    · exact .of_core rfl rfl rfl rfl
  case deckBusIdle =>
    exact whenRunning_filmEvent (f := fun s => s.withDbi { s.dbi with waitIdle := false }) (.of_core rfl rfl rfl rfl) ht
  case startOfScanMark ticks samples order =>
    refine whenRunning_filmEvent ?_ ht
    split
    · exact s.takeMark_filmEvent ticks samples order
    · exact .refl s
  case indexPulse =>
    refine whenRunning_filmEvent ?_ ht
    split
    · exact s.takeIndex_quiet.filmEvent
    · exact .refl s
  case spinUpTimerExpiry =>
    refine whenRunning_filmEvent ?_ ht
    split
    · have h : s.Quiet s.scannerFault := .of_unlocked rfl rfl nofun
      exact h.filmEvent
    · exact .refl s
  case missingMarkTimerExpiry =>
    refine whenRunning_filmEvent ?_ ht
    split
    · exact s.missMark_quiet.filmEvent
    · exact .refl s
  case idleTimerExpiry =>
    refine whenRunning_filmEvent ?_ ht
    split
    · have h : s.Quiet s.standby := .of_unlocked rfl rfl nofun
      exact h.filmEvent
    · exact .refl s
  case estopNAsserted =>
    have hlevel : s.Quiet (s.withEstop true) := .of_core rfl rfl rfl rfl
    simp only [exec, execEstopNAsserted] at ht
    split at ht <;> cases ht
    · exact hlevel.filmEvent
    · exact (hlevel.trans (State.halt_quiet _)).filmEvent
  case estopNDeasserted => cases ht; exact .of_core rfl rfl rfl rfl
  case hardReset => cases ht; exact s.hardReset_quiet.filmEvent
  case hardResetEnd => cases ht; exact s.afterHardReset_filmEvent ..
  case stagingRead => exact whenRunning_filmEvent s.stagingReadDone_filmEvent ht
  case lineFetchRead => exact whenRunning_filmEvent s.fetchReadDone_filmEvent ht
  case writeBackMarking => exact whenRunning_filmEvent s.markingDone_filmEvent ht
  case lineComputed => exact whenRunning_filmEvent s.lineDone_filmEvent ht

theorem exec_filmEvent {c : Instr} {s t : State} (ht : exec c s = .next t) : s.FilmEvent t := by
  cases hc : c.sender? with
  | some a => exact exec_message_filmEvent hc ht
  | none => exact exec_event_filmEvent hc ht

theorem step_filmEvent {s t : State} (ht : step s = .next t) : s.FilmEvent t := by
  cases hp : s.pending with
  | nil => rw [step_nil s hp] at ht; cases ht; exact .refl s
  | cons c rest =>
    rw [step_cons s c rest hp] at ht
    obtain ⟨⟨hpositions, hloaded, hgate⟩, hstarts, hopens⟩ := exec_filmEvent ht
    exact ⟨⟨hpositions, hloaded, hgate⟩, hstarts, hopens⟩

/-- Settles O55: every command either makes no start due and keeps the film in step, or ends with the start it made
due; what follows that start makes no other due. -/
theorem stepKeepsFilmInvariants : Obligations.StepKeepsFilmInvariants := by
  rintro s t ⟨hpositions, hloaded, hgate, hnone⟩ ht
  have hevent := step_filmEvent ht
  exact ⟨hevent.positions hpositions, hevent.loaded hloaded, hevent.gate hgate,
    t.noStartDue_iff.mpr (hevent.starts (s.noStartDue_iff.mp hnone))⟩

end Sys2Proof.Machine
end

section
/-! ## A start taken at the end of an event (R156, R157, log entry 12) -/

namespace Sys2Proof.Machine

/-- Every condition of a frame start holds, and what it reads is known. -/
structure State.Poised (u : State) (e : Entry) (i : ImagePart) (v : SetContent) (tag : MagazineTag) (q : Nat) : Prop
    extends u.Offer e i q where
  locked : u.isLocked = true
  lasers : u.lasersReady = true
  set : (u.setAt i.set).ready? = some v
  film : u.loadedTag? = some tag

section Poised
variable {b u : State} {e : Entry} {i : ImagePart} {v : SetContent} {tag : MagazineTag} {q : Nat}

theorem State.Offer.headIsFrame (h : u.Offer e i q) : u.headIsFrame = true :=
  u.headIsFrame_iff.mpr ⟨e, h.head, h.offered, by rw [Entry.isImage, h.image]; rfl⟩

theorem State.Poised.frameReady (h : u.Poised e i v tag q) : u.frameReady = true :=
  u.frameReady_iff.mpr
    ⟨u.noStart_eq_false_iff.mpr ⟨⟨q, h.gate⟩, h.halted⟩, h.held, h.headIsFrame, h.locked, h.lasers⟩

/-- What a state that offers a frame lacks for its start. -/
theorem State.poised_of_offersFrame {s : State} (h : s.offersFrame e i v tag) (hgate : s.gc.gate = .ready q)
    (hheld : s.fq.held.any = false) : s.Poised e i v tag q := by
  obtain ⟨hhalted, hframe, hlocked, hlasers, hhead, hi, hv, htag⟩ := h
  obtain ⟨e', he', hoffered, -⟩ := s.headIsFrame_iff.mp hframe
  obtain rfl : e = e' := Option.some.inj (hhead.symm.trans he')
  exact ⟨⟨hhead, hoffered, hi, hgate, hhalted, hheld⟩, hlocked, hlasers, hv, htag⟩

/-- The start that an event makes due. -/
theorem State.Poised.startIfDue (h : u.Poised e i v tag q) (hb : b.frameReady = false) :
    State.startIfDue b u = if v.stock = tag.stock then u.beginExposure e i v q else u.rejectStock := by
  rw [State.startIfDue, h.frameReady, hb, ← State.frameStart_eq h.head h.gate h.image h.set h.film]
  rfl

/-- R157: with stock codes that agree the event that poised the part ends with the exposure begun. -/
theorem State.Poised.starts (h : u.Poised e i v tag q) (hstock : v.stock = tag.stock) (hb : b.frameReady = false)
    (htables : u.tablesInRange) :
    ∃ p x, ((u.beginExposure e i v q).withPort p).Opened (State.settle b u) x e i v q u.lcu := by
  obtain ⟨p, hport, -⟩ := State.recordsEnd_port b (u.beginExposure e i v q)
  have hsettle : State.settle b u = ((u.beginExposure e i v q).withPort p).quiesce := by
    rw [State.settle, h.startIfDue hb, if_pos hstock, hport]
  rw [hsettle]
  exact ⟨p, ((State.beginExposure_begun h.head h.image v q).of_port p).quiesce
    (State.beginExposure_tablesInRange htables e i v q)⟩

/-- What a frame start says of the state before the event, when the event itself left the channels, the scanner, the
bus, the optics, the pins, the magazine and the live map alone. -/
theorem State.Poised.frameStarted (h : u.Poised e i v tag q) (hstock : v.stock = tag.stock) (hb : b.frameReady = false)
    (htables : u.tablesInRange) {s : State} (hlcu : u.lcu = s.lcu) (hstu : u.stu = s.stu)
    (houter : u.dbi = s.dbi ∧ u.optics = s.optics ∧ u.pins = s.pins)
    (hfilm : u.gc.magazine = s.gc.magazine ∧ u.rm.live = s.rm.live) : s.frameStarted (State.settle b u) e i v q := by
  obtain ⟨p, x, hopened⟩ := h.starts hstock hb htables
  obtain ⟨hlcu', hdbi, hoptics, hpins, -⟩ := hopened.outer
  obtain ⟨hrm, -⟩ := hopened.rest
  obtain ⟨hdbi₀, hoptics₀, hpins₀⟩ := houter
  obtain ⟨hmagazine₀, hlive₀⟩ := hfilm
  refine ⟨x, by rw [hopened.gc], hopened.starts, hlcu ▸ hopened.latches, hopened.fetches, ?_, hlcu'.trans hlcu,
    hdbi.trans hdbi₀, hoptics.trans hoptics₀, hpins.trans hpins₀, ?_, ?_, ?_⟩
  · rw [hopened.stu, ← hstu]
    rfl
  · rw [hopened.gc]
    exact hmagazine₀
  · rw [hopened.gc]
    exact h.halted
  · rw [hrm]
    exact hlive₀

/-- A frame start touches of the film, the queue, the attention lines and the sets the gate and the head alone. -/
theorem State.Poised.starts_kept (h : u.Poised e i v tag q) (hstock : v.stock = tag.stock) (hb : b.frameReady = false)
    (htables : u.tablesInRange) :
    (State.settle b u).gc.advance = u.gc.advance ∧ (State.settle b u).gc.expected = u.gc.expected ∧
    (State.settle b u).rm = u.rm ∧ (State.settle b u).au = u.au ∧ (State.settle b u).cs = u.cs ∧
    (State.settle b u).fq = { u.fq with entries := changeAt u.fq.entries 0 (·.withState .exposing) } := by
  obtain ⟨p, x, hopened⟩ := h.starts hstock hb htables
  obtain ⟨hrm, hfq, hau, hcs⟩ := hopened.rest
  exact ⟨by rw [hopened.gc]; rfl, by rw [hopened.gc]; rfl, hrm, hau, hcs, hfq⟩

end Poised

theorem State.frameReady_of_gate {s : State} (h : s.gateReady = false) : s.frameReady = false :=
  (State.startless_of_noStart (by simp [State.noStart, h])).1

theorem State.frameReady_of_held {s : State} (h : s.fq.held.any = true) : s.frameReady = false := by
  simp [State.frameReady_eq, h]

theorem State.frameReady_of_head {s : State} (h : ∀ e, s.head? = some e → e.offered = false) : s.frameReady = false :=
  (State.startless_of_blocked (.inr h)).1

/-! ### The events that poise the part -/

/-- First: a GATE_READY. -/
theorem State.filmRegistered_poised {s : State} {e : Entry} {i : ImagePart} {v : SetContent} {tag : MagazineTag} {q : Nat}
    (hpassed : s.gc.expected ≤ q) (hheld : s.fq.held.any = false) (hoffers : s.offersFrame e i v tag) :
    (s.filmRegistered q).Poised e i v tag q := by
  obtain ⟨m, p, hshape⟩ := State.filmRegistered_shape hpassed
  rw [hshape]
  exact State.poised_of_offersFrame hoffers rfl hheld

theorem State.gateReady_of_closed {s : State} (h : s.gc.gate = .advancing ∨ s.gc.gate = .fault) : s.gateReady = false := by
  unfold State.gateReady
  rcases h with h | h <;> rw [h]

/-- R18: the held-reason set emptied, before any start. -/
def State.released (s : State) : State := s.withFq { s.fq with held := .empty }

theorem release_taken {s : State} {a : Addr} (htakes : s.takes a = true) (hrole : roleOf a = .job) :
    exec (.release a (.fits ())) s = .next ((State.settle s s.released).replying (.release a (.fits ())) a 0x16 .ok
      (.held s.fq.held)) := by
  have hdecided : decideRelease (roleOf a) (.fits ()) s = accept s.release (.held s.fq.held) := by
    simp [decideRelease, hrole]
  exact (onMessage_taken _ _ _ _ s htakes).trans (by rw [hdecided]; rfl)

/-- Second: a RELEASE. -/
theorem State.released_poised {s : State} {e : Entry} {i : ImagePart} {v : SetContent} {tag : MagazineTag} {q : Nat}
    (hgate : s.gc.gate = .ready q) (hoffers : s.offersFrame e i v tag) : s.released.Poised e i v tag q :=
  State.poised_of_offersFrame hoffers hgate rfl

/-- R110: no wake is due of a scanner that is LOCKED. -/
theorem State.wakeIfDue_locked {s : State} (h : s.isLocked = true) : s.wakeIfDue = s := by
  have hlocked := s.isLocked_iff.mp h
  rw [State.wakeIfDue, hlocked, if_neg (by simp)]

end Sys2Proof.Machine
end

section
/-! ## A FLAT entry submitted into the empty list, and the head written back with a STAGED entry behind it -/

namespace Sys2Proof.Machine
/-! ### Reference counts -/

/-- A count that changes leaves what the sets hold. -/
theorem State.ready?_of_countChanged {s t : State} {set : Option Nat} {f : Nat → Nat}
    (h : QueueCore.countChanged s.cs t.cs set f) (id : Nat) : (t.setAt id).ready? = (s.setAt id).ready? := by
  by_cases hid : id < 8
  · have hstate : (t.setAt id).state = (s.setAt id).state := (h id hid).1
    rw [SetRecord.ready?, SetRecord.ready?, hstate]
  · simp [State.setAt, Nat.le_of_not_lt hid]

theorem State.useCount_of_countChanged {s t : State} {id : Nat} {f : Nat → Nat}
    (h : QueueCore.countChanged s.cs t.cs (some id) f) (hid : id < 8) :
    (t.setAt id).useCount = f (s.setAt id).useCount :=
  (h id hid).2.trans (if_pos rfl)

/-! ### A FLAT submission into the empty list -/

/-- R7, R10: the entry a FLAT submission into the empty list makes. -/
def flatHead (serial : Word16) (a : Addr) (g : FlatArgs) : Entry :=
  ⟨serial, ⟨a.toNat, g.tag⟩, .staged, .flat ⟨g.set, g.width, g.height, g.lights, g.repeats, 0⟩ g.values⟩

section SubmitFlat
variable {s : State} {a : Addr} {g : FlatArgs} {v : SetContent} {tag : MagazineTag} {q : Nat}

theorem submitFlat_taken (htakes : s.takes a = true) (hrole : roleOf a = .job ∨ roleOf a = .calibration)
    (hempty : s.fq.entries = []) (hvalid : (flatSubmission g).valid = true) (hfront : g.front = false)
    (hv : (s.setAt g.set).ready? = some v) : exec (.submitFlat a (.fits g)) s =
      .next ((State.settle s (s.enlisted a (flatSubmission g))).replying (.submitFlat a (.fits g)) a 0x11 .ok
        (.bytes (beBytes 2 s.fq.serial.toNat ++ beBytes 1 0))) := by
  have hpass : submissionFailure s a (flatSubmission g) = none := by
    have hback : (flatSubmission g).front = false := hfront
    rw [submissionFailure_eq, if_neg (by simp [hempty]), if_neg (by simp [hvalid]), if_neg, if_neg (by simp [hback]),
      if_neg (by simp [hback])]
    rintro ⟨id, hid, hnone⟩
    obtain rfl : g.set = id := Option.some.inj hid
    exact absurd (hv.symm.trans hnone) nofun
  have hplace : s.placeOf (flatSubmission g).front = 0 := by
    rw [show (flatSubmission g).front = false from hfront, State.placeOf, hempty]
    rfl
  rw [exec_submission (roles := [.job, .calibration]) rfl rfl rfl (by simpa using hrole) rfl htakes,
    decideSubmit_passes (by rw [hempty]; decide) hpass, hplace, s.submit_eq]
  rfl

/-- R7 to R10: what a FLAT submission into the empty list of a LOCKED part changes. -/
theorem State.enlisted_flat (hempty : s.fq.entries = []) (hfront : g.front = false) (hlocked : s.isLocked = true) :
    ∃ st c p m pa pb cs, s.enlisted a (flatSubmission g) = { s with
      fq := { s.fq with serial := s.fq.serial + 1, entries := [flatHead s.fq.serial a g] }
      sr := { s.sr with staging := st, wbPos := p, channel := c }
      fmc := { s.fmc with mem := m, pinA := pa, pinB := pb }
      cs := cs } ∧ QueueCore.countChanged s.cs cs (some g.set) (· + 1) := by
  obtain ⟨st, c, p, m, pa, pb, cs, hjoin, -, hcount⟩ := s.joinQueue_shape a (flatSubmission g) rfl
  have hback : (flatSubmission g).front = false := hfront
  have hplace : s.placeOf false = 0 := by
    rw [State.placeOf, hempty]
    rfl
  have hroom : s.roomEntries false = [] := hempty
  rw [hback, hplace, hroom] at hjoin
  refine ⟨st, c, p, m, pa, pb, cs, ?_, hcount⟩
  have hstands : (s.joinQueue a (flatSubmission g)).wakeIfDue = s.joinQueue a (flatSubmission g) :=
    State.wakeIfDue_locked (by rw [hjoin]; exact hlocked)
  exact hstands.trans hjoin

/-- Third: a SUBMIT_FLAT into the empty list. -/
theorem State.enlisted_poised (hgate : s.gc.gate = .ready q) (hheld : s.fq.held.any = false)
    (hempty : s.fq.entries = []) (hhalted : s.gc.halted = false) (hlocked : s.isLocked = true)
    (hlasers : s.lasersReady = true) (hfront : g.front = false) (hv : (s.setAt g.set).ready? = some v)
    (htag : s.loadedTag? = some tag) : (s.enlisted a (flatSubmission g)).Poised (flatHead s.fq.serial a g)
      ⟨g.set, g.width, g.height, g.lights, g.repeats, 0⟩ v tag q := by
  obtain ⟨st, c, p, m, pa, pb, cs, hshape, hcount⟩ := s.enlisted_flat (a := a) hempty hfront hlocked
  rw [hshape]
  exact ⟨⟨rfl, rfl, rfl, hgate, hhalted, hheld⟩, hlocked, hlasers, (State.ready?_of_countChanged hcount _).trans hv, htag⟩

theorem State.enlisted_tablesInRange (hempty : s.fq.entries = []) (hfront : g.front = false)
    (hlocked : s.isLocked = true) : (s.enlisted a (flatSubmission g)).tablesInRange := by
  obtain ⟨st, c, p, m, pa, pb, cs, hshape, -⟩ := s.enlisted_flat (a := a) (g := g) hempty hfront hlocked
  rw [hshape]
  intro e he p hp
  obtain rfl : e = _ := List.mem_singleton.mp he
  exact nomatch hp

end SubmitFlat

end Sys2Proof.Machine
end

section
/-! ## The head written back with a STAGED entry behind it (R38, R157) -/

namespace Sys2Proof.Machine

/-- R15: a head that is not REJECTED needs no settling, whatever stands behind it. -/
theorem State.takeRejectedHead_of_head (n : Nat) {s : State} (h : ∀ e, s.head? = some e → e.rejected? = none) :
    State.takeRejectedHead n s = s := by
  cases n with
  | zero => rfl
  | succ n =>
    unfold State.takeRejectedHead
    split
    · rfl
    next e he => rw [h e he]

theorem State.settleHead_of_head {s : State} (h : ∀ e, s.head? = some e → e.rejected? = none) : s.settleHead = s :=
  State.takeRejectedHead_of_head _ h

/-- R22, R38: a write-back that ends with no rejection raises ENTRY_RETIRED for an exposed entry, and nothing for a
cancelled one. -/
theorem State.writtenBack_unrejected {s : State} {e : Entry} {p : StoredPart} {ks : List Key} {pos : Nat}
    (he : s.fq.entries[pos]? = some e) (hp : e.stored? = some p)
    (hc : p.completion = some .exposed ∨ p.completion = some .cancelled) (hlength : s.fq.entries.length ≠ 1) :
    ∃ c m a b au, s.writtenBack e ks pos = { s with
      fq := { s.fq with entries := removedAt s.fq.entries pos }
      sr := { s.sr with wbList := ks, wbPos := 0, channel := c }
      fmc := { s.fmc with mem := m, pinA := a, pinB := b }
      cs := (s.unname e).cs
      au := au } ∧
    s.raisedOnly (s.writtenBack e ks pos) (if p.completion = some .exposed then [.entryRetired] else []) := by
  obtain ⟨c, m, hunlisted⟩ := s.unlisted_shape e ks
  obtain ⟨a, b, au, hremoved, hraised⟩ := State.removeAt_shape (s := s.unlisted e ks) (pos := pos) (e := e)
    (by rw [hunlisted]; exact he)
  have hcs : ((s.unlisted e ks).unname e).cs = (s.unname e).cs := by
    rw [hunlisted]; unfold State.unname; cases e.image? <;> rfl
  have hquiet : s.raisedOnly ((s.unlisted e ks).removeAt pos) [] := by
    have hau : (s.unlisted e ks).au = s.au := by rw [hunlisted]
    rw [if_neg (by rw [hunlisted]; exact hlength)] at hraised
    unfold State.raisedOnly at hraised ⊢
    rwa [hau] at hraised
  have hshape : (s.unlisted e ks).removeAt pos = { s with
      fq := { s.fq with entries := removedAt s.fq.entries pos }
      sr := { s.sr with wbList := ks, wbPos := 0, channel := c }
      fmc := { s.fmc with mem := m, pinA := a, pinB := b }
      cs := (s.unname e).cs
      au := au } := hremoved.trans (by rw [hcs, hunlisted])
  have hcompletion : e.stored?.bind StoredPart.completion = p.completion := by rw [hp]; rfl
  unfold State.writtenBack
  rcases hc with hc | hc
  · rw [State.reportCompletion_exposed (hcompletion.trans hc), if_pos hc]
    exact ⟨c, m, a, b, mapLines (·.latch Event.entryRetired.set) au, by rw [hshape]; rfl,
      State.raisedOnly_raise hquiet .entryRetired⟩
  · rw [State.reportCompletion_cancelled (hcompletion.trans hc), if_neg (by rw [hc]; exact nofun)]
    exact ⟨c, m, a, b, au, hshape, hquiet⟩

/-- R36, R38: the last marking of a write-back ends it, with the start that this makes due. -/
theorem State.markingDone_ends {s : State} {control : Byte} {k : Key} {ks : List Key} {e : Entry} {pos : Nat}
    (hbusy : s.sr.channel.busy = some (.mark control)) (hlast : control.getLsbD 1 = true) (hlist : s.sr.wbList = k :: ks)
    (hfind : findEntry s.fq.entries k = some e) (hpos : positionOf s.fq.entries k = some pos) (hkey : e.key = k)
    (hunrejected : ∀ e', (s.writtenBack e ks pos).head? = some e' → e'.rejected? = none) :
    s.markingDone = State.settle s (s.writtenBack e ks pos) := by
  obtain ⟨c, p, m, hfreed⟩ := s.freeChannel_channelOnly
  have hended : s.freeChannel.endWriteBack = s.writtenBack e ks pos := by
    rw [State.endWriteBack_eq (k := k) (ks := ks) (e := e) (pos := pos) (by rw [hfreed]; exact hlist)
      (by rw [hfreed]; exact hfind) (by rw [hfreed]; exact hpos), ← hkey]
    exact State.settleHead_of_head (s := s.writtenBack e ks pos) hunrejected
  have hmark : s.sr.channel.mark? = some control := by simp [ReadChannel.mark?, hbusy]
  unfold State.markingDone
  rw [hmark]
  dsimp only
  rw [if_pos ((writeBackStops_iff _ _ _).mpr (.inl hlast)), hended]

section WriteBack
variable {s : State} {control : Byte} {k : Key} {ks : List Key} {e0 e : Entry} {es : List Entry} {i j : ImagePart}
  {p : StoredPart} {v : SetContent} {tag : MagazineTag} {q : Nat}

/-- The head written back: the entry behind it comes to the head as it was, and the one behind that enters the window. -/
theorem State.writtenBack_head (hes : s.fq.entries = e0 :: e :: es) (hbody : e0.body = .stored j p)
    (hc : p.completion = some .exposed ∨ p.completion = some .cancelled) :
    ∃ c m a b au, s.writtenBack e0 ks 0 = { s with
      fq := { s.fq with entries := e :: changeAt es 0 Entry.entered }
      sr := { s.sr with wbList := ks, wbPos := 0, channel := c }
      fmc := { s.fmc with mem := m, pinA := a, pinB := b }
      cs := (s.unname e0).cs
      au := au } ∧
    s.raisedOnly (s.writtenBack e0 ks 0) (if p.completion = some .exposed then [.entryRetired] else []) := by
  obtain ⟨c, m, a, b, au, hshape, hraised⟩ := State.writtenBack_unrejected (ks := ks) (pos := 0)
    (by rw [hes]; rfl) (by rw [Entry.stored?, hbody]) hc (by rw [hes]; simp)
  have hremoved : removedAt s.fq.entries 0 = e :: changeAt es 0 Entry.entered := by
    rw [hes]
    rfl
  exact ⟨c, m, a, b, au, hremoved ▸ hshape, hraised⟩

theorem writeBackMarking_settles (hrun : s.pins.resetLow = false) (hbusy : s.sr.channel.busy = some (.mark control))
    (hlast : control.getLsbD 1 = true) (hlist : s.sr.wbList = k :: ks) (hes : s.fq.entries = e0 :: e :: es)
    (hkey : e0.key = k) (hbody : e0.body = .stored j p)
    (hc : p.completion = some .exposed ∨ p.completion = some .cancelled) (hstaged : e.state = .staged) :
    exec .writeBackMarking s = .next (State.settle s (s.writtenBack e0 ks 0)) := by
  obtain ⟨c, m, a, b, au, hshape, -⟩ := State.writtenBack_head (ks := ks) hes hbody hc
  rw [writeBackMarking_running hrun, State.markingDone_ends hbusy hlast hlist (e := e0) (pos := 0)
    (by simp [hes, findEntry, hkey]) (by simp [hes, positionOf, hkey]) hkey]
  intro e' he'
  rw [hshape] at he'
  obtain rfl : e = e' := Option.some.inj he'
  simp [Entry.rejected?, hstaged]

/-- Before the event its head is leaving. -/
theorem State.frameReady_of_leaving (hes : s.fq.entries = e0 :: e :: es) (hbody : e0.body = .stored j p)
    (hc : p.completion = some .exposed ∨ p.completion = some .cancelled) : s.frameReady = false := by
  refine State.frameReady_of_head fun e' he' => ?_
  rw [State.head?, hes] at he'
  obtain rfl : e0 = e' := Option.some.inj he'
  rcases hc with hc | hc <;> simp [Entry.offered, Entry.leaving, Entry.stored?, hbody, hc]

/-- Fourth: the end of the write-back of the head, with the next entry STAGED behind it. -/
theorem State.writtenBack_poised (hes : s.fq.entries = e0 :: e :: es) (hbody : e0.body = .stored j p)
    (hc : p.completion = some .exposed ∨ p.completion = some .cancelled) (hstaged : e.state = .staged)
    (hleaving : e.leaving = false) (hi : e.image? = some i) (hgate : s.gc.gate = .ready q)
    (hhalted : s.gc.halted = false) (hheld : s.fq.held.any = false) (hlocked : s.isLocked = true)
    (hlasers : s.lasersReady = true) (hv : (s.setAt i.set).ready? = some v) (htag : s.loadedTag? = some tag) :
    (s.writtenBack e0 ks 0).Poised e i v tag q := by
  obtain ⟨c, m, a, b, au, hshape, -⟩ := State.writtenBack_head (ks := ks) hes hbody hc
  rw [hshape]
  refine ⟨⟨rfl, e.offered_iff.mpr ⟨hstaged, hleaving⟩, hi, hgate, hhalted, hheld⟩, hlocked, hlasers, ?_, htag⟩
  exact (State.ready?_of_countChanged (s.unname_countChanged e0) _).trans hv

end WriteBack

end Sys2Proof.Machine
end

section
/-! ## A mark that makes the start due, and the settling of O39 -/

namespace Sys2Proof.Machine

section Mark
variable {s t : State} {e : Entry} {i : ImagePart} {v : SetContent} {tag : MagazineTag} {q : Nat}

/-- A mark is taken or passes unseen. -/
theorem startOfScanMark_cases {ticks : Nat} {m : Rgb (BitVec 12)} {o : MarkOrder}
    (ht : exec (.startOfScanMark ticks m o) s = .next t) : t = s ∨ t = s.takeMark ticks m o := by
  change execStartOfScanMark ticks m o s = .next t at ht
  unfold execStartOfScanMark whenRunning at ht
  split at ht <;> cases ht
  · exact .inl rfl
  · dsimp only
    split
    · exact .inr rfl
    · exact .inl rfl

theorem State.offer_of_head (hgate : s.gc.gate = .ready q) (hhalted : s.gc.halted = false) (hheld : s.fq.held.any = false)
    (hframe : s.headIsFrame = true) (hhead : s.head? = some e) (hi : e.image? = some i) : s.Offer e i q := by
  obtain ⟨e', he', hoffered, -⟩ := s.headIsFrame_iff.mp hframe
  obtain rfl : e = e' := Option.some.inj (hhead.symm.trans he')
  exact ⟨hhead, hoffered, hi, hgate, hhalted, hheld⟩

/-- The scanner, the channels and the attention lines aside, an offer is the same. -/
theorem State.Offer.of_scanOnly {u : State} (h : s.Offer e i q) (only : s.ScanOnly u) : u.Offer e i q :=
  ⟨by rw [State.head?, only.fq]; exact h.head, h.offered, h.image, only.gc ▸ h.gate, only.gc ▸ h.halted,
    only.fq ▸ h.held⟩

/-- A frame that waits for the scanner and the channels alone starts once they are ready. -/
theorem State.Offer.waits_no_more {u : State} (h : s.Offer e i q) (only : s.ScanOnly u) (less : u.startless)
    (hlocked : u.isLocked = true) (hlasers : u.lasersReady = true) : False := by
  have hoffer := h.of_scanOnly only
  have hready : u.frameReady = true := u.frameReady_iff.mpr
    ⟨u.noStart_eq_false_iff.mpr ⟨⟨q, hoffer.gate⟩, hoffer.halted⟩, hoffer.held, hoffer.headIsFrame, hlocked, hlasers⟩
  exact absurd (less.1.symm.trans hready) nofun

theorem State.Offer.unique {e' : Entry} {i' : ImagePart} {q' : Nat} (h : s.Offer e i q) (k : s.Offer e' i' q') :
    e' = e ∧ i' = i ∧ q' = q := by
  obtain rfl : e' = e := Option.some.inj (k.head.symm.trans h.head)
  exact ⟨rfl, Option.some.inj (k.image.symm.trans h.image), GateCycle.ready.inj (k.gate.symm.trans h.gate)⟩

/-- Fifth: a mark that leaves the scanner LOCKED and every channel READY has started the frame or rejected it, by the
stock codes. -/
theorem State.mark_decides {ticks : Nat} {m : Rgb (BitVec 12)} {o : MarkOrder} (hnone : s.noStartDue)
    (hoffer : s.Offer e i q) (hv : (s.setAt i.set).ready? = some v) (htag : s.loadedTag? = some tag)
    (ht : exec (.startOfScanMark ticks m o) s = .next t) (hlocked : t.isLocked = true) (hlasers : t.lasersReady = true) :
    (∃ u lcu, s.MarkBegun [] u e i v tag q lcu ∧ t = u.quiesce) ∨
    (v.stock ≠ tag.stock ∧
      ∃ r u, s.ScanOnly r ∧ r.rejectStock.ScanOnly u ∧ r.rejectStock.latchKept u ∧ t = u.quiesce) := by
  have hless := s.noStartDue_iff.mp hnone
  rcases startOfScanMark_cases ht with rfl | rfl
  · exact (hoffer.waits_no_more (.refl _) hless hlocked hlasers).elim
  obtain ⟨u, hstage, hmark⟩ := State.takeMark_stage (State.exposure?_of_ready hoffer.gate) hless ticks m o
  rw [hmark] at hlocked hlasers ⊢
  have hulocked : u.isLocked = true := by
    obtain ⟨j, hstu⟩ := u.quiesce_stu
    rw [State.isLocked, hstu] at hlocked
    exact hlocked
  have hulasers : u.lasersReady = true := by
    rw [State.lasersReady, u.quiesce_lcu] at hlasers
    exact hlasers
  cases hstage with
  | waits only less _ => exact (hoffer.waits_no_more only less hulocked hulasers).elim
  | @begun e' i' v' tag' q' lcu h =>
    obtain ⟨rfl, rfl, rfl⟩ := hoffer.unique h.toOffer
    obtain rfl : v' = v := Option.some.inj (h.set.symm.trans hv)
    obtain rfl : tag' = tag := Option.some.inj (h.film.symm.trans htag)
    exact .inl ⟨u, lcu, h, rfl⟩
  | @rejected e' i' q' r h only differs after latches =>
    obtain ⟨rfl, rfl, rfl⟩ := hoffer.unique h
    exact .inr ⟨differs v tag hv htag, r, u, only, after, latches, rfl⟩
  | ended _ dark =>
    rcases dark with ⟨c, hc⟩ | ⟨hno, -⟩
    · have := u.lasersReady_iff.mp hulasers c
      exact absurd (hc.symm.trans this) nofun
    · exact absurd (hno.symm.trans hulocked) nofun

end Mark

/-- Settles O39: each of the five events poises the part, and the end of the event starts the frame; the sixth clause
is what every event does to the film and the starts. -/
theorem frameStartLatchesContext : Obligations.FrameStartLatchesContext := by
  refine ⟨fun a q e i v tag s htakes hrole hgate hpassed hcapacity hheld hoffers hstock htables => ?_,
    fun a q e i v tag s htakes hrole hgate hheld hoffers hstock htables => ?_,
    fun a q g v tag s htakes hrole hgate hheld hempty hhalted hlocked hlasers hvalid hfront hv htag hstock => ?_,
    fun control k ks e0 e es j i p q v tag s hrun hbusy hlast hlist hes hkey hbody hc _ hstaged hleaving hi hgate hhalted
      hheld hlocked hlasers hv htag hstock htables => ?_,
    fun ticks m o q e i v tag s t hgate hnone hhalted hheld hframe hhead hi hv htag hstock htables ht hlocked hlasers => ?_,
    fun c s t hs hnone hgate htables ht => ?_⟩
  · have hopen := hgate.imp id fun h => Or.inr (a := s.gateReady = true) h
    have hpoised := State.filmRegistered_poised hpassed hheld hoffers
    have hbefore := State.frameReady_of_gate (State.gateReady_of_closed hgate)
    have htables' := s.filmRegistered_tablesInRange htables q
    obtain ⟨m, p, hshape⟩ := State.filmRegistered_shape hpassed
    obtain ⟨hadvance, hexpected, hrm, hau, hcs, hfq⟩ := hpoised.starts_kept hstock hbefore htables'
    refine ⟨_, gateReady_taken htakes hrole hopen hpassed hcapacity,
      hpoised.frameStarted hstock hbefore htables' (by rw [hshape]) (by rw [hshape]) (by rw [hshape]; exact ⟨rfl, rfl, rfl⟩)
        (by rw [hshape]; exact ⟨rfl, rfl⟩), ?_⟩
    rw [hadvance, hexpected, hrm, hau, hcs, hfq, hshape]
    exact ⟨rfl, rfl, rfl, rfl, rfl, rfl⟩
  · have hpoised := State.released_poised hgate hoffers
    have hbefore := State.frameReady_of_held hheld
    have htables' : s.released.tablesInRange := htables
    obtain ⟨hadvance, hexpected, hrm, hau, hcs, hfq⟩ := hpoised.starts_kept hstock hbefore htables'
    refine ⟨_, release_taken htakes hrole,
      hpoised.frameStarted hstock hbefore htables' rfl rfl ⟨rfl, rfl, rfl⟩ ⟨rfl, rfl⟩, ?_⟩
    rw [hadvance, hexpected, hrm, hau, hcs, hfq]
    exact ⟨rfl, rfl, rfl, rfl, rfl, rfl⟩
  · have hpoised := State.enlisted_poised (a := a) hgate hheld hempty hhalted hlocked hlasers hfront hv htag
    have hbefore : s.frameReady = false := State.frameReady_of_head fun e' he' => by
      rw [State.head?, hempty] at he'
      exact nomatch he'
    have htables' := State.enlisted_tablesInRange (a := a) hempty hfront hlocked
    obtain ⟨st, c, p, m, pa, pb, cs, hshape, -⟩ := s.enlisted_flat (a := a) hempty hfront hlocked
    obtain ⟨-, -, hrm, hau, -, hfq⟩ := hpoised.starts_kept hstock hbefore htables'
    refine ⟨_, submitFlat_taken htakes hrole hempty hvalid hfront hv,
      hpoised.frameStarted hstock hbefore htables' (by rw [hshape]) (by rw [hshape]) (by rw [hshape]; exact ⟨rfl, rfl, rfl⟩)
        (by rw [hshape]; exact ⟨rfl, rfl⟩), ?_⟩
    rw [hrm, hau, hfq, hshape]
    exact ⟨rfl, rfl, rfl⟩
  · have hpoised := State.writtenBack_poised (ks := ks) hes hbody hc hstaged hleaving hi hgate hhalted hheld hlocked hlasers hv
      htag
    have hbefore := State.frameReady_of_leaving hes hbody hc
    have htables' := State.writtenBack_tables (ks := ks) (show s.fq.entries[0]? = some e0 by rw [hes]; rfl) htables
    obtain ⟨c, m, a, b, au, hshape, hraised⟩ := State.writtenBack_head (ks := ks) hes hbody hc
    obtain ⟨-, -, hrm, hau, -, hfq⟩ := hpoised.starts_kept hstock hbefore htables'
    refine ⟨_, writeBackMarking_settles hrun hbusy hlast hlist hes hkey hbody hc hstaged,
      hpoised.frameStarted hstock hbefore htables' (by rw [hshape]) (by rw [hshape]) (by rw [hshape]; exact ⟨rfl, rfl, rfl⟩)
        (by rw [hshape]; exact ⟨rfl, rfl⟩), ?_, ?_, ?_, State.raisedOnly_of_au hraised hau⟩
    · rw [hrm, hshape]
    · rw [State.head?, hfq, hshape]
      rfl
    · rw [hfq, hshape]
      exact congrArg (e.key :: ·) (changeAt_map es 0 _ _ Entry.entered_key)
  · have hoffer := State.offer_of_head hgate hhalted hheld hframe hhead hi
    rcases State.mark_decides hnone hoffer hv htag ht hlocked hlasers with ⟨u, lcu, hbegun, rfl⟩ | ⟨hdiffers, -⟩
    · obtain ⟨-, x, hopened, hlatched⟩ := hbegun.quiesce htables
      obtain ⟨hlcu, -⟩ := hopened.outer
      obtain ⟨-, hfq, -⟩ := hopened.rest
      refine ⟨x, ?_, hopened.starts, hopened.fetches, ?_, ?_⟩
      · rw [State.exposure?_eq_some, hopened.gc]
      · rw [hlcu]
        exact hlatched
      · rw [hfq, hbegun.only.fq]
        rfl
    · exact absurd hstock hdiffers
  · have hevent := exec_filmEvent ht
    have hless := s.noStartDue_iff.mp hnone
    exact ⟨t.noStartDue_iff.mpr (hevent.starts hless), hevent.opens hs hless hgate htables⟩

end Sys2Proof.Machine
end

section
/-! ## What the rejection of a head makes of the queue (R15, R157) -/

namespace Sys2Proof.Machine

/-- Every event raised is latched. -/
theorem State.raisedOnly.hasLatched {s t : State} {es : List Event} (h : s.raisedOnly t es) {e : Event} (he : e ∈ es) :
    t.hasLatched e := by
  intro n
  rw [h n, ← s.raiseAll_raisedOnly es n]
  exact s.raiseAll_hasLatched he n

/-- R15, R16: what a completed rejection records and raises. -/
theorem State.completeRejection_spec (s : State) (e : Entry) (r : RejectReason) : ∃ au,
    s.completeRejection e r = { s with
      fq := { s.fq with rejection := some ⟨e.serial, e.key, r⟩, held := { s.fq.held with rejected := true } }
      au := au } ∧
    s.raisedOnly (s.completeRejection e r) ((if s.fq.held.rejected then [] else [.queueHeld]) ++ [.entryRejected]) := by
  obtain ⟨au, hadd, hraised⟩ := (s.withFq { s.fq with rejection := some ⟨e.serial, e.key, r⟩ }).addHeld_spec .rejected
  refine ⟨mapLines (·.latch Event.entryRejected.set) au, ?_, State.raisedOnly_raise hraised .entryRejected⟩
  rw [State.completeRejection, hadd]
  rfl

theorem Entry.leave_completion {e : Entry} (h : e.isStored = true) (c : Completion) :
    (e.leave c).stored?.bind StoredPart.completion = some c := by
  obtain ⟨p, hp⟩ := Option.isSome_iff_exists.mp h
  obtain ⟨i, hbody⟩ : ∃ i, e.body = .stored i p := by
    cases hb : e.body <;> simp_all [Entry.stored?]
  rw [Entry.leave_stored hbody]
  rfl

section Rejection
variable {u : State} {e : Entry} {i : ImagePart} {q : Nat}

/-- The head of a list is its first entry. -/
theorem State.entries_of_head (h : u.head? = some e) : u.fq.entries = e :: u.fq.entries.tail :=
  (List.cons_head?_tail h).symm

/-- The entry that a start with stock codes that differ marks. -/
def Entry.mismatched (e : Entry) : Entry := e.withState (.rejected .stockMismatch)

theorem State.headRejected_entries (h : u.head? = some e) :
    u.headRejected.fq.entries = e.mismatched :: u.fq.entries.tail := by
  rw [State.headRejected, State.withEntries, State.withFq_fq, State.entries_of_head h]
  rfl

/-- R15: the first step of the settling of a head so marked. -/
theorem State.rejectStock_step (h : u.Offer e i q) : u.rejectStock =
    if e.isStored then u.headRejected.beginLeaving e.key .rejected
    else State.takeRejectedHead u.fq.entries.tail.length
      ((u.headRejected.removeAt 0).completeRejection e.mismatched .stockMismatch) := by
  obtain ⟨-, hleaving⟩ := e.offered_iff.mp h.offered
  have hentries := State.headRejected_entries h.head
  have hhead : u.headRejected.head? = some e.mismatched := by
    rw [State.head?, hentries]
    rfl
  have hlength : u.headRejected.fq.entries.length = u.fq.entries.tail.length + 1 := by
    rw [hentries]
    rfl
  rw [State.rejectStock_eq, State.settleHead, hlength, State.takeRejectedHead, hhead]
  dsimp only
  rw [show e.mismatched.rejected? = some .stockMismatch from rfl]
  dsimp only
  rw [show e.mismatched.leaving = false from hleaving]
  rfl

/-- R2, R15, R157: a STORED head rejected at its start begins leaving. -/
theorem State.rejectStock_stored (h : u.Offer e i q) (hstored : e.isStored = true) : ∃ st c w m,
    u.rejectStock = { u with
      fq := { u.fq with entries := e.mismatched.leave .rejected :: u.fq.entries.tail }
      sr := { u.sr with staging := st, channel := c, wbPos := w, wbList := u.sr.wbList ++ [e.key] }
      fmc := { u.fmc with mem := m } } := by
  obtain ⟨c, w, m, hleaving⟩ := u.headRejected.beginLeaving_shape e.key .rejected
  refine ⟨u.sr.staging.filter (fun g => g.key != e.key), c, w, m, ?_⟩
  rw [State.rejectStock_step h, if_pos hstored, hleaving, State.headRejected_entries h.head, changeEntry,
    if_pos (show e.mismatched.key = e.key from rfl)]
  rfl

/-- R14, R15, R157: a FLAT head rejected at its start is removed and reported. -/
theorem State.rejectStock_flat (h : u.Offer e i q) (hflat : e.isStored = false)
    (hnext : ∀ e', u.fq.entries[1]? = some e' → e'.rejected? = none) : ∃ a b au,
    u.rejectStock = { u with
      fq := { u.fq with
        entries := changeAt u.fq.entries.tail 1 Entry.entered
        held := { u.fq.held with rejected := true }
        rejection := some ⟨e.serial, e.key, .stockMismatch⟩ }
      fmc := { u.fmc with pinA := a, pinB := b }
      cs := (u.unname e).cs
      au := au } ∧
    u.raisedOnly u.rejectStock ((if u.fq.entries.tail = [] then [.queueEmpty] else []) ++
      ((if u.fq.held.rejected then [] else [.queueHeld]) ++ [.entryRejected])) := by
  have hentries := State.headRejected_entries h.head
  have hcs : (u.headRejected.unname e.mismatched).cs = (u.unname e).cs := by
    unfold State.unname
    rw [show e.mismatched.image? = e.image? from rfl]
    cases e.image? <;> rfl
  obtain ⟨a, b, au, hremoved, hempty⟩ := State.removeAt_shape (s := u.headRejected) (pos := 0) (e := e.mismatched)
    (by rw [hentries]; rfl)
  have hlist : removedAt u.headRejected.fq.entries 0 = changeAt u.fq.entries.tail 1 Entry.entered := by
    rw [hentries]
    rfl
  obtain ⟨au', hreported, hraised⟩ := (u.headRejected.removeAt 0).completeRejection_spec e.mismatched .stockMismatch
  have hshape : (u.headRejected.removeAt 0).completeRejection e.mismatched .stockMismatch = { u with
      fq := { u.fq with
        entries := changeAt u.fq.entries.tail 1 Entry.entered
        held := { u.fq.held with rejected := true }
        rejection := some ⟨e.serial, e.key, .stockMismatch⟩ }
      fmc := { u.fmc with pinA := a, pinB := b }
      cs := (u.unname e).cs
      au := au' } := by
    rw [hreported, hremoved, hlist, hcs]
    rfl
  have hstands : u.rejectStock = (u.headRejected.removeAt 0).completeRejection e.mismatched .stockMismatch := by
    rw [State.rejectStock_step h, if_neg (by rw [hflat]; exact nofun), State.takeRejectedHead_of_head]
    intro e' he'
    refine hnext e' ?_
    rw [State.head?, hshape] at he'
    rw [State.entries_of_head h.head, List.getElem?_cons_succ, ← List.head?_eq_getElem?, ← he']
    cases u.fq.entries.tail <;> rfl
  refine ⟨a, b, au', hstands.trans hshape, ?_⟩
  have hheld : (u.headRejected.removeAt 0).fq.held = u.fq.held := by
    rw [hremoved]
    rfl
  have hlength : u.headRejected.fq.entries.length = 1 ↔ u.fq.entries.tail = [] := by
    rw [hentries, ← List.length_eq_zero_iff, List.length_cons, Nat.add_eq_right]
  rw [hstands, ← hheld]
  simp only [hlength] at hempty
  exact State.raisedOnly_trans (s := u) hempty hraised

end Rejection

end Sys2Proof.Machine
end

section
/-! ## The settling of O40: stock codes that differ -/

namespace Sys2Proof.Machine

section Mismatch
variable {b u : State} {e : Entry} {i : ImagePart} {v : SetContent} {tag : MagazineTag} {q : Nat}

/-- A state that ends an event in which the head was rejected: the queue, the sets, the write-back list, the gate and
the map are those the rejection left, and what it latched is latched. -/
structure State.EndsRejection (r t : State) : Prop where
  fq : t.fq = r.rejectStock.fq
  cs : t.cs = r.rejectStock.cs
  wbList : t.sr.wbList = r.rejectStock.sr.wbList
  gc : t.gc = r.gc
  rm : t.rm = r.rm
  latches : r.rejectStock.latchKept t

/-- R157, R15: the rejection, told from the state before the event, which had the queue, the sets and the write-backs
that the rejection found. -/
theorem State.EndsRejection.stockRejected {s r t : State} (h : r.EndsRejection t) (hoffer : r.Offer e i q)
    (hnext : ∀ e', r.fq.entries[1]? = some e' → e'.rejected? = none)
    (hqueue : s.fq.rejection = r.fq.rejection ∧ s.fq.entries = r.fq.entries)
    (hrest : s.cs = r.cs ∧ s.sr.wbList = r.sr.wbList) (hau : e.isStored = true → t.au = s.au) :
    s.stockRejected t r.fq.held e i := by
  obtain ⟨hrejection, hentries⟩ := hqueue
  obtain ⟨hcs, hwb⟩ := hrest
  refine ⟨fun hstored => ?_, fun hflat => ?_⟩
  · obtain ⟨st, c, w, m, hshape⟩ := State.rejectStock_stored hoffer hstored
    have hmarked : e.mismatched.isStored = true := hstored
    obtain ⟨-, hstate⟩ := Entry.leave_of_rejected hmarked rfl .rejected
    rw [h.fq, h.cs, h.wbList, hshape, hrejection, hcs, hwb]
    refine ⟨rfl, rfl, hau hstored, rfl, rfl, e.mismatched.leave .rejected, ?_, Entry.leave_key _ _, hstate,
      Entry.leave_completion hmarked _⟩
    rw [State.head?, h.fq, hshape]
    rfl
  · obtain ⟨a, b, au, hshape, hraised⟩ := State.rejectStock_flat hoffer hflat hnext
    have hlatched {ev : Event} (hin : ev ∈ (if r.fq.entries.tail = [] then [.queueEmpty] else []) ++
        ((if r.fq.held.rejected then [] else [.queueHeld]) ++ [.entryRejected])) : t.hasLatched ev :=
      h.latches.hasLatched (hraised.hasLatched hin)
    rw [h.fq, hshape]
    refine ⟨rfl, rfl, hlatched (by simp), fun hfirst => hlatched (by simp [hfirst]), ?_, fun hset => ?_⟩
    · rw [hentries, ← List.map_tail]
      exact changeAt_map _ _ _ _ Entry.entered_key
    · have hcounts := r.unname_countChanged e
      rw [show e.core.set = some i.set by rw [Entry.core, hoffer.image]; rfl] at hcounts
      have hcount := State.useCount_of_countChanged (t := r.unname e) hcounts (by omega)
      unfold State.setAt at hcount ⊢
      rw [h.cs, hshape, hcs]
      exact hcount

/-- R157: with stock codes that differ the event that poised the part ends with the head rejected. -/
theorem State.Poised.rejects (h : u.Poised e i v tag q) (hstock : v.stock ≠ tag.stock) (hb : b.frameReady = false)
    (htables : u.tablesInRange) :
    u.EndsRejection (State.settle b u) ∧ (State.settle b u).au = u.rejectStock.au := by
  obtain ⟨p, hport, -⟩ := State.recordsEnd_port b u.rejectStock
  have hsettle : State.settle b u = (u.rejectStock.withPort p).quiesce := by
    rw [State.settle, h.startIfDue hb, if_neg hstock, hport]
  have hnone : (u.rejectStock.withPort p).exposure? = none :=
    (State.exposure?_congr u.rejectStock_film).trans (State.exposure?_of_ready h.gate)
  have htables' : (u.rejectStock.withPort p).tablesInRange := u.rejectStock_follows.tablesInRange htables
  obtain ⟨hgc, hrm, hfq⟩ := State.quiesce_ended_kept hnone htables'
  obtain ⟨g, st, f, w, c, m, a, b', j, hquiet, -⟩ := State.quiesce_shape _ htables'
  have hau : (State.settle b u).au = u.rejectStock.au := by
    rw [hsettle, hquiet]
    rfl
  refine ⟨⟨by rw [hsettle, hfq]; rfl, by rw [hsettle, hquiet]; rfl, by rw [hsettle, hquiet]; rfl, ?_, ?_,
    State.latchKept_of_au hau⟩, hau⟩
  · rw [hsettle, hgc]
    exact congrArg Prod.fst u.rejectStock_film
  · rw [hsettle, hrm]
    exact congrArg Prod.snd u.rejectStock_film

theorem State.rejectStock_au_stored (h : u.Offer e i q) (hstored : e.isStored = true) : u.rejectStock.au = u.au := by
  obtain ⟨st, c, w, m, hshape⟩ := State.rejectStock_stored h hstored
  rw [hshape]

/-- The rejection at the end of an event, told from the state before the event. -/
theorem State.Poised.stockRejected (h : u.Poised e i v tag q) (hstock : v.stock ≠ tag.stock) (hb : b.frameReady = false)
    (htables : u.tablesInRange) (hnext : ∀ e', u.fq.entries[1]? = some e' → e'.rejected? = none) {s : State}
    (hqueue : s.fq.rejection = u.fq.rejection ∧ s.fq.entries = u.fq.entries)
    (hrest : s.cs = u.cs ∧ s.sr.wbList = u.sr.wbList) (hau : u.au = s.au) :
    s.stockRejected (State.settle b u) u.fq.held e i := by
  obtain ⟨hends, hauEnd⟩ := h.rejects hstock hb htables
  exact hends.stockRejected h.toOffer hnext hqueue hrest fun hstored =>
    hauEnd.trans ((State.rejectStock_au_stored h.toOffer hstored).trans hau)

/-- A mark in which the head was rejected, at its end. -/
theorem State.endsRejection_of_mark {s r u : State} (hoffer : s.Offer e i q) (htables : s.tablesInRange)
    (only : s.ScanOnly r) (after : r.rejectStock.ScanOnly u) (latches : r.rejectStock.latchKept u) :
    r.EndsRejection u.quiesce := by
  have hnone : u.exposure? = none :=
    after.exposure?.trans ((State.exposure?_congr r.rejectStock_film).trans
      (only.exposure?.trans (State.exposure?_of_ready hoffer.gate)))
  have htables' : u.tablesInRange := by
    have hr : r.tablesInRange := by
      unfold State.tablesInRange
      rw [only.fq]
      exact htables
    have hreject := r.rejectStock_follows.tablesInRange hr
    unfold State.tablesInRange
    rw [after.fq]
    exact hreject
  obtain ⟨hgc, hrm, hfq⟩ := State.quiesce_ended_kept hnone htables'
  obtain ⟨g, st, f, w, c, m, a, b', j, hquiet, -⟩ := State.quiesce_shape _ htables'
  have hau : u.quiesce.au = u.au := by rw [hquiet]
  have hlatches : r.rejectStock.latchKept u.quiesce := latches.trans (State.latchKept_of_au hau)
  obtain ⟨k, l, a', hafter⟩ := after
  refine ⟨by rw [hfq, hafter], by rw [hquiet, hafter], by rw [hquiet, hafter], ?_, ?_, hlatches⟩
  · rw [hgc, hafter]
    exact congrArg Prod.fst r.rejectStock_film
  · rw [hrm, hafter]
    exact congrArg Prod.snd r.rejectStock_film

end Mismatch

/-! ### A FLAT submission into the empty list -/

theorem HeldSet.rejected_of_unheld {h : HeldSet} (hany : h.any = false) : h.rejected = false := by
  cases hrejected : h.rejected with
  | false => rfl
  | true => simp [HeldSet.any, hrejected] at hany

/-- R14, R15, R157: the only entry, just submitted, is removed and reported. -/
theorem State.enlisted_rejects {s : State} {a : Addr} {g : FlatArgs} (hempty : s.fq.entries = [])
    (hfront : g.front = false) (hlocked : s.isLocked = true) (hheld : s.fq.held.any = false) {q : Nat}
    (hoffer : (s.enlisted a (flatSubmission g)).Offer (flatHead s.fq.serial a g)
      ⟨g.set, g.width, g.height, g.lights, g.repeats, 0⟩ q) (hset : g.set < 8) :
    let w := (s.enlisted a (flatSubmission g)).rejectStock
    w.fq = ⟨[], { s.fq.held with rejected := true }, some ⟨s.fq.serial, ⟨a.toNat, g.tag⟩, .stockMismatch⟩,
      s.fq.serial + 1⟩ ∧
    (w.setAt g.set).useCount = (s.setAt g.set).useCount ∧ s.raisedOnly w [.queueEmpty, .queueHeld, .entryRejected] := by
  intro w
  obtain ⟨st, c, p, m, pa, pb, cs, hshape, hjoined⟩ := s.enlisted_flat (a := a) (g := g) hempty hfront hlocked
  have hentries : (s.enlisted a (flatSubmission g)).fq.entries = [flatHead s.fq.serial a g] := by rw [hshape]
  have hfree : (s.enlisted a (flatSubmission g)).fq.held.rejected = false := by
    rw [hshape]
    exact HeldSet.rejected_of_unheld hheld
  obtain ⟨a', b', au, hreject, hraised⟩ := State.rejectStock_flat hoffer (by rfl) fun e' he' => by
    rw [hentries] at he'
    exact nomatch he'
  rw [hentries, hfree] at hraised
  refine ⟨?_, ?_, ?_⟩
  · rw [show w = _ from hreject, hentries, hshape]
    rfl
  · have hleft := State.useCount_of_countChanged (t := (s.enlisted a (flatSubmission g)).unname (flatHead s.fq.serial a g))
      ((s.enlisted a (flatSubmission g)).unname_countChanged _) hset
    have hadded : ((s.enlisted a (flatSubmission g)).setAt g.set).useCount = (s.setAt g.set).useCount + 1 :=
      State.useCount_of_countChanged (by rw [hshape]; exact hjoined) hset
    rw [hadded, Nat.add_sub_cancel] at hleft
    rw [← hleft, State.setAt, State.setAt, show w = _ from hreject]
  · have hau : (s.enlisted a (flatSubmission g)).au = s.au := by rw [hshape]
    unfold State.raisedOnly at hraised ⊢
    rw [hau] at hraised
    exact hraised

/-! ### The end of a write-back -/

/-- The entry behind the head written back is rejected: a STORED one stays and leaves, a FLAT one goes. -/
theorem State.writtenBack_rejects {s t : State} {ks : List Key} {e0 e : Entry} {es : List Entry} {i j : ImagePart}
    {p : StoredPart} {q : Nat} (hes : s.fq.entries = e0 :: e :: es) (hbody : e0.body = .stored j p)
    (hc : p.completion = some .exposed ∨ p.completion = some .cancelled) (hheld : s.fq.held.any = false)
    (hoffer : (s.writtenBack e0 ks 0).Offer e i q) (hends : (s.writtenBack e0 ks 0).EndsRejection t)
    (hau : e.isStored = true → t.au = (s.writtenBack e0 ks 0).au)
    (hnext : ∀ e', es.head? = some e' → e'.rejected? = none) :
    t.gc = s.gc ∧ t.rm = s.rm ∧
    (e.isStored = true → t.sr.wbList = ks ++ [e.key] ∧ t.fq.held = s.fq.held ∧
      t.fq.rejection = s.fq.rejection ∧ t.fq.entries.map Entry.key = (e :: es).map Entry.key ∧
      ∃ e', t.head? = some e' ∧ e'.key = e.key ∧ e'.state = .rejected .stockMismatch ∧
        e'.stored?.bind StoredPart.completion = some .rejected) ∧
    (e.isStored = false → t.sr.wbList = ks ∧ t.fq.held = { s.fq.held with rejected := true } ∧
      t.fq.rejection = some ⟨e.serial, e.key, .stockMismatch⟩ ∧
      t.fq.entries.map Entry.key = es.map Entry.key ∧ t.hasLatched .entryRejected ∧ t.hasLatched .queueHeld) := by
  obtain ⟨c, m, a, b, au, hshape, -⟩ := State.writtenBack_head (ks := ks) hes hbody hc
  have hfq : (s.writtenBack e0 ks 0).fq = { s.fq with entries := e :: changeAt es 0 Entry.entered } := by rw [hshape]
  have hwb : (s.writtenBack e0 ks 0).sr.wbList = ks := by rw [hshape]
  have hkeys : (changeAt es 0 Entry.entered).map Entry.key = es.map Entry.key := changeAt_map _ _ _ _ Entry.entered_key
  have hnext' : ∀ e', (s.writtenBack e0 ks 0).fq.entries[1]? = some e' → e'.rejected? = none := fun e' he' => by
    rw [hfq] at he'
    cases es with
    | nil => exact nomatch he'
    | cons x xs =>
      obtain rfl : x.entered = e' := Option.some.inj he'
      exact Entry.entered_rejected? (hnext x rfl)
  obtain ⟨hstays, hgoes⟩ := hends.stockRejected hoffer hnext' ⟨rfl, rfl⟩ ⟨rfl, rfl⟩ hau
  rw [hfq] at hstays hgoes
  rw [hwb] at hstays
  refine ⟨by rw [hends.gc, hshape], by rw [hends.rm, hshape], fun hstored => ?_, fun hflat => ?_⟩
  · obtain ⟨hheld', hrejection, -, -, hwbs, hhead⟩ := hstays hstored
    refine ⟨hwbs, hheld', hrejection, ?_, hhead⟩
    obtain ⟨st, c', w, m', hreject⟩ := State.rejectStock_stored hoffer hstored
    rw [hends.fq, hreject, hfq, List.map_cons, Entry.leave_key]
    exact congrArg (e.key :: ·) hkeys
  · obtain ⟨hrejection, hheld', hrejected, hqueueHeld, hlist, -⟩ := hgoes hflat
    obtain ⟨a', b', au', hreject, -⟩ := State.rejectStock_flat hoffer hflat hnext'
    refine ⟨?_, hheld', hrejection, hlist.trans hkeys, hrejected, hqueueHeld (HeldSet.rejected_of_unheld hheld)⟩
    rw [hends.wbList, hreject, hwb]

/-- Settles O40: each of the five events poises the part, and its end rejects the head. -/
theorem stockMismatchRejectsHead : Obligations.StockMismatchRejectsHead := by
  refine ⟨fun a q e i v tag s htakes hrole hgate hpassed hcapacity hheld hoffers hstock htables hnext => ?_,
    fun a q e i v tag s htakes hrole hgate hheld hoffers hstock htables hnext => ?_,
    fun a q g v tag s htakes hrole hgate hheld hempty hhalted hlocked hlasers hvalid hfront hv htag hstock => ?_,
    fun control k ks e0 e es j i p q v tag s hrun hbusy hlast hlist hes hkey hbody hc _ hstaged hleaving hi hgate hhalted
      hheld hlocked hlasers hv htag hstock htables hnext => ?_,
    fun ticks m o q e i v tag s t hgate hnone hhalted hheld hframe hhead hi hv htag hstock htables hnext ht hlocked
      hlasers => ?_⟩
  · have hopen := hgate.imp id fun h => Or.inr (a := s.gateReady = true) h
    have hpoised := State.filmRegistered_poised hpassed hheld hoffers
    have hbefore := State.frameReady_of_gate (State.gateReady_of_closed hgate)
    have htables' := s.filmRegistered_tablesInRange htables q
    obtain ⟨m, p, hshape⟩ := State.filmRegistered_shape hpassed
    obtain ⟨hends, -⟩ := hpoised.rejects hstock hbefore htables'
    have hfq : (s.filmRegistered q).fq = s.fq := by rw [hshape]
    refine ⟨_, gateReady_taken htakes hrole hopen hpassed hcapacity, ?_, ?_, hfq ▸ ?_⟩
    · rw [hends.gc, hshape]
    · rw [hends.rm, hshape]
    · exact hpoised.stockRejected hstock hbefore htables' (hfq ▸ hnext) (by rw [hshape]; exact ⟨rfl, rfl⟩)
        (by rw [hshape]; exact ⟨rfl, rfl⟩) (by rw [hshape])
  · have hpoised := State.released_poised hgate hoffers
    have hbefore := State.frameReady_of_held hheld
    obtain ⟨hends, -⟩ := hpoised.rejects hstock hbefore htables
    exact ⟨_, release_taken htakes hrole, hends.gc, hends.rm,
      hpoised.stockRejected hstock hbefore htables hnext ⟨rfl, rfl⟩ ⟨rfl, rfl⟩ rfl⟩
  · have hpoised := State.enlisted_poised (a := a) hgate hheld hempty hhalted hlocked hlasers hfront hv htag
    have hbefore : s.frameReady = false := State.frameReady_of_head fun e' he' => by
      rw [State.head?, hempty] at he'
      exact nomatch he'
    have htables' := State.enlisted_tablesInRange (a := a) hempty hfront hlocked
    obtain ⟨st, c, p, m, pa, pb, cs, hshape, -⟩ := s.enlisted_flat (a := a) (g := g) hempty hfront hlocked
    obtain ⟨hends, hau⟩ := hpoised.rejects hstock hbefore htables'
    obtain ⟨hfq, hcount, hraised⟩ := State.enlisted_rejects hempty hfront hlocked hheld hpoised.toOffer
      (State.lt_of_ready hv)
    refine ⟨_, submitFlat_taken htakes hrole hempty hvalid hfront hv, ?_, ?_, hends.fq.trans hfq, ?_,
      State.raisedOnly_of_au hraised hau⟩
    · rw [hends.gc, hshape]
    · rw [hends.rm, hshape]
    · rw [← hcount, State.setAt, hends.cs, State.setAt]
  · have hpoised := State.writtenBack_poised (ks := ks) hes hbody hc hstaged hleaving hi hgate hhalted hheld hlocked hlasers hv
      htag
    have hbefore := State.frameReady_of_leaving hes hbody hc
    have htables' := State.writtenBack_tables (ks := ks) (show s.fq.entries[0]? = some e0 by rw [hes]; rfl) htables
    obtain ⟨hends, hau⟩ := hpoised.rejects hstock hbefore htables'
    exact ⟨_, writeBackMarking_settles hrun hbusy hlast hlist hes hkey hbody hc hstaged,
      State.writtenBack_rejects hes hbody hc hheld hpoised.toOffer hends
        (fun hstored => hau.trans (State.rejectStock_au_stored hpoised.toOffer hstored)) hnext⟩
  · have hoffer := State.offer_of_head hgate hhalted hheld hframe hhead hi
    rcases State.mark_decides hnone hoffer hv htag ht hlocked hlasers with
      ⟨u, lcu, hbegun, -⟩ | ⟨-, r, u, only, after, latches, rfl⟩
    · exact absurd hbegun.stock hstock
    · have hends := State.endsRejection_of_mark hoffer htables only after latches
      have hfq := only.fq
      refine ⟨hends.gc.trans only.gc, ?_, hfq ▸ ?_⟩
      · rw [hends.rm]
        obtain ⟨k, l, a', hr⟩ := only
        rw [hr]
      · refine hends.stockRejected (hoffer.of_scanOnly only) (hfq ▸ hnext) ?_ ?_ fun _ => rfl
        · rw [hfq]
          exact ⟨rfl, rfl⟩
        · obtain ⟨k, l, a', hr⟩ := only
          rw [hr]
          exact ⟨rfl, rfl⟩

end Sys2Proof.Machine
end
